-- ==== Sys2Proof/Word.lean ====
section
/-! DEFINITION. The plain arithmetic words of the manual (R1): bytes, sensor identifiers, clamping, saturating
counts, and the time unit of the model. -/
namespace Sys2Proof

/-- A byte of a frame, a telegram or a summary. -/
abbrev Byte := BitVec 8

/-- A 32-bit sensor identifier (R2). -/
abbrev SensorId := BitVec 32

/-- A set of positions, pairs, axles or channels as a notice detail carries it (R167): bit n stands for member n. -/
abbrev Mask := BitVec 24

/-- R1: a value below `lo` becomes `lo`, one above `hi` becomes `hi`, any other is kept. -/
def clampInt (lo hi v : Int) : Int :=
  if v < lo then lo else if hi < v then hi else v

/-- R1: a count that stops at `top` in place of wrapping. -/
def countUp (top n : Nat) : Nat :=
  if n + 1 ≤ top then n + 1 else top

/-- Milliseconds in the model's unit of time, the microsecond. -/
def millis (n : Nat) : Nat := n * 1000

/-- Seconds in the model's unit of time, the microsecond. -/
def seconds (n : Nat) : Nat := n * 1000000

/-- The distance between two pressures. -/
def absDiff (a b : Nat) : Nat := if a ≤ b then b - a else a - b

end Sys2Proof
end

