-- ==== Sys2Proof/Machine/Containers.lean ====
section
/-! DEFINITION. The names of the part's axles, positions, groups, channels and inputs (chapter "Conventions", R1), and
one container type for each family of like things: a record with one field for each name, so that no index can be out
of range. -/
namespace Sys2Proof

/-- The axles A1 to A5, counted from the front. -/
inductive AxleId where
  | a1 | a2 | a3 | a4 | a5
deriving DecidableEq, Repr

/-- The tyre slots of an axle: left outer, left inner, right inner, right outer. -/
inductive Slot where
  | lo | li | ri | ro
deriving DecidableEq, Repr

/-- The side of an axle: the left pair is (LO, LI), the right pair (RI, RO). -/
inductive Side where
  | left | right
deriving DecidableEq, Repr

/-- A position of the wheel position table (R1): a road position, or one of the two spare-wheel positions. -/
inductive Position where
  | road (axle : AxleId) (slot : Slot)
  | sp1
  | sp2
deriving DecidableEq, Repr

/-- The two load groups. -/
inductive GroupId where
  | g1 | g2
deriving DecidableEq, Repr

/-- The three modulator channels CH-L, CH-R and CH-X. -/
inductive ChannelId where
  | chL | chR | chX
deriving DecidableEq, Repr

/-- The six wheel-speed inputs S1 to S6. -/
inductive WheelId where
  | s1 | s2 | s3 | s4 | s5 | s6
deriving DecidableEq, Repr

/-- The eight analog inputs (R49). -/
inductive AnalogId where
  | ctl | sup | dl | dr | dx | b1 | b2 | lat
deriving DecidableEq, Repr

/-- One thing for each axle. -/
structure PerAxle (α : Type) where
  a1 : α
  a2 : α
  a3 : α
  a4 : α
  a5 : α
deriving DecidableEq, Repr

/-- One thing for each tyre slot of an axle. -/
structure PerSlot (α : Type) where
  lo : α
  li : α
  ri : α
  ro : α
deriving DecidableEq, Repr

/-- One thing for each side of an axle. -/
structure PerSide (α : Type) where
  left : α
  right : α
deriving DecidableEq, Repr

/-- One thing for each of the 22 positions. -/
structure PerPosition (α : Type) where
  road : PerAxle (PerSlot α)
  sp1 : α
  sp2 : α
deriving DecidableEq, Repr

/-- One thing for each load group. -/
structure PerGroup (α : Type) where
  g1 : α
  g2 : α
deriving DecidableEq, Repr

/-- One thing for each modulator channel. -/
structure PerChannel (α : Type) where
  chL : α
  chR : α
  chX : α
deriving DecidableEq, Repr

/-- One thing for each wheel-speed input. -/
structure PerWheel (α : Type) where
  s1 : α
  s2 : α
  s3 : α
  s4 : α
  s5 : α
  s6 : α
deriving DecidableEq, Repr

/-- One thing for each analog input. -/
structure PerAnalog (α : Type) where
  ctl : α
  sup : α
  dl : α
  dr : α
  dx : α
  b1 : α
  b2 : α
  lat : α
deriving DecidableEq, Repr

/-! ### Reading and writing one member -/

def PerAxle.get {α : Type} (t : PerAxle α) : AxleId → α
  | .a1 => t.a1
  | .a2 => t.a2
  | .a3 => t.a3
  | .a4 => t.a4
  | .a5 => t.a5

def PerAxle.set {α : Type} (t : PerAxle α) (i : AxleId) (x : α) : PerAxle α :=
  match i with
  | .a1 => { t with a1 := x }
  | .a2 => { t with a2 := x }
  | .a3 => { t with a3 := x }
  | .a4 => { t with a4 := x }
  | .a5 => { t with a5 := x }

def PerAxle.map {α β : Type} (f : α → β) (t : PerAxle α) : PerAxle β :=
  ⟨f t.a1, f t.a2, f t.a3, f t.a4, f t.a5⟩

/-- The same thing for every axle. -/
def PerAxle.all {α : Type} (x : α) : PerAxle α := ⟨x, x, x, x, x⟩

def PerSlot.get {α : Type} (t : PerSlot α) : Slot → α
  | .lo => t.lo
  | .li => t.li
  | .ri => t.ri
  | .ro => t.ro

def PerSlot.set {α : Type} (t : PerSlot α) (i : Slot) (x : α) : PerSlot α :=
  match i with
  | .lo => { t with lo := x }
  | .li => { t with li := x }
  | .ri => { t with ri := x }
  | .ro => { t with ro := x }

def PerSlot.map {α β : Type} (f : α → β) (t : PerSlot α) : PerSlot β :=
  ⟨f t.lo, f t.li, f t.ri, f t.ro⟩

def PerSide.get {α : Type} (t : PerSide α) : Side → α
  | .left => t.left
  | .right => t.right

def PerSide.set {α : Type} (t : PerSide α) (i : Side) (x : α) : PerSide α :=
  match i with
  | .left => { t with left := x }
  | .right => { t with right := x }

def PerPosition.get {α : Type} (t : PerPosition α) : Position → α
  | .road a sl => (t.road.get a).get sl
  | .sp1 => t.sp1
  | .sp2 => t.sp2

def PerPosition.set {α : Type} (t : PerPosition α) (i : Position) (x : α) : PerPosition α :=
  match i with
  | .road a sl => { t with road := t.road.set a ((t.road.get a).set sl x) }
  | .sp1 => { t with sp1 := x }
  | .sp2 => { t with sp2 := x }

def PerPosition.map {α β : Type} (f : α → β) (t : PerPosition α) : PerPosition β :=
  ⟨t.road.map (PerSlot.map f), f t.sp1, f t.sp2⟩

/-- The same thing for every position. -/
def PerPosition.all {α : Type} (x : α) : PerPosition α := ⟨.all ⟨x, x, x, x⟩, x, x⟩

def PerGroup.get {α : Type} (t : PerGroup α) : GroupId → α
  | .g1 => t.g1
  | .g2 => t.g2

def PerGroup.set {α : Type} (t : PerGroup α) (i : GroupId) (x : α) : PerGroup α :=
  match i with
  | .g1 => { t with g1 := x }
  | .g2 => { t with g2 := x }

def PerChannel.get {α : Type} (t : PerChannel α) : ChannelId → α
  | .chL => t.chL
  | .chR => t.chR
  | .chX => t.chX

def PerChannel.set {α : Type} (t : PerChannel α) (i : ChannelId) (x : α) : PerChannel α :=
  match i with
  | .chL => { t with chL := x }
  | .chR => { t with chR := x }
  | .chX => { t with chX := x }

def PerChannel.map {α β : Type} (f : α → β) (t : PerChannel α) : PerChannel β :=
  ⟨f t.chL, f t.chR, f t.chX⟩

def PerWheel.get {α : Type} (t : PerWheel α) : WheelId → α
  | .s1 => t.s1
  | .s2 => t.s2
  | .s3 => t.s3
  | .s4 => t.s4
  | .s5 => t.s5
  | .s6 => t.s6

def PerWheel.set {α : Type} (t : PerWheel α) (i : WheelId) (x : α) : PerWheel α :=
  match i with
  | .s1 => { t with s1 := x }
  | .s2 => { t with s2 := x }
  | .s3 => { t with s3 := x }
  | .s4 => { t with s4 := x }
  | .s5 => { t with s5 := x }
  | .s6 => { t with s6 := x }

def PerWheel.map {α β : Type} (f : α → β) (t : PerWheel α) : PerWheel β :=
  ⟨f t.s1, f t.s2, f t.s3, f t.s4, f t.s5, f t.s6⟩

/-- The same thing for every wheel-speed input. -/
def PerWheel.all {α : Type} (x : α) : PerWheel α := ⟨x, x, x, x, x, x⟩

def PerAnalog.get {α : Type} (t : PerAnalog α) : AnalogId → α
  | .ctl => t.ctl
  | .sup => t.sup
  | .dl => t.dl
  | .dr => t.dr
  | .dx => t.dx
  | .b1 => t.b1
  | .b2 => t.b2
  | .lat => t.lat

def PerAnalog.set {α : Type} (t : PerAnalog α) (i : AnalogId) (x : α) : PerAnalog α :=
  match i with
  | .ctl => { t with ctl := x }
  | .sup => { t with sup := x }
  | .dl => { t with dl := x }
  | .dr => { t with dr := x }
  | .dx => { t with dx := x }
  | .b1 => { t with b1 := x }
  | .b2 => { t with b2 := x }
  | .lat => { t with lat := x }

/-- The same thing for every analog input. -/
def PerAnalog.all {α : Type} (x : α) : PerAnalog α := ⟨x, x, x, x, x, x, x, x⟩

/-! ### The members in order, and their numbers -/

/-- A1 to A5 from the front. -/
def AxleId.list : List AxleId := [.a1, .a2, .a3, .a4, .a5]

/-- The four slots in slot-number order. -/
def Slot.list : List Slot := [.lo, .li, .ri, .ro]

def Side.list : List Side := [.left, .right]

def GroupId.list : List GroupId := [.g1, .g2]

def ChannelId.list : List ChannelId := [.chL, .chR, .chX]

def WheelId.list : List WheelId := [.s1, .s2, .s3, .s4, .s5, .s6]

/-- In the bit order of the INPUT FAULT set (R165). -/
def AnalogId.list : List AnalogId := [.ctl, .sup, .dl, .dr, .dx, .b1, .b2, .lat]

/-- The positions in index order 0 to 21. -/
def Position.list : List Position :=
  (AxleId.list.flatMap fun a => Slot.list.map fun sl => .road a sl) ++ [.sp1, .sp2]

/-- The axle's number 1 to 5, its code in frames (10.4). -/
def AxleId.number : AxleId → Nat
  | .a1 => 1
  | .a2 => 2
  | .a3 => 3
  | .a4 => 4
  | .a5 => 5

def AxleId.ofNumber : Nat → Option AxleId
  | 1 => some .a1
  | 2 => some .a2
  | 3 => some .a3
  | 4 => some .a4
  | 5 => some .a5
  | _ => none

def Slot.number : Slot → Nat
  | .lo => 0
  | .li => 1
  | .ri => 2
  | .ro => 3

/-- R1: a road position's index is (axle − 1) × 4 + slot number; SP1 is 20 and SP2 is 21. -/
def Position.index : Position → Nat
  | .road a sl => (a.number - 1) * 4 + sl.number
  | .sp1 => 20
  | .sp2 => 21

/-- The position an index names; none above 21. -/
def Position.ofIndex (n : Nat) : Option Position := Position.list[n]?

def Side.number : Side → Nat
  | .left => 0
  | .right => 1

/-- R1: a pair's number is (axle − 1) × 2 + side. -/
def pairNumber (a : AxleId) (sd : Side) : Nat := (a.number - 1) * 2 + sd.number

/-- R17: the side of an axle on which a slot stands. -/
def Slot.side : Slot → Side
  | .lo => .left
  | .li => .left
  | .ri => .right
  | .ro => .right

/-- R17: the outer member of a pair. -/
def Side.outer : Side → Slot
  | .left => .lo
  | .right => .ro

/-- R17: the inner member of a pair. -/
def Side.inner : Side → Slot
  | .left => .li
  | .right => .ri

/-- The group's code in frames: G1 is 01h and G2 is 02h (10.4). -/
def GroupId.number : GroupId → Nat
  | .g1 => 1
  | .g2 => 2

def GroupId.ofNumber : Nat → Option GroupId
  | 1 => some .g1
  | 2 => some .g2
  | _ => none

/-- The channel's code in frames: CH-L 01h, CH-R 02h, CH-X 03h (10.4). -/
def ChannelId.number : ChannelId → Nat
  | .chL => 1
  | .chR => 2
  | .chX => 3

def ChannelId.ofNumber : Nat → Option ChannelId
  | 1 => some .chL
  | 2 => some .chR
  | 3 => some .chX
  | _ => none

/-- S1 to S6 as 1 to 6 (R165). -/
def WheelId.number : WheelId → Nat
  | .s1 => 1
  | .s2 => 2
  | .s3 => 3
  | .s4 => 4
  | .s5 => 5
  | .s6 => 6

def WheelId.ofNumber : Nat → Option WheelId
  | 1 => some .s1
  | 2 => some .s2
  | 3 => some .s3
  | 4 => some .s4
  | 5 => some .s5
  | 6 => some .s6
  | _ => none

/-- The input's number in fault details and in the INPUT FAULT set (R167). -/
def AnalogId.number : AnalogId → Nat
  | .ctl => 0
  | .sup => 1
  | .dl => 2
  | .dr => 3
  | .dx => 4
  | .b1 => 5
  | .b2 => 6
  | .lat => 7

/-- R67: the bellows input of a group. -/
def GroupId.bellows : GroupId → AnalogId
  | .g1 => .b1
  | .g2 => .b2

/-- R49: the delivered-pressure input of a channel. -/
def ChannelId.delivered : ChannelId → AnalogId
  | .chL => .dl
  | .chR => .dr
  | .chX => .dx

end Sys2Proof
end

