-- ==== Sys2Proof/Syntax.lean ====
section
/-! DEFINITION. The commands of the part: one constructor of `Instr` for each row of spec/opcode_table.json, in the
table's order. The table gives the rows no operands; they are taken from the rule each row names. Every command carries
`dt`, the time in microseconds since the command before it, so that a queue of commands is a timed trace (DESIGN CHOICE, notes 1). -/
namespace Sys2Proof

/-- The parameter part of a request frame (R157, R167): the parameter count of frame byte 1, and the bytes from frame
byte 2 on. A byte the list does not hold is 00h, as the layout has it for unused bytes. -/
structure Params where
  count : Nat
  bytes : List Byte
deriving DecidableEq, Repr

/-- The commands. Requests carry the parameter part of their frame; events carry the object they concern. -/
inductive Instr where
  | powerOn (dt : Nat) (wakeHigh : Bool) (wires : PerWheel Bool)
  | frameError (dt : Nat)
  | unknownRequest (dt : Nat) (code : Byte)
  | noOperation (dt : Nat) (p : Params)
  | identify (dt : Nat) (p : Params)
  | faultDetail (dt : Nat) (p : Params)
  | restart (dt : Nat) (p : Params)
  | setResetPolicy (dt : Nat) (p : Params)
  | fetchNotices (dt : Nat) (p : Params)
  | setNoticeEnables (dt : Nat) (p : Params)
  | readPosition (dt : Nat) (p : Params)
  | findSensor (dt : Nat) (p : Params)
  | readPositions (dt : Nat) (p : Params)
  | setBatchSize (dt : Nat) (p : Params)
  | continueRead (dt : Nat) (p : Params)
  | readCandidates (dt : Nat) (p : Params)
  | setPositionSetpoints (dt : Nat) (p : Params)
  | writeSetpoints (dt : Nat) (p : Params)
  | swapPositions (dt : Nat) (p : Params)
  | retireSensor (dt : Nat) (p : Params)
  | adoptCandidate (dt : Nat) (p : Params)
  | writeTyreParameters (dt : Nat) (p : Params)
  | beginLearn (dt : Nat) (p : Params)
  | cancelLearn (dt : Nat) (p : Params)
  | readAxle (dt : Nat) (p : Params)
  | writeAxleLayout (dt : Nat) (p : Params)
  | writeGroupCalibration (dt : Nat) (p : Params)
  | writeBrakeCharacteristic (dt : Nat) (p : Params)
  | setLiftMode (dt : Nat) (p : Params)
  | readLoadState (dt : Nat) (p : Params)
  | postDemand (dt : Nat) (p : Params)
  | readBrakeState (dt : Nat) (p : Params)
  | writeStabilityParameters (dt : Nat) (p : Params)
  | readStabilityState (dt : Nat) (p : Params)
  | enterWorkshop (dt : Nat) (p : Params)
  | leaveWorkshop (dt : Nat) (p : Params)
  | stageStep (dt : Nat) (p : Params)
  | runStep (dt : Nat) (p : Params)
  | clearBrakeFault (dt : Nat) (p : Params)
  | saveTables (dt : Nat) (p : Params)
  | restoreTables (dt : Nat) (p : Params)
  | saveEnd (dt : Nat) (readBackEqual : Bool)
  | telegramArrival (dt : Nat)
  | learnConfirmation (dt : Nat)
  | learnWindowExpiry (dt : Nat)
  | ageCount (dt : Nat)
  | sensorSilent (dt : Nat) (position : Position)
  | candidateExpiry (dt : Nat) (id : SensorId)
  | conversion (dt : Nat) (input : AnalogId) (millivolts : Nat)
  | wheelEdge (dt : Nat) (wheel : WheelId)
  | speedDecay (dt : Nat) (wheel : WheelId)
  | wheelStop (dt : Nat) (wheel : WheelId)
  | wireStateChange (dt : Nat) (wheel : WheelId) (sound : Bool)
  | wheelInputInvalid (dt : Nat) (wheel : WheelId)
  | wheelInputValid (dt : Nat) (wheel : WheelId)
  | standstillMeasurement (dt : Nat)
  | wakeLineLevel (dt : Nat)
  | runOnExpiry (dt : Nat)
  | raiseDue (dt : Nat) (group : GroupId)
  | raiseComplete (dt : Nat) (axle : AxleId)
  | lowerComplete (dt : Nat) (axle : AxleId)
  | transitionHoldEnd (dt : Nat) (group : GroupId)
  | loadSubstitution (dt : Nat) (group : GroupId)
  | autoLower (dt : Nat) (group : GroupId)
  | digitalTimeout (dt : Nat)
  | mismatchTimerExpiry (dt : Nat)
  | lockTimeout (dt : Nat) (channel : ChannelId)
  | holdTimerExpiry (dt : Nat) (channel : ChannelId)
  | inletNoRise (dt : Nat) (channel : ChannelId)
  | exhaustNoFall (dt : Nat) (channel : ChannelId)
  | deliveredInvalid (dt : Nat) (channel : ChannelId)
  | controlInvalid (dt : Nat)
  | probeTimerExpiry (dt : Nat)
  | rampStep (dt : Nat)
  | exitMeasurement (dt : Nat)
  | latInvalidityMeasurement (dt : Nat)
  | bandMeasurement (dt : Nat)
  | holdMeasurement (dt : Nat)
  | listenTimeout (dt : Nat)
  | wakeLineChange (dt : Nat) (high : Bool)
  | characterReception (dt : Nat) (char : Byte) (stopBit : Bool)
  | lossOfSupply (dt : Nat)
deriving DecidableEq, Repr

end Sys2Proof
end

