-- ==== Sys2Proof/Decode.lean ====
section
/-! DEFINITION. From bits to commands: the checks over bytes (R29, R167), the request codes (10.4), what the 32 bytes of an
exchange spell (R156, R157), and the encoder of request frames. spec/opcode_table.json gives no row any bits, so
`decodeTableWord` reads none. -/
namespace Sys2Proof

/-! ### Checks -/

/-- One bit of the CRC-8 with generator 07h, most significant bit first (R29). -/
def crc8Shift (c : BitVec 8) : BitVec 8 :=
  if c.msb then (c <<< 1) ^^^ 0x07#8 else c <<< 1

/-- R29: the check of a telegram: generator x⁸ + x² + x + 1, initial value 00h, no final inversion. -/
def crc8 (bytes : List Byte) : Byte :=
  bytes.foldl
    (fun c b => crc8Shift (crc8Shift (crc8Shift (crc8Shift (crc8Shift (crc8Shift (crc8Shift (crc8Shift (c ^^^ b)))))))))
    0#8

/-- One bit of the CRC-16 with generator 1021h, most significant bit first (R167). -/
def crc16Shift (c : BitVec 16) : BitVec 16 :=
  if c.msb then (c <<< 1) ^^^ 0x1021#16 else c <<< 1

/-- One byte of the CRC-16. -/
def crc16Byte (c : BitVec 16) (b : Byte) : BitVec 16 :=
  crc16Shift (crc16Shift (crc16Shift (crc16Shift (crc16Shift (crc16Shift (crc16Shift (crc16Shift
    (c ^^^ (b.setWidth 16 <<< 8)))))))))

/-- R167: the check of a frame: generator 1021h, initial value FFFFh, no final inversion. -/
def crc16 (bytes : List Byte) : BitVec 16 := bytes.foldl crc16Byte 0xFFFF#16

/-- R1, R167: the two check bytes of a frame, the most significant first. -/
def frameCheck (bytes : List Byte) : List Byte :=
  let c := (crc16 bytes).toNat
  [BitVec.ofNat 8 (c / 256), BitVec.ofNat 8 c]

/-! ### Request codes (10.4) -/

/-- The request a code names, given its time and parameters. -/
def requestOfCode (code dt : Nat) (p : Params) : Option Instr :=
  match code with
  | 0x01 => some (.noOperation dt p)
  | 0x02 => some (.identify dt p)
  | 0x03 => some (.faultDetail dt p)
  | 0x04 => some (.restart dt p)
  | 0x05 => some (.setResetPolicy dt p)
  | 0x10 => some (.fetchNotices dt p)
  | 0x11 => some (.setNoticeEnables dt p)
  | 0x20 => some (.readPosition dt p)
  | 0x21 => some (.findSensor dt p)
  | 0x22 => some (.readPositions dt p)
  | 0x23 => some (.setBatchSize dt p)
  | 0x24 => some (.continueRead dt p)
  | 0x25 => some (.setPositionSetpoints dt p)
  | 0x26 => some (.writeSetpoints dt p)
  | 0x27 => some (.swapPositions dt p)
  | 0x28 => some (.retireSensor dt p)
  | 0x30 => some (.beginLearn dt p)
  | 0x31 => some (.cancelLearn dt p)
  | 0x32 => some (.readCandidates dt p)
  | 0x33 => some (.adoptCandidate dt p)
  | 0x34 => some (.writeTyreParameters dt p)
  | 0x40 => some (.readAxle dt p)
  | 0x41 => some (.writeAxleLayout dt p)
  | 0x42 => some (.writeGroupCalibration dt p)
  | 0x43 => some (.writeBrakeCharacteristic dt p)
  | 0x44 => some (.setLiftMode dt p)
  | 0x45 => some (.readLoadState dt p)
  | 0x50 => some (.postDemand dt p)
  | 0x51 => some (.readBrakeState dt p)
  | 0x58 => some (.writeStabilityParameters dt p)
  | 0x59 => some (.readStabilityState dt p)
  | 0x60 => some (.enterWorkshop dt p)
  | 0x61 => some (.leaveWorkshop dt p)
  | 0x62 => some (.stageStep dt p)
  | 0x63 => some (.runStep dt p)
  | 0x64 => some (.clearBrakeFault dt p)
  | 0x70 => some (.saveTables dt p)
  | 0x71 => some (.restoreTables dt p)
  | _ => none

/-- R157: the command an exchange spells: a frame error where it has not exactly 32 bytes or its check fails, the request
of its code, or an unknown request. -/
def commandOfExchange (dt : Nat) (frame : List Byte) : Instr :=
  if frame.length = 32 ∧ frame.drop 30 = frameCheck (frame.take 30) then
    let code := (frame.getD 0 0).toNat
    let p : Params := { count := (frame.getD 1 0).toNat, bytes := (frame.take 30).drop 2 }
    (requestOfCode code dt p).getD (.unknownRequest dt (BitVec.ofNat 8 code))
  else .frameError dt

/-! ### The encoder -/

/-- The code and the parameters of a request; no frame spells any other command. -/
def requestParts : Instr → Option (Nat × Params)
  | .noOperation _ p => some (0x01, p)
  | .identify _ p => some (0x02, p)
  | .faultDetail _ p => some (0x03, p)
  | .restart _ p => some (0x04, p)
  | .setResetPolicy _ p => some (0x05, p)
  | .fetchNotices _ p => some (0x10, p)
  | .setNoticeEnables _ p => some (0x11, p)
  | .readPosition _ p => some (0x20, p)
  | .findSensor _ p => some (0x21, p)
  | .readPositions _ p => some (0x22, p)
  | .setBatchSize _ p => some (0x23, p)
  | .continueRead _ p => some (0x24, p)
  | .setPositionSetpoints _ p => some (0x25, p)
  | .writeSetpoints _ p => some (0x26, p)
  | .swapPositions _ p => some (0x27, p)
  | .retireSensor _ p => some (0x28, p)
  | .beginLearn _ p => some (0x30, p)
  | .cancelLearn _ p => some (0x31, p)
  | .readCandidates _ p => some (0x32, p)
  | .adoptCandidate _ p => some (0x33, p)
  | .writeTyreParameters _ p => some (0x34, p)
  | .readAxle _ p => some (0x40, p)
  | .writeAxleLayout _ p => some (0x41, p)
  | .writeGroupCalibration _ p => some (0x42, p)
  | .writeBrakeCharacteristic _ p => some (0x43, p)
  | .setLiftMode _ p => some (0x44, p)
  | .readLoadState _ p => some (0x45, p)
  | .postDemand _ p => some (0x50, p)
  | .readBrakeState _ p => some (0x51, p)
  | .writeStabilityParameters _ p => some (0x58, p)
  | .readStabilityState _ p => some (0x59, p)
  | .enterWorkshop _ p => some (0x60, p)
  | .leaveWorkshop _ p => some (0x61, p)
  | .stageStep _ p => some (0x62, p)
  | .runStep _ p => some (0x63, p)
  | .clearBrakeFault _ p => some (0x64, p)
  | .saveTables _ p => some (0x70, p)
  | .restoreTables _ p => some (0x71, p)
  | _ => none

/-- R167: a request frame: the code, the parameter count, 28 parameter bytes, unused ones 00h, and the check. -/
def requestFrame (code : Nat) (p : Params) : List Byte :=
  let body := [BitVec.ofNat 8 code, BitVec.ofNat 8 p.count] ++
    (p.bytes ++ List.replicate (28 - p.bytes.length) 0#8)
  body ++ frameCheck body

/-- The frame of a request; none for a command that no frame spells. -/
def encode (i : Instr) : Option (List Byte) := (requestParts i).map fun x => requestFrame x.1 x.2

/-- The table gives no row any bits: no word spells a command. -/
def decodeTableWord (_nbits _w : Nat) : Option Instr := none

end Sys2Proof
end

