-- ==== Sys2Proof/Machine/Settings.lean ====
section
/-! DEFINITION. The configuration of a trailer: what the stored image holds (R168), and the default of each item. -/
namespace Sys2Proof.Machine

/-- The sensor kinds of a bound sensor or a candidate (R2). -/
inductive SensorKind where
  | valve | rim | tread
deriving DecidableEq, Repr

/-- A sensor bound to a position: its ID and the kind it had when it was bound (R2). -/
structure Binding where
  id : SensorId
  kind : SensorKind
deriving DecidableEq, Repr

/-- The layout fields of an axle (R63). `dual`: DUAL, else SINGLE; `valve2`: V2, else V1; `brakeX`: CH-X, else SIDES. -/
structure AxleLayout where
  present : Bool
  dual : Bool
  liftable : Bool
  valve2 : Bool
  group : GroupId
  brakeX : Bool
  left : Option WheelId
  right : Option WheelId
deriving DecidableEq, Repr

/-- R75: how an axle is governed. -/
inductive LiftMode where
  | auto | heldDown | heldUp
deriving DecidableEq, Repr

/-- Calibration and empty brake ratio of a load group (R67). -/
structure Calibration where
  pe : Nat
  pl : Nat
  we : Nat
  wl : Nat
  re : Nat
deriving DecidableEq, Repr

/-- The stability parameters (R129). -/
structure StabilityParameters where
  halfTrack : Nat
  heightEmpty : Nat
  heightLaden : Nat
  margin : Nat
  enable : Bool
deriving DecidableEq, Repr

/-- R173: what a Restart does to the configuration records. -/
inductive ResetPolicy where
  | keep | restore
deriving DecidableEq, Repr

/-- Every parameter of the part that no unit changes by itself: it is written by requests and reloads only. -/
structure Settings where
  circumference : Nat
  teeth : Nat
  groups : PerGroup Calibration
  knee : Nat
  third : Bool
  stability : StabilityParameters
  pairDelta : Nat
  hotLimit : Nat
  enables : BitVec 20
  policy : ResetPolicy
deriving DecidableEq, Repr

/-- An axle as the image holds it (R168): layout fields and lift mode. -/
structure StoredAxle where
  layout : AxleLayout
  mode : LiftMode
deriving DecidableEq, Repr

/-- A position as the image holds it (R168): setpoints and binding. -/
structure StoredPosition where
  pl : Nat
  pe : Option Nat
  bound : Option Binding
deriving DecidableEq, Repr

/-- The contents of the image (R168). -/
structure Image where
  axles : PerAxle StoredAxle
  settings : Settings
  positions : PerPosition StoredPosition
deriving DecidableEq, Repr

/-- The image as programmed: contents, store format number, 32-bit check (R168). -/
structure StoredImage where
  contents : Image
  format : Byte
  check : BitVec 32
deriving DecidableEq, Repr

/-! ### Defaults -/

/-- A DUAL, non-liftable axle of G1, braked SIDES, with the given sensors (R66). The lift-valve bit of an axle that is not
liftable, which Read Axle gives all the same, starts at V1 (DESIGN CHOICE, notes 55). -/
def AxleLayout.fixed (l r : Option WheelId) (present : Bool) : AxleLayout :=
  { present := present, dual := true, liftable := false, valve2 := false, group := .g1, brakeX := false,
    left := l, right := r }

/-- R66: the default layout. -/
def defaultAxles : PerAxle StoredAxle :=
  { a1 := ⟨.fixed (some .s1) (some .s2) true, .heldDown⟩
    a2 := ⟨.fixed (some .s3) (some .s4) true, .heldDown⟩
    a3 := ⟨.fixed (some .s5) (some .s6) true, .heldDown⟩
    a4 := ⟨.fixed none none false, .heldDown⟩
    a5 := ⟨.fixed none none false, .heldDown⟩ }

/-- R67: the default calibration. -/
def defaultCalibration : Calibration := { pe := 50, pl := 450, we := 250, wl := 900, re := 1000 }

/-- The defaults of R9, R55, R67, R104, R129, R160 and R173. -/
def defaultSettings : Settings :=
  { circumference := 3200, teeth := 100, groups := ⟨defaultCalibration, defaultCalibration⟩, knee := 60,
    third := false,
    stability := { halfTrack := 1000, heightEmpty := 1400, heightLaden := 2100, margin := 700, enable := true },
    pairDelta := 100, hotLimit := 95, enables := 0xFFFFF#20, policy := .keep }

/-- R172: every position unbound with P_L 800 and no P_E. -/
def defaultPositions : PerPosition StoredPosition := .all { pl := 800, pe := none, bound := none }

/-- R172: every item at its default. -/
def defaultImage : Image :=
  { axles := defaultAxles, settings := defaultSettings, positions := defaultPositions }

end Sys2Proof.Machine
end

