-- ==== Sys2Proof/Machine/State.lean ====
section
/-! DEFINITION. The state of the part as plain data: one record for each of its ten units (chapter 0), the configuration,
the clock, the supply, and the queue of waiting commands; and the state right after power-on with an erased image. -/
namespace Sys2Proof.Machine

/-! ### Measurement Inputs (chapter 3) -/

/-- R51: the validity state of an analog input. -/
inductive Validity where
  | starting | valid | invalid
deriving DecidableEq, Repr

/-- R49: one analog input. `window` holds the converted values, the oldest first. -/
structure AnalogInput where
  window : List Int
  average : Option Int
  validity : Validity
  count : Nat
deriving DecidableEq, Repr

/-- R56, R58: one wheel-speed input. `valid`: VALID, else INVALID; `sound`: SOUND, else BROKEN, since `wireSince`. -/
structure WheelInput where
  lastEdge : Option Nat
  speed : Nat
  valid : Bool
  sound : Bool
  wireSince : Nat
deriving DecidableEq, Repr

/-- R61: the motion state. -/
inductive Motion where
  | standstill | rolling | moving
deriving DecidableEq, Repr

/-- The MIN. `belowSince` is the start of the running standstill measurement (R61); `supplyLow` is the SUPPLY LOW
condition as last found (R54). -/
structure Inputs where
  analog : PerAnalog AnalogInput
  wheels : PerWheel WheelInput
  reference : Nat
  motion : Motion
  belowSince : Option Nat
  supplyLow : Bool
deriving DecidableEq, Repr

/-! ### Tyre Table Unit (chapter 1) -/

/-- R4: the state of a position record. -/
inductive PositionState where
  | empty | learning | awaiting | live | silent | faulted
deriving DecidableEq, Repr

/-- R2: the pressure level. -/
inductive PressureLevel where
  | none | lowAdvisory | lowWarning | lowAlarm | highAdvisory
deriving DecidableEq, Repr

/-- R2: the temperature level. -/
inductive TemperatureLevel where
  | normal | hot
deriving DecidableEq, Repr

/-- R2: one position record. `silenceDue` is the model's own mark that the latest count of the age found it above the
silence timeout then in force (R16), and that the record has not become SILENT on it yet (DESIGN CHOICE, notes 12). -/
structure PositionRecord where
  state : PositionState
  bound : Option Binding
  pl : Nat
  pe : Option Nat
  pressure : Option Nat
  temperature : Option Int
  age : Option Nat
  pressureLevel : PressureLevel
  temperatureLevel : TemperatureLevel
  batteryLow : Bool
  fastLoss : Bool
  expected : Option Nat
  silenceDue : Bool
deriving DecidableEq, Repr

/-- R17: the state of a pair record. -/
inductive PairState where
  | notAPair | matched | mismatched | unordered
deriving DecidableEq, Repr

/-- The TTU: the wheel position table and the ten pair records. -/
structure Tyres where
  positions : PerPosition PositionRecord
  pairs : PerAxle (PerSide PairState)
deriving DecidableEq, Repr

/-! ### Telegram Intake (chapter 2) -/

/-- R28: the telegram in reception. `synced`: an idle gap has been found, so that characters are collected; `bad`: a
character of the sequence had no stop bit; `chars` is kept to eleven characters, enough to tell ten from any other
length; `lastChar` is the end of the last character, or the moment from which the idle time of the line is measured. -/
structure Reception where
  synced : Bool
  chars : List Byte
  bad : Bool
  lastChar : Nat
deriving DecidableEq, Repr

/-- R35: the pending trigger of the learn window. -/
structure Trigger where
  bound : Binding
  arrival : Nat
  pressure : Option Nat
  temperature : Option Int
  fastLoss : Bool
  batteryLow : Bool
deriving DecidableEq, Repr

/-- R35: the open learn window. -/
structure LearnWindow where
  target : Position
  openedAt : Nat
  trigger : Option Trigger
deriving DecidableEq, Repr

/-- R42: one entry of the candidate list. -/
structure Candidate where
  bound : Binding
  firstHeard : Nat
  age : Nat
  sightings : Nat
  sinceSighting : Option Nat
  pressure : Option Nat
  ready : Bool
deriving DecidableEq, Repr

/-- The TGI. -/
structure Intake where
  rx : Reception
  window : Option LearnWindow
  candidates : List Candidate
deriving DecidableEq, Repr

/-! ### Load Unit (chapter 4) -/

/-- R74: the lift state. -/
inductive LiftState where
  | down | raising | up | lowering
deriving DecidableEq, Repr

/-- R63: one axle record. `liftSince` is the start of the running transition (R74), `lowerSince` the start of the 1 s
measurement of R80. -/
structure AxleRecord where
  layout : AxleLayout
  mode : LiftMode
  lift : LiftState
  raisePending : Bool
  conflict : Bool
  liftSince : Nat
  lowerSince : Option Nat
deriving DecidableEq, Repr

/-- R69: the status of a load group. -/
inductive GroupStatus where
  | valid | held | substituted
deriving DecidableEq, Repr

/-- R78: the start conditions of a raise, as the latest test of the group found them. -/
structure StartConditions where
  braking : Bool
  tyreBar : Bool
  supplyOk : Bool
  stabilityOk : Bool
deriving DecidableEq, Repr

/-- R67: one group record, with the brake ratio R that the BDU forms from it (R106). The timers are held as the moments
at which they started. `seen` is the model's own memory of the start conditions last found (DEDUCED, notes 15). -/
structure GroupRecord where
  status : GroupStatus
  holdStart : Bool
  holdTransition : Bool
  holdRoll : Bool
  holdSensor : Bool
  w : Nat
  l : Nat
  n : Nat
  ratio : Nat
  sensorSince : Option Nat
  transitionEndSince : Option Nat
  raiseSince : Option Nat
  raiseDue : Bool
  seen : StartConditions
deriving DecidableEq, Repr

/-- The LDU. -/
structure Loads where
  axles : PerAxle AxleRecord
  groups : PerGroup GroupRecord
deriving DecidableEq, Repr

/-! ### Brake Demand Unit (chapters 5 and 6) -/

/-- R87: the source of a demand entry. -/
inductive Source where
  | digital | pneumatic | emergency | stability | test
deriving DecidableEq, Repr

/-- R87: what an entry asks for: one pressure for the trailer, or one for each channel. -/
inductive Demand where
  | whole (kPa : Nat)
  | channels (kPa : PerChannel Nat)
deriving DecidableEq, Repr

/-- R87: one entry of the demand table, with the moments of its creation and, for DIGITAL, of its last refresh. -/
structure Entry where
  source : Source
  demand : Demand
  createdAt : Nat
  refreshedAt : Option Nat
deriving DecidableEq, Repr

/-- R96: the state of the mismatch record. -/
inductive Mismatch where
  | agreed | diverging | inForce | converging
deriving DecidableEq, Repr

/-- The BDU: the table in order of creation, the mismatch record with the start of its timer, the driver demand P_d and
the braking condition as last offered. -/
structure Demands where
  table : List Entry
  mismatch : Mismatch
  mismatchSince : Option Nat
  driver : Nat
  braking : Bool
deriving DecidableEq, Repr

/-! ### Channel Controllers (chapter 7) -/

/-- R117: the lock-release state. -/
inductive Lock where
  | free | release | hold | reapply
deriving DecidableEq, Repr

/-- R120, R121: a running progress monitor: its reference pressure and the start of its timer. -/
structure Monitor where
  reference : Nat
  since : Nat
deriving DecidableEq, Repr

/-- R113: one channel record, with the driver-derived part of R110. `lockSince` is the entry into RELEASE, HOLD or
REAPPLY, from which the RELEASE timer, the HOLD timer and the ramp are measured; `reapplyFrom` is the cap at the entry
into REAPPLY; `deliveredSince` is the start of the delivered-input measurement (R122). -/
structure ChannelRecord where
  target : Nat
  driverPart : Nat
  delivered : Option Nat
  lock : Lock
  cap : Nat
  lockSince : Nat
  reapplyFrom : Nat
  inlet : Bool
  exhaust : Bool
  wheelSpeed : Option Nat
  slip : Option Nat
  suspended : Bool
  suppressed : Bool
  inletMonitor : Option Monitor
  exhaustMonitor : Option Monitor
  deliveredSince : Option Nat
deriving DecidableEq, Repr

/-- R113: the brake mode. -/
inductive BrakeMode where
  | electronic | fallback
deriving DecidableEq, Repr

/-- R123: the cause of FALLBACK, with the channel where the cause names one. -/
inductive FallbackCause where
  | inletNoRise (channel : ChannelId)
  | exhaustNoFall (channel : ChannelId)
  | deliveredInvalid (channel : ChannelId)
  | controlInvalid
deriving DecidableEq, Repr

/-- The three channel controllers and their shared fields. -/
structure Channels where
  records : PerChannel ChannelRecord
  mode : BrakeMode
  cause : Option FallbackCause
  controlSince : Option Nat
  redundancy : Bool
deriving DecidableEq, Repr

/-! ### Stability Unit (chapter 8) -/

/-- R132: the state of the STU. -/
inductive StuState where
  | idle | armed | probing | intervening | recovering
deriving DecidableEq, Repr

/-- R132: the pulse of a probe. -/
inductive Pulse where
  | notPosted | posted | lifted
deriving DecidableEq, Repr

/-- R138: a ramp: its direction, start value and start time. -/
structure Ramp where
  up : Bool
  start : Nat
  since : Nat
deriving DecidableEq, Repr

/-- R132: the stability record. Measurements and timers are held as the moments at which they started; the ramp is
paused while `latSince` is present (R139). -/
structure Stability where
  state : StuState
  accel : Option Int
  lr : Nat
  derate : Nat
  liveLimit : Nat
  frozen : Option Nat
  pInt : Option Nat
  inner : Option ChannelId
  pulse : Option Pulse
  probeSince : Option Nat
  lastNegative : Option Nat
  pressure : Nat
  ramp : Option Ramp
  exitSince : Option Nat
  latSince : Option Nat
deriving DecidableEq, Repr

/-! ### Mode Unit (chapter 9) -/

/-- R144: the workshop state. -/
inductive WorkshopState where
  | off | pending | ready | stepRunning | stepFault
deriving DecidableEq, Repr

/-- R147: a step with its parameters. No channel is ALL; the hold time is in seconds. -/
inductive Step where
  | channelPressure (channel : Option ChannelId) (kPa hold : Nat)
  | lift (axle : AxleId) (raise : Bool)
  | sensorListen (position : Position)
deriving DecidableEq, Repr

/-- R144: the running step with its measurements: its start, and for a CHANNEL PRESSURE step whether it is in band and
since when (R149). -/
structure RunningStep where
  step : Step
  startedAt : Nat
  inBand : Bool
  bandSince : Nat
deriving DecidableEq, Repr

/-- R144: the result of the latest step run. -/
inductive StepResult where
  | none | done | fault | aborted
deriving DecidableEq, Repr

/-- R144: the cause of a step fault. -/
inductive StepFault where
  | outOfBand | brakeFallback | liftInterrupted | liftFault | noTelegram | notBound
deriving DecidableEq, Repr

/-- R152: the power state. -/
inductive Power where
  | awake | runOn | watch
deriving DecidableEq, Repr

/-- The MDU: the workshop record (R144), the power state, and the wake line as it stands (`wakeRaw`, since
`wakeRawSince`) and as last taken (`wakeTaken`), HIGH as true (R152). -/
structure Mode where
  workshop : WorkshopState
  staged : Option Step
  running : Option RunningStep
  result : StepResult
  cause : Option StepFault
  power : Power
  wakeRaw : Bool
  wakeRawSince : Nat
  wakeTaken : Bool
  awaited : Bool
  runOnSince : Option Nat
deriving DecidableEq, Repr

/-! ### Serial Port and Notice Unit (chapter 10) -/

/-- R167: the status of a reply. -/
inductive Status where
  | none | done | stopped | refused | busy | frameError
deriving DecidableEq, Repr

/-- R167: the refusal codes. -/
inductive RefusalCode where
  | unknownRequest | badParameter | notPermitted | busy | notAwake | noSuchRecord | conflict
deriving DecidableEq, Repr

/-- R156, R167: a reply before it is laid out as a frame: the code answered, the status and the data bytes. PARTIAL is
the status `stopped`. -/
structure Reply where
  code : Nat
  status : Status
  data : List Byte
deriving DecidableEq, Repr

/-- R158: the object a fault detail names. -/
inductive FaultObject where
  | position (index : Nat)
  | axle (number : Nat)
  | input (number : Nat)
deriving DecidableEq, Repr

/-- R158: what a refusal names: the byte offset of the offending parameter, the object, the limiting value. -/
structure Named where
  parameter : Option Nat
  object : Option FaultObject
  limit : Option Nat
deriving DecidableEq, Repr

/-- R158: the fault detail held. No refusal code is 00h, for PARTIAL. `later` is set once one request has been taken
after the one that left the detail. -/
structure FaultDetail where
  request : Nat
  refusal : Option RefusalCode
  named : Named
  later : Bool
deriving DecidableEq, Repr

/-- R159: the batch read record. A positions read holds the next index and the last index of its range; a candidates
read the next list place, counted from 1. -/
inductive BatchRead where
  | idle
  | positions (next last : Nat)
  | candidates (next : Nat)
deriving DecidableEq, Repr

/-- R41: the result of a learning operation. -/
inductive LearnResult where
  | done | collision | duplicate | timeout | cancelled
deriving DecidableEq, Repr

/-- R144: the detail of WORKSHOP CHANGE. -/
structure WorkshopDetail where
  state : WorkshopState
  result : StepResult
  cause : Option StepFault
deriving DecidableEq, Repr

/-- R160: the 20 notice kinds. A latched kind whose detail is a set is pending while its set is not empty, one with
another detail while the detail is present; the other kinds hold their flag. -/
structure Notices where
  tyreLevel : Mask
  pairMismatch : Mask
  sensorSilent : Mask
  positionsRetired : Mask
  learnResult : Option (LearnResult × Position)
  candidateReady : Bool
  liftChange : Mask
  liftConflict : Mask
  liftFault : Mask
  loadHeld : Bool
  demandMismatch : Bool
  digitalTimeout : Bool
  supplyLow : Bool
  inputFault : Bool
  brakeFallback : Bool
  lockTimeout : Mask
  stabilityAction : Option Nat
  workshopChange : Option WorkshopDetail
  storeResult : Option Bool
  storeInvalid : Bool
deriving DecidableEq, Repr

/-- The SPN: the pending reply, the reply clocked out in the latest exchange, the fault detail, the batch size and the
batch read record, and the notices. The notice enables and the reset policy are in the settings. -/
structure Port where
  reply : Reply
  sent : Reply
  detail : Option FaultDetail
  batchSize : Nat
  batch : BatchRead
  notices : Notices
deriving DecidableEq, Repr

/-! ### Store Controller (chapter 11) -/

/-- R169: a save in progress: its snapshot and the moment of its acceptance. -/
structure Saving where
  snapshot : Image
  since : Nat
deriving DecidableEq, Repr

/-- The NVS: the image as the non-volatile memory holds it (none: erased, or left unfinished), its judged validity, and
the save state (none: IDLE). -/
structure Store where
  image : Option StoredImage
  valid : Bool
  saving : Option Saving
deriving DecidableEq, Repr

/-! ### The part -/

/-- The state of the part. `now` is the time in microseconds, `startedAt` the moment of the latest power-on, `powered`
whether the supply is applied, and `pending` the queue of commands that are waiting, the first to be taken in front. -/
structure State where
  powered : Bool
  now : Nat
  startedAt : Nat
  settings : Settings
  inputs : Inputs
  tyres : Tyres
  intake : Intake
  loads : Loads
  demands : Demands
  channels : Channels
  stability : Stability
  mode : Mode
  port : Port
  store : Store
  pending : List Instr
deriving DecidableEq, Repr

/-- Nothing raises a fault: the manual has no command that stops the part. The type is closed and empty, so it is safe:
no claim can rest on a stop. -/
inductive Fault where
deriving DecidableEq, Repr

/-- The refusals of the model. -/
inductive Refusal where
  /-- Raised by an arm of `exec` whose command has no meaning yet; no arm is in that state. Safe: nothing is claimed of
  the command. -/
  | notModelled (mnemonic : String)
deriving DecidableEq, Repr

/-! ### Replacing one unit's record -/

def State.setSettings (s : State) (x : Settings) : State := { s with settings := x }
def State.setInputs (s : State) (x : Inputs) : State := { s with inputs := x }
def State.setTyres (s : State) (x : Tyres) : State := { s with tyres := x }
def State.setIntake (s : State) (x : Intake) : State := { s with intake := x }
def State.setLoads (s : State) (x : Loads) : State := { s with loads := x }
def State.setDemands (s : State) (x : Demands) : State := { s with demands := x }
def State.setChannels (s : State) (x : Channels) : State := { s with channels := x }
def State.setStability (s : State) (x : Stability) : State := { s with stability := x }
def State.setMode (s : State) (x : Mode) : State := { s with mode := x }
def State.setPort (s : State) (x : Port) : State := { s with port := x }
def State.setStore (s : State) (x : Store) : State := { s with store := x }
def State.setPending (s : State) (x : List Instr) : State := { s with pending := x }
def State.setNotices (s : State) (x : Notices) : State := { s with port := { s.port with notices := x } }

/-! ### Values at power-on -/

/-- R53: an analog input at power-on. -/
def AnalogInput.fresh : AnalogInput := { window := [], average := none, validity := .starting, count := 0 }

/-- R58: a wheel input at power-on at `now`, with its wire state as first found. -/
def WheelInput.fresh (now : Nat) (sound : Bool) : WheelInput :=
  { lastEdge := none, speed := 0, valid := true, sound := sound, wireSince := now }

/-- R53, R58, R60, R61: the MIN at power-on. -/
def Inputs.fresh (now : Nat) (wires : PerWheel Bool) : Inputs :=
  { analog := .all .fresh, wheels := wires.map (WheelInput.fresh now), reference := 0, motion := .rolling,
    belowSince := some now, supplyLow := false }

/-- R7: a record that receives no binding at power-on. -/
def PositionRecord.unbound (pl : Nat) (pe : Option Nat) : PositionRecord :=
  { state := .empty, bound := none, pl := pl, pe := pe, pressure := none, temperature := none, age := none,
    pressureLevel := .none, temperatureLevel := .normal, batteryLow := false, fastLoss := false, expected := none,
    silenceDue := false }

/-- R7: the record a stored position becomes at power-on: AWAITING with age 0 where the image binds it. -/
def PositionRecord.ofStored (p : StoredPosition) : PositionRecord :=
  match p.bound with
  | none => .unbound p.pl p.pe
  | some b => { PositionRecord.unbound p.pl p.pe with state := .awaiting, bound := some b, age := some 0 }

/-- R7, R17: the pairs of a present DUAL axle start UNORDERED, the others NOT A PAIR. -/
def startPairs (a : AxleLayout) : PerSide PairState :=
  if a.present && a.dual then ⟨.unordered, .unordered⟩ else ⟨.notAPair, .notAPair⟩

/-- R28: the receiver line right after a power-on or a Restart at `now`. -/
def Reception.fresh (now : Nat) : Reception := { synced := false, chars := [], bad := false, lastChar := now }

/-- R35, R42: the TGI at power-on. -/
def Intake.fresh (now : Nat) : Intake := { rx := .fresh now, window := none, candidates := [] }

/-- R66: an axle record at power-on. -/
def AxleRecord.ofStored (now : Nat) (a : StoredAxle) : AxleRecord :=
  { layout := a.layout, mode := a.mode, lift := .down, raisePending := false, conflict := false, liftSince := now,
    lowerSince := none }

/-- R63: whether an axle is a present axle of a group. -/
def AxleLayout.serves (a : AxleLayout) (g : GroupId) : Bool := a.present && decide (a.group = g)

/-- A one for each axle of which `f` holds. -/
def countAxles {α : Type} (f : α → Bool) (t : PerAxle α) : Nat :=
  (f t.a1).toNat + (f t.a2).toNat + (f t.a3).toNat + (f t.a4).toNat + (f t.a5).toNat

/-- R78: the start conditions before any test. -/
def StartConditions.fresh : StartConditions :=
  { braking := false, tyreBar := false, supplyOk := false, stabilityOk := true }

/-- R73: a group that is not in use. -/
def GroupRecord.unused (re : Nat) : GroupRecord :=
  { status := .valid, holdStart := false, holdTransition := false, holdRoll := false, holdSensor := false, w := 0,
    l := 0, n := 0, ratio := re, sensorSince := none, transitionEndSince := none, raiseSince := none,
    raiseDue := false, seen := .fresh }

/-- R73, R106: a group at power-on: in use with n axles down, HELD under the start cause with W_l and 1000. -/
def GroupRecord.start (c : Calibration) (n : Nat) : GroupRecord :=
  if n = 0 then .unused c.re
  else { GroupRecord.unused c.re with status := .held, holdStart := true, w := c.wl, l := 1000, n := n, ratio := 1000 }

/-- R66, R73: the LDU at power-on. -/
def Loads.fresh (now : Nat) (axles : PerAxle StoredAxle) (c : PerGroup Calibration) : Loads :=
  { axles := axles.map (AxleRecord.ofStored now)
    groups := ⟨.start c.g1 (countAxles (fun a => a.layout.serves .g1) axles),
      .start c.g2 (countAxles (fun a => a.layout.serves .g2) axles)⟩ }

/-- R102: the BDU at power-on. -/
def Demands.fresh : Demands :=
  { table := [], mismatch := .agreed, mismatchSince := none, driver := 0, braking := false }

/-- R126: a channel record at power-on. -/
def ChannelRecord.fresh : ChannelRecord :=
  { target := 0, driverPart := 0, delivered := none, lock := .free, cap := 1000, lockSince := 0, reapplyFrom := 0,
    inlet := false, exhaust := false, wheelSpeed := none, slip := none, suspended := false, suppressed := false,
    inletMonitor := none, exhaustMonitor := none, deliveredSince := none }

/-- R125, R126: the channel controllers at power-on, with each channel's wheel speed as the caller formed it from the
loaded layout and the wheel inputs. -/
def Channels.fresh (speeds : PerChannel (Option Nat)) : Channels :=
  { records := speeds.map fun v => { ChannelRecord.fresh with wheelSpeed := v }
    mode := .electronic, cause := none, controlSince := none, redundancy := true }

/-- R142: the STU at power-on, with L_r, D and the live limit formed by the caller. -/
def Stability.fresh (lr limit : Nat) : Stability :=
  { state := .idle, accel := none, lr := lr, derate := 0, liveLimit := limit, frozen := none, pInt := none,
    inner := none, pulse := none, probeSince := none, lastNegative := none, pressure := 0, ramp := none,
    exitSince := none, latSince := none }

/-- R144, R152: the MDU at power-on at `now`, with the level the wake line shows. -/
def Mode.fresh (now : Nat) (wakeHigh : Bool) : Mode :=
  { workshop := .off, staged := none, running := none, result := .none, cause := none,
    power := if wakeHigh then .awake else .runOn, wakeRaw := wakeHigh, wakeRawSince := now, wakeTaken := wakeHigh,
    awaited := false, runOnSince := if wakeHigh then none else some now }

/-- R160: every notice clear. -/
def Notices.clear : Notices :=
  { tyreLevel := 0, pairMismatch := 0, sensorSilent := 0, positionsRetired := 0, learnResult := none,
    candidateReady := false, liftChange := 0, liftConflict := 0, liftFault := 0, loadHeld := false,
    demandMismatch := false, digitalTimeout := false, supplyLow := false, inputFault := false, brakeFallback := false,
    lockTimeout := 0, stabilityAction := none, workshopChange := none, storeResult := none, storeInvalid := false }

/-- R156: the pending reply after a reset. -/
def Reply.empty : Reply := { code := 0, status := .none, data := [] }

/-- R156, R158, R159, R160: the port at power-on; STORE INVALID is set where the image was judged invalid (R172). -/
def Port.fresh (imageValid : Bool) : Port :=
  { reply := .empty, sent := .empty, detail := none, batchSize := 1, batch := .idle,
    notices := { Notices.clear with storeInvalid := !imageValid } }

/-- R172: the part right after power-on with its supply applied, the wake line HIGH, every wire SOUND and an erased
image, so on the defaults and with STORE INVALID pending. The wake line, the wires and the image are outside the part or
outlive the supply, and the manual fixes none of them: notes 6 names them (DESIGN CHOICE). The live limit 333 is that of
L_r 1000 and D 0 under the default parameters (R131); the wheel speeds 0 are those of the wheels of A1 to A3 on CH-L and
CH-R (R116). -/
def State.reset : State :=
  { powered := true
    now := 0
    startedAt := 0
    settings := defaultSettings
    inputs := .fresh 0 (.all true)
    tyres := { positions := defaultPositions.map .ofStored, pairs := defaultAxles.map fun a => startPairs a.layout }
    intake := .fresh 0
    loads := .fresh 0 defaultAxles defaultSettings.groups
    demands := .fresh
    channels := .fresh ⟨some 0, some 0, none⟩
    stability := .fresh 1000 333
    mode := .fresh 0 true
    port := .fresh false
    store := { image := none, valid := false, saving := none }
    pending := [] }

end Sys2Proof.Machine
end

