-- ==== Sys2Proof/Config.lean ====
section
/-! DEFINITION. What the manual leaves open and an implementation fixes: free values, constants without a body, so that no
proof can rest on one of their values. -/
namespace Sys2Proof

/-- R163 names the family code of Identify and gives no value (DESIGN CHOICE, notes 2). -/
opaque Config.familyCode : Byte

/-- R163 names the revision of Identify and gives no value (DESIGN CHOICE, notes 2). -/
opaque Config.revision : Byte

/-- R163 and R168 name the part's store format number and give no value (DESIGN CHOICE, notes 2). -/
opaque Config.storeFormat : Byte

/-- R168 gives the image a 32-bit check over its contents and its format number, and does not say how it is computed (DESIGN CHOICE, notes 3). -/
opaque Config.imageCheck : Machine.Image → Byte → BitVec 32

/-- R22 refuses a Swap Positions of a position with itself; chapter 1.4 has the detail name the offending parameter, and
no rule says which of the two equal indices that is: the second where this holds (DESIGN CHOICE, notes 4). -/
opaque Config.swapNamesSecond : Bool

/-- R64 has a refused layout name the first axle at which a condition fails, and does not say at which of two axles that
clash with one another it fails: at both, so that the earlier is named, where this holds, else at the later (DESIGN CHOICE, notes 18). -/
opaque Config.clashNamesEarlier : Bool

/-- R147 has Fault Detail name the parameter of a count that does not fit the kind, and no rule says which parameter a
count is: its byte offset, from the count of the request (DESIGN CHOICE, notes 38). -/
opaque Config.stepCountParameter : Nat → Nat

/-- R147 has Fault Detail name the limiting value of a count that does not fit the kind, and a Stage Step without
parameters carries no kind: what it names there, or nothing (DESIGN CHOICE, notes 38). -/
opaque Config.missingKindLimit : Option Nat

end Sys2Proof
end

