-- ==== Sys2Proof/Machine/Flags.lean ====
section
/-! DEFINITION. The notices (10.3): setting, pending flags, details as bytes, fetching, and the ATTN output. -/
namespace Sys2Proof.Machine

/-- R160: the notice kinds, in the order of their numbers 1 to 20. -/
inductive NoticeKind where
  | tyreLevel | pairMismatch | sensorSilent | positionsRetired | learnResult | candidateReady | liftChange
  | liftConflict | liftFault | loadHeld | demandMismatch | digitalTimeout | supplyLow | inputFault | brakeFallback
  | lockTimeout | stabilityAction | workshopChange | storeResult | storeInvalid
deriving DecidableEq, Repr

/-- The kinds in kind order. -/
def NoticeKind.list : List NoticeKind :=
  [.tyreLevel, .pairMismatch, .sensorSilent, .positionsRetired, .learnResult, .candidateReady, .liftChange,
   .liftConflict, .liftFault, .loadHeld, .demandMismatch, .digitalTimeout, .supplyLow, .inputFault, .brakeFallback,
   .lockTimeout, .stabilityAction, .workshopChange, .storeResult, .storeInvalid]

/-- R160: the number of a kind. -/
def NoticeKind.number : NoticeKind → Nat
  | .tyreLevel => 1
  | .pairMismatch => 2
  | .sensorSilent => 3
  | .positionsRetired => 4
  | .learnResult => 5
  | .candidateReady => 6
  | .liftChange => 7
  | .liftConflict => 8
  | .liftFault => 9
  | .loadHeld => 10
  | .demandMismatch => 11
  | .digitalTimeout => 12
  | .supplyLow => 13
  | .inputFault => 14
  | .brakeFallback => 15
  | .lockTimeout => 16
  | .stabilityAction => 17
  | .workshopChange => 18
  | .storeResult => 19
  | .storeInvalid => 20

/-- R160: whether a kind is latched; the others are level kinds. -/
def NoticeKind.latched : NoticeKind → Bool
  | .loadHeld => false
  | .demandMismatch => false
  | .supplyLow => false
  | .inputFault => false
  | .brakeFallback => false
  | _ => true

/-- The set that holds member n alone. -/
def bit (n : Nat) : Mask := 1#24 <<< n

/-- R160: the pending flag of a kind. -/
def Notices.pendingOf (x : Notices) : NoticeKind → Bool
  | .tyreLevel => x.tyreLevel != 0
  | .pairMismatch => x.pairMismatch != 0
  | .sensorSilent => x.sensorSilent != 0
  | .positionsRetired => x.positionsRetired != 0
  | .learnResult => x.learnResult.isSome
  | .candidateReady => x.candidateReady
  | .liftChange => x.liftChange != 0
  | .liftConflict => x.liftConflict != 0
  | .liftFault => x.liftFault != 0
  | .loadHeld => x.loadHeld
  | .demandMismatch => x.demandMismatch
  | .digitalTimeout => x.digitalTimeout
  | .supplyLow => x.supplyLow
  | .inputFault => x.inputFault
  | .brakeFallback => x.brakeFallback
  | .lockTimeout => x.lockTimeout != 0
  | .stabilityAction => x.stabilityAction.isSome
  | .workshopChange => x.workshopChange.isSome
  | .storeResult => x.storeResult.isSome
  | .storeInvalid => x.storeInvalid

/-- R161: the mask of every pending kind, bit n − 1 for kind n. -/
def Notices.mask (x : Notices) : BitVec 20 :=
  NoticeKind.list.foldl (fun m k => if x.pendingOf k then m ||| (1#20 <<< (k.number - 1)) else m) 0

/-- R162: ATTN is asserted while at least one kind is both pending and enabled. -/
def State.attn (s : State) : Bool := (s.port.notices.mask &&& s.settings.enables) != 0

/-- R161: a kind's flag is cleared and its detail emptied. A level kind follows its owner's condition and is left. -/
def Notices.fetchOne (x : Notices) : NoticeKind → Notices
  | .tyreLevel => { x with tyreLevel := 0 }
  | .pairMismatch => { x with pairMismatch := 0 }
  | .sensorSilent => { x with sensorSilent := 0 }
  | .positionsRetired => { x with positionsRetired := 0 }
  | .learnResult => { x with learnResult := none }
  | .candidateReady => { x with candidateReady := false }
  | .liftChange => { x with liftChange := 0 }
  | .liftConflict => { x with liftConflict := 0 }
  | .liftFault => { x with liftFault := 0 }
  | .loadHeld => x
  | .demandMismatch => x
  | .digitalTimeout => { x with digitalTimeout := false }
  | .supplyLow => x
  | .inputFault => x
  | .brakeFallback => x
  | .lockTimeout => { x with lockTimeout := 0 }
  | .stabilityAction => { x with stabilityAction := none }
  | .workshopChange => { x with workshopChange := none }
  | .storeResult => { x with storeResult := none }
  | .storeInvalid => { x with storeInvalid := false }

/-! ### Codes of details (R167) -/

def WorkshopState.code : WorkshopState → Nat
  | .off => 0
  | .pending => 1
  | .ready => 2
  | .stepRunning => 3
  | .stepFault => 4

def StepResult.code : StepResult → Nat
  | .none => 0
  | .done => 1
  | .fault => 2
  | .aborted => 3

def StepFault.code : StepFault → Nat
  | .outOfBand => 1
  | .brakeFallback => 2
  | .liftInterrupted => 3
  | .liftFault => 4
  | .noTelegram => 5
  | .notBound => 6

/-- The fault cause byte: FFh when absent. -/
def faultCauseCode : Option StepFault → Nat
  | none => 0xFF
  | some c => c.code

def LearnResult.code : LearnResult → Nat
  | .done => 1
  | .collision => 2
  | .duplicate => 3
  | .timeout => 4
  | .cancelled => 5

/-- A one-byte field of a reply. -/
def byte (n : Nat) : Byte := BitVec.ofNat 8 n

/-- R1: a two-byte field of a reply, the most significant byte first. -/
def bytes2 (n : Nat) : List Byte := [byte (n / 256), byte n]

/-- R1: a three-byte set or mask, the most significant byte first. -/
def bytes3 (n : Nat) : List Byte := [byte (n / 65536), byte (n / 256), byte n]

/-- R1: a sensor ID in four bytes. -/
def bytes4 (n : Nat) : List Byte := [byte (n / 16777216), byte (n / 65536), byte (n / 256), byte n]

/-- R167: the three detail bytes of a kind, unused bytes 00h. A set is one field of three bytes, so bit 0 lies in the last
(DESIGN CHOICE, notes 42). -/
def Notices.detailBytes (x : Notices) : NoticeKind → List Byte
  | .tyreLevel => bytes3 x.tyreLevel.toNat
  | .pairMismatch => bytes3 x.pairMismatch.toNat
  | .sensorSilent => bytes3 x.sensorSilent.toNat
  | .positionsRetired => bytes3 x.positionsRetired.toNat
  | .learnResult =>
    match x.learnResult with
    | some (r, p) => [byte r.code, byte p.index, 0]
    | none => [0, 0, 0]
  | .liftChange => bytes3 x.liftChange.toNat
  | .liftConflict => bytes3 x.liftConflict.toNat
  | .liftFault => bytes3 x.liftFault.toNat
  | .lockTimeout => bytes3 x.lockTimeout.toNat
  | .stabilityAction => bytes2 (x.stabilityAction.getD 0) ++ [0]
  | .workshopChange =>
    match x.workshopChange with
    | some d => [byte d.state.code, byte d.result.code, byte (faultCauseCode d.cause)]
    | none => [0, 0, 0]
  | .storeResult => [byte (match x.storeResult with | some true => 1 | some false => 2 | none => 0), 0, 0]
  | .candidateReady => [0, 0, 0]
  | .digitalTimeout => [0, 0, 0]
  | .storeInvalid => [0, 0, 0]
  | .loadHeld => [0, 0, 0]
  | .demandMismatch => [0, 0, 0]
  | .supplyLow => [0, 0, 0]
  | .inputFault => [0, 0, 0]
  | .brakeFallback => [0, 0, 0]

/-- R161: the first six pending latched kinds, in kind order. -/
def Notices.firstSix (x : Notices) : List NoticeKind :=
  (NoticeKind.list.filter fun k => k.latched && x.pendingOf k).take 6

/-- R161: the data of Fetch Notices. -/
def Notices.fetchData (x : Notices) : List Byte :=
  bytes3 x.mask.toNat ++ x.firstSix.flatMap fun k => byte k.number :: x.detailBytes k

/-- R161: the notices after a fetch. -/
def Notices.fetched (x : Notices) : Notices := x.firstSix.foldl Notices.fetchOne x

/-! ### Setting a latched notice -/

def State.noteTyreLevel (s : State) (p : Position) : State :=
  s.setNotices { s.port.notices with tyreLevel := s.port.notices.tyreLevel ||| bit p.index }

def State.notePairMismatch (s : State) (a : AxleId) (sd : Side) : State :=
  s.setNotices { s.port.notices with pairMismatch := s.port.notices.pairMismatch ||| bit (pairNumber a sd) }

def State.noteSensorSilent (s : State) (p : Position) : State :=
  s.setNotices { s.port.notices with sensorSilent := s.port.notices.sensorSilent ||| bit p.index }

def State.notePositionRetired (s : State) (p : Position) : State :=
  s.setNotices { s.port.notices with positionsRetired := s.port.notices.positionsRetired ||| bit p.index }

/-- R41: the new result and position replace the detail held. -/
def State.noteLearnResult (s : State) (r : LearnResult) (p : Position) : State :=
  s.setNotices { s.port.notices with learnResult := some (r, p) }

def State.noteCandidateReady (s : State) : State :=
  s.setNotices { s.port.notices with candidateReady := true }

def State.noteLiftChange (s : State) (a : AxleId) : State :=
  s.setNotices { s.port.notices with liftChange := s.port.notices.liftChange ||| bit (a.number - 1) }

def State.noteLiftConflict (s : State) (a : AxleId) : State :=
  s.setNotices { s.port.notices with liftConflict := s.port.notices.liftConflict ||| bit (a.number - 1) }

def State.noteLiftFault (s : State) (a : AxleId) : State :=
  s.setNotices { s.port.notices with liftFault := s.port.notices.liftFault ||| bit (a.number - 1) }

def State.noteDigitalTimeout (s : State) : State :=
  s.setNotices { s.port.notices with digitalTimeout := true }

def State.noteLockTimeout (s : State) (c : ChannelId) : State :=
  s.setNotices { s.port.notices with lockTimeout := s.port.notices.lockTimeout ||| bit (c.number - 1) }

def State.noteStabilityAction (s : State) (limit : Nat) : State :=
  s.setNotices { s.port.notices with stabilityAction := some limit }

/-- R144: WORKSHOP CHANGE holds the state, the result and the fault cause as they stand after the change. -/
def State.noteWorkshopChange (s : State) : State :=
  s.setNotices { s.port.notices with
    workshopChange := some { state := s.mode.workshop, result := s.mode.result, cause := s.mode.cause } }

def State.noteStoreResult (s : State) (done : Bool) : State :=
  s.setNotices { s.port.notices with storeResult := some done }

def State.noteStoreInvalid (s : State) : State :=
  s.setNotices { s.port.notices with storeInvalid := true }

end Sys2Proof.Machine
end

