-- ==== Sys2Proof/Machine/Ops.lean ====
section
/-! DEFINITION. Operations several units share: the clock, reading and writing one record, what is derived from the axle
layout and from the input records, the entries of the demand table, and the workshop state. -/
namespace Sys2Proof.Machine

/-! ### Time -/

/-- The clock advances by the time since the command before. -/
def State.elapse (s : State) (dt : Nat) : State := { s with now := s.now + dt }

/-- R1: whether a measurement that started at `since` has run for `t` microseconds; a stopped one has not. -/
def State.reached (s : State) (since : Option Nat) (t : Nat) : Bool :=
  match since with
  | none => false
  | some start => decide (start + t ≤ s.now)

/-- Whole milliseconds since a moment, truncated (DESIGN CHOICE, notes 57). -/
def State.msSince (s : State) (start : Nat) : Nat := (s.now - start) / 1000

/-- Whole seconds since a moment, truncated (DESIGN CHOICE, notes 57). -/
def State.secSince (s : State) (start : Nat) : Nat := (s.now - start) / 1000000

/-- A command's effect on a part whose supply is applied; without supply there is no operation (R170), and only the
clock goes on. -/
def State.live (s : State) (dt : Nat) (f : State → State) : State :=
  if s.powered then f (s.elapse dt) else s.elapse dt

/-! ### One record of a unit -/

def State.position (s : State) (p : Position) : PositionRecord := s.tyres.positions.get p

def State.setPosition (s : State) (p : Position) (r : PositionRecord) : State :=
  s.setTyres { s.tyres with positions := s.tyres.positions.set p r }

def State.pair (s : State) (a : AxleId) (sd : Side) : PairState := (s.tyres.pairs.get a).get sd

def State.setPair (s : State) (a : AxleId) (sd : Side) (x : PairState) : State :=
  s.setTyres { s.tyres with pairs := s.tyres.pairs.set a ((s.tyres.pairs.get a).set sd x) }

def State.axle (s : State) (a : AxleId) : AxleRecord := s.loads.axles.get a

def State.setAxle (s : State) (a : AxleId) (r : AxleRecord) : State :=
  s.setLoads { s.loads with axles := s.loads.axles.set a r }

def State.group (s : State) (g : GroupId) : GroupRecord := s.loads.groups.get g

def State.setGroup (s : State) (g : GroupId) (r : GroupRecord) : State :=
  s.setLoads { s.loads with groups := s.loads.groups.set g r }

def State.calibration (s : State) (g : GroupId) : Calibration := s.settings.groups.get g

def State.channel (s : State) (c : ChannelId) : ChannelRecord := s.channels.records.get c

def State.setChannel (s : State) (c : ChannelId) (r : ChannelRecord) : State :=
  s.setChannels { s.channels with records := s.channels.records.set c r }

def State.analog (s : State) (i : AnalogId) : AnalogInput := s.inputs.analog.get i

def State.setAnalog (s : State) (i : AnalogId) (x : AnalogInput) : State :=
  s.setInputs { s.inputs with analog := s.inputs.analog.set i x }

def State.wheel (s : State) (w : WheelId) : WheelInput := s.inputs.wheels.get w

def State.setWheel (s : State) (w : WheelId) (x : WheelInput) : State :=
  s.setInputs { s.inputs with wheels := s.inputs.wheels.set w x }

/-! ### What the layout decides -/

/-- R3: a position exists when it is a spare, or its axle is present and its slot outer or its axle DUAL. -/
def layoutHas (axles : PerAxle AxleRecord) : Position → Bool
  | .road a sl =>
    let x := (axles.get a).layout
    x.present && (x.dual || decide (sl = .lo) || decide (sl = .ro))
  | .sp1 => true
  | .sp2 => true

def State.positionExists (s : State) (p : Position) : Bool := layoutHas s.loads.axles p

/-- R67: the number of present axles of a group whose lift state is DOWN. -/
def axlesDown (axles : PerAxle AxleRecord) (g : GroupId) : Nat :=
  countAxles (fun a => a.layout.serves g && decide (a.lift = .down)) axles

/-- R73: a group is in use while it has a present axle. -/
def groupHasAxle (axles : PerAxle AxleRecord) (g : GroupId) : Bool :=
  countAxles (fun a => a.layout.serves g) axles != 0

def State.groupInUse (s : State) (g : GroupId) : Bool := groupHasAxle s.loads.axles g

/-- The present axles of a group, from the front. -/
def State.groupAxles (s : State) (g : GroupId) : List AxleId :=
  AxleId.list.filter fun a => (s.axle a).layout.serves g

/-- R49: whether an analog input is in use. -/
def State.analogInUse (s : State) : AnalogId → Bool
  | .ctl => true
  | .sup => true
  | .dl => true
  | .dr => true
  | .dx => s.settings.third
  | .b1 => s.groupInUse .g1
  | .b2 => s.groupInUse .g2
  | .lat => s.settings.stability.enable

/-- R49, R52: an input's averaged value as its consuming units have it: while it is in use and VALID. -/
def State.offered (s : State) (i : AnalogId) : Option Int :=
  if s.analogInUse i && decide ((s.analog i).validity = .valid) then (s.analog i).average else none

/-- A pressure input's averaged value as its consuming units have it. -/
def State.pressureOf (s : State) (i : AnalogId) : Option Nat := (s.offered i).map Int.toNat

/-- R58: a wheel input is in use while it is a wheel sensor of a present axle. -/
def State.wheelInUse (s : State) (w : WheelId) : Bool :=
  AxleId.list.any fun a =>
    let x := (s.axle a).layout
    x.present && (decide (x.left = some w) || decide (x.right = some w))

/-- R108: whether an axle is a serving axle of a channel. -/
def servesChannel (x : AxleLayout) (c : ChannelId) : Bool :=
  x.present && match c with
    | .chL => !x.brakeX
    | .chR => !x.brakeX
    | .chX => x.brakeX

/-- R108: the serving axles of a channel. -/
def State.servingAxles (s : State) (c : ChannelId) : List AxleId :=
  AxleId.list.filter fun a => servesChannel (s.axle a).layout c

/-- R108: the group of a channel; a channel without serving axles has none. -/
def State.channelGroup (s : State) (c : ChannelId) : Option GroupId :=
  (s.servingAxles c).head?.map fun a => (s.axle a).layout.group

/-- R116: the inputs an axle contributes to a channel. -/
def channelSensors (x : AxleLayout) : ChannelId → List WheelId
  | .chL => x.left.toList
  | .chR => x.right.toList
  | .chX => x.left.toList ++ x.right.toList

/-- R116: the wheel set: VALID wheel sensors, on the channel's side, of its serving axles that are DOWN. -/
def State.wheelSet (s : State) (c : ChannelId) : List WheelId :=
  ((s.servingAxles c).filter fun a => decide ((s.axle a).lift = .down)).flatMap fun a =>
    (channelSensors (s.axle a).layout c).filter fun w => (s.wheel w).valid

/-- R60: the inputs of the reference speed: VALID wheel sensors of present axles that are DOWN. -/
def State.referenceSet (s : State) : List WheelId :=
  (AxleId.list.filter fun a => (s.axle a).layout.present && decide ((s.axle a).lift = .down)).flatMap fun a =>
    ((s.axle a).layout.left.toList ++ (s.axle a).layout.right.toList).filter fun w => (s.wheel w).valid

/-! ### Conditions several units read -/

/-- R54: the SUPPLY LOW condition: SUP VALID below 450 kPa. -/
def State.supplyBelow (s : State) : Bool :=
  match s.pressureOf .sup with
  | some v => decide (v < 450)
  | none => false

/-- R76, R78: SUP VALID and the SUPPLY LOW condition not holding. -/
def State.supplySound (s : State) : Bool :=
  match s.pressureOf .sup with
  | some v => decide (450 ≤ v)
  | none => false

/-- R71, R78: the STU is in PROBING, INTERVENING or RECOVERING. -/
def State.stuActing (s : State) : Bool :=
  match s.stability.state with
  | .idle => false
  | .armed => false
  | .probing => true
  | .intervening => true
  | .recovering => true

/-- R76: the LDU runs its automatic decisions: AWAKE, workshop OFF or PENDING, SUP VALID. -/
def State.decisionsRun (s : State) : Bool :=
  decide (s.mode.power = .awake) && (decide (s.mode.workshop = .off) || decide (s.mode.workshop = .pending)) &&
    decide ((s.analog .sup).validity = .valid)

/-- R78, R81, R83: a position on another DOWN axle of the axle's group has a pressure level of which `f` holds. -/
def State.otherTyre (s : State) (a : AxleId) (f : PressureLevel → Bool) : Bool :=
  (s.groupAxles (s.axle a).layout.group).any fun b =>
    decide (b ≠ a) && decide ((s.axle b).lift = .down) &&
      Slot.list.any fun sl => f (s.position (.road b sl)).pressureLevel

/-- A pressure level of LOW ALARM. -/
def isAlarm (x : PressureLevel) : Bool := decide (x = .lowAlarm)

/-- A pressure level of LOW WARNING or LOW ALARM. -/
def isWarning (x : PressureLevel) : Bool := decide (x = .lowWarning) || decide (x = .lowAlarm)

/-- R83: an existing position of the axle itself is at LOW ALARM. -/
def State.ownAlarm (s : State) (a : AxleId) : Bool :=
  Slot.list.any fun sl => s.positionExists (.road a sl) && isAlarm (s.position (.road a sl)).pressureLevel

/-! ### The demand table (R87, R88) -/

def State.entry (s : State) (x : Source) : Option Entry := s.demands.table.find? fun e => decide (e.source = x)

def State.hasEntry (s : State) (x : Source) : Bool := (s.entry x).isSome

/-- R87, R90: the refresh moment of a post: DIGITAL alone has one. -/
def State.refreshOf (s : State) (x : Source) : Option Nat := if x = .digital then some s.now else none

/-- R87, R88: a post creates an entry of a source that has none, at the end of the table; an existing entry takes the
new demand in its place and keeps its creation time. -/
def State.postEntry (s : State) (x : Source) (d : Demand) : State :=
  if s.hasEntry x then
    s.setDemands { s.demands with
      table := s.demands.table.map fun e =>
        if e.source = x then { e with demand := d, refreshedAt := s.refreshOf x } else e }
  else
    s.setDemands { s.demands with
      table := s.demands.table ++
        [{ source := x, demand := d, createdAt := s.now, refreshedAt := s.refreshOf x }] }

/-- R88: a retired entry leaves the table and the entries behind it close up. -/
def State.retireEntry (s : State) (x : Source) : State :=
  s.setDemands { s.demands with table := s.demands.table.filter fun e => decide (e.source ≠ x) }

/-- The pressure a demand holds for a channel. -/
def Demand.forChannel (d : Demand) (c : ChannelId) : Nat :=
  match d with
  | .whole p => p
  | .channels t => t.get c

/-- The largest pressure of a demand (R137). -/
def Demand.largest : Demand → Nat
  | .whole p => p
  | .channels t => max t.chL (max t.chR t.chX)

/-- The pressure of a source's entry, 0 where it has none: D and Pn of R95. -/
def State.sourcePressure (s : State) (x : Source) : Nat :=
  match s.entry x with
  | some e => e.demand.largest
  | none => 0

/-- R96: a mismatch is in force while the record is IN FORCE or CONVERGING. -/
def State.mismatchInForce (s : State) : Bool :=
  match s.demands.mismatch with
  | .agreed => false
  | .diverging => false
  | .inForce => true
  | .converging => true

/-! ### The workshop state (R144) -/

/-- R94, R144: the workshop state becomes `x`, leaving the stage, the running step and the result as given; a change
sets WORKSHOP CHANGE, and a change out of STEP RUNNING retires the TEST entry. -/
def State.enterWorkshopState (s : State) (m : Mode) : State :=
  let t := if s.mode.workshop = .stepRunning then s.retireEntry .test else s
  let t := t.setMode m
  if s.mode.workshop = m.workshop then t else t.noteWorkshopChange

/-- R148: a running step completes with DONE. -/
def State.stepDone (s : State) : State :=
  s.enterWorkshopState { s.mode with workshop := .ready, running := none, result := .done, cause := none }

/-- R148: a running step faults. -/
def State.stepFaults (s : State) (c : StepFault) : State :=
  s.enterWorkshopState { s.mode with workshop := .stepFault, running := none, result := .fault, cause := some c }

/-- R146: the workshop record returns to OFF; a running step ends with ABORTED, any other result is kept. -/
def State.workshopOff (s : State) : State :=
  if s.mode.workshop = .off then s
  else if s.mode.workshop = .stepRunning then
    s.enterWorkshopState { s.mode with
      workshop := .off, staged := none, running := none, result := .aborted, cause := none }
  else s.enterWorkshopState { s.mode with workshop := .off, staged := none, running := none }

/-- R151: a report that a telegram from a position's sensor was accepted, or that the position was bound by learning:
a SENSOR LISTEN step on the position completes. -/
def State.reportTelegram (s : State) (p : Position) : State :=
  match s.mode.running with
  | some r => if r.step = .sensorListen p then s.stepDone else s
  | none => s

end Sys2Proof.Machine
end

