-- ==== Sys2Proof/Machine/Tyres.lean ====
section
/-! DEFINITION. The Tyre Table Unit's work on records: evaluation (R10 to R15), the pair comparison (R17, R18), the clearing
of records (R2, R24) and the retirement of positions (R25). -/
namespace Sys2Proof.Machine

/-! ### Records -/

/-- R4: a record in AWAITING, LIVE, SILENT or FAULTED is bound. -/
def PositionState.isBound : PositionState → Bool
  | .empty => false
  | .learning => false
  | .awaiting => true
  | .live => true
  | .silent => true
  | .faulted => true

/-- R2: the live fields cleared. -/
def PositionRecord.cleared (r : PositionRecord) : PositionRecord :=
  { r with
    pressure := none, temperature := none, age := none, pressureLevel := .none, temperatureLevel := .normal,
    batteryLow := false, fastLoss := false, expected := none, silenceDue := false }

/-- R24: the record EMPTY, its setpoints kept. -/
def PositionRecord.emptied (r : PositionRecord) : PositionRecord :=
  { r.cleared with state := .empty, bound := none }

/-- R35, R36: the record LEARNING, its setpoints kept. -/
def PositionRecord.targeted (r : PositionRecord) : PositionRecord :=
  { r.cleared with state := .learning, bound := none }

/-- The record a restored binding gives: AWAITING with age 0 and its live fields absent (R171). -/
def PositionRecord.awaitingFor (r : PositionRecord) (b : Binding) : PositionRecord :=
  { r.cleared with state := .awaiting, bound := some b, age := some 0 }

/-- R6: the position a sensor ID is bound to. -/
def State.boundPosition (s : State) (id : SensorId) : Option Position :=
  Position.list.find? fun p => decide ((s.position p).bound.map Binding.id = some id)

/-! ### Evaluation -/

/-- R11: the effective setpoint, with L_pos the load ratio applied. -/
def effectiveSetpoint (pl : Nat) (pe : Option Nat) (lPos : Nat) : Nat :=
  match pe with
  | none => pl
  | some e => e + (pl - e) * lPos / 1000

/-- R12: the expected pressure at temperature `t`, 20 when absent. -/
def expectedPressure (pSet : Nat) (t : Option Int) : Nat :=
  ((pSet + 100) * (t.getD 20 + 273).toNat) / 293 - 100

/-- R12: the ratio q in permille. -/
def pressureRatio (pressure expected : Nat) : Nat := pressure * 1000 / expected

/-- R13: the temperature level. -/
def temperatureLevel (hotLimit : Nat) (now : TemperatureLevel) (t : Option Int) : TemperatureLevel :=
  match t with
  | none => now
  | some t =>
    match now with
    | .normal => if (hotLimit : Int) ≤ t then .hot else .normal
    | .hot => if t ≤ (hotLimit : Int) - 5 then .normal else .hot

/-- R14: the severity of a level: 0 for no LOW level, then LOW ADVISORY, LOW WARNING, LOW ALARM. -/
def PressureLevel.severity : PressureLevel → Nat
  | .none => 0
  | .highAdvisory => 0
  | .lowAdvisory => 1
  | .lowWarning => 2
  | .lowAlarm => 3

/-- The LOW level of a severity, NONE for 0. -/
def lowLevel : Nat → PressureLevel
  | 0 => .none
  | 1 => .lowAdvisory
  | 2 => .lowWarning
  | _ => .lowAlarm

/-- R14 step 3: the severity of the entry level of q. -/
def entrySeverity (q : Nat) : Nat :=
  if q < 700 then 3 else if q < 800 then 2 else if q < 900 then 1 else 0

/-- R14 step 3: the severity of the return level of q. -/
def returnSeverity (q : Nat) : Nat :=
  if q < 730 then 3 else if q < 830 then 2 else if q < 930 then 1 else 0

/-- R14 step 6: from NONE. -/
def levelFromNone (q : Nat) : PressureLevel := if 1250 < q then .highAdvisory else .none

/-- R14 steps 4 to 7: the level after `now` at the ratio q. -/
def levelAtRatio (now : PressureLevel) (q : Nat) : PressureLevel :=
  if now.severity < entrySeverity q then lowLevel (entrySeverity q)
  else if 0 < now.severity then
    if min now.severity (returnSeverity q) = 0 then levelFromNone q
    else lowLevel (min now.severity (returnSeverity q))
  else if now = .highAdvisory then
    if q ≤ 1220 then .none else .highAdvisory
  else levelFromNone q

/-- R14: the pressure level after an evaluation. -/
def pressureLevel (now : PressureLevel) (fastLoss : Bool) (pressure : Option Nat) (expected : Nat) : PressureLevel :=
  if fastLoss then .lowAlarm
  else
    match pressure with
    | none => now
    | some p => levelAtRatio now (pressureRatio p expected)

/-- R11: the load ratio applied to a position: that of its axle's group while the axle is DOWN, else 0. -/
def State.loadRatioAt (s : State) : Position → Nat
  | .road a _ =>
    match (s.axle a).lift with
    | .down => (s.group (s.axle a).layout.group).l
    | .raising => 0
    | .up => 0
    | .lowering => 0
  | .sp1 => 0
  | .sp2 => 0

/-- R11: P_set of a position; a spare position takes P_L. -/
def State.setpointAt (s : State) (p : Position) : Nat :=
  match p with
  | .road _ _ => effectiveSetpoint (s.position p).pl (s.position p).pe (s.loadRatioAt p)
  | .sp1 => (s.position p).pl
  | .sp2 => (s.position p).pl

/-- R10 steps 1 to 3: the record after an evaluation. -/
def State.evaluatedRecord (s : State) (p : Position) : PositionRecord :=
  let r := s.position p
  let e := expectedPressure (s.setpointAt p) r.temperature
  { r with
    expected := some e
    pressureLevel := pressureLevel r.pressureLevel r.fastLoss r.pressure e
    temperatureLevel := temperatureLevel s.settings.hotLimit r.temperatureLevel r.temperature }

/-- R15: the two levels of a record. -/
def PositionRecord.levels (r : PositionRecord) : PressureLevel × TemperatureLevel := (r.pressureLevel, r.temperatureLevel)

/-- R15: TYRE LEVEL is set where a position's levels differ from those given. The LDU and the STU take the levels as
they stand when the change is settled (Settle); the LDU takes those of a Write Setpoints at each position
(`State.evaluateOffering`). -/
def State.noteLevels (s : State) (p : Position) (before : PositionRecord) : State :=
  if (s.position p).levels = before.levels then s else s.noteTyreLevel p

/-! ### The pair comparison -/

/-- R16: the silence timeout in force, in seconds. -/
def State.silenceTimeout (s : State) : Nat := if s.inputs.motion = .moving then 360 else 2400

/-- R18: a member can be judged: LIVE, with a last pressure, and not older than half the silence timeout. -/
def State.judgeable (s : State) (r : PositionRecord) : Option Nat :=
  if r.state = .live ∧ r.age.getD 0 ≤ s.silenceTimeout / 2 then r.pressure else none

/-- R18: the state of a judged pair with difference d. -/
def judgedPair (now : PairState) (delta d : Nat) : PairState :=
  if delta < d then .mismatched
  else if now = .mismatched ∧ delta < d + 20 then .mismatched
  else .matched

/-- R18: the new state of a pair. -/
def State.comparedPair (s : State) (a : AxleId) (sd : Side) : PairState :=
  match s.judgeable (s.position (.road a sd.inner)), s.judgeable (s.position (.road a sd.outer)) with
  | some i, some o => judgedPair (s.pair a sd) s.settings.pairDelta (absDiff i o)
  | _, _ => .unordered

/-- R18: the comparison of a pair that is not NOT A PAIR; each entry into MISMATCHED sets PAIR MISMATCH. -/
def State.comparePair (s : State) (a : AxleId) (sd : Side) : State :=
  if s.pair a sd = .notAPair then s
  else
    let t := s.setPair a sd (s.comparedPair a sd)
    if s.comparedPair a sd = .mismatched ∧ s.pair a sd ≠ .mismatched then t.notePairMismatch a sd else t

/-- R10 step 5, R18: the comparison of a position's pair, where it has one. -/
def State.comparePairOf (s : State) : Position → State
  | .road a sl => s.comparePair a sl.side
  | .sp1 => s
  | .sp2 => s

/-- R10: the evaluation of a record; nothing on an EMPTY or LEARNING one. -/
def State.evaluate (s : State) (p : Position) : State :=
  if (s.position p).state.isBound then
    ((s.setPosition p (s.evaluatedRecord p)).noteLevels p (s.position p)).comparePairOf p
  else s

/-- R10: every position of an axle, on a change of its lift state. -/
def State.evaluateAxle (s : State) (a : AxleId) : State :=
  Slot.list.foldl (fun t sl => t.evaluate (.road a sl)) s

/-! ### Clearing and retiring -/

/-- R24: a bound record is cleared, TYRE LEVEL is set where a level was not NONE or NORMAL, and its pair is compared. -/
def State.clearBound (s : State) (p : Position) : State :=
  let before := s.position p
  ((s.setPosition p before.emptied).noteLevels p before).comparePairOf p

/-- R40: the open learn window is cancelled: its target becomes EMPTY and LEARN RESULT CANCELLED is set. -/
def State.cancelWindow (s : State) : State :=
  match s.intake.window with
  | none => s
  | some w =>
    ((s.setIntake { s.intake with window := none }).setPosition w.target (s.position w.target).emptied).noteLearnResult
      .cancelled w.target

/-- R24, R25: one position is retired according to its state. -/
def State.retirePosition (s : State) (p : Position) : State :=
  match (s.position p).state with
  | .empty => s
  | .learning => s.cancelWindow
  | .awaiting => s.clearBound p
  | .live => s.clearBound p
  | .silent => s.clearBound p
  | .faulted => s.clearBound p

/-- R25: every position that existed under the old layout and does not exist now is retired; POSITIONS RETIRED takes the
bound and LEARNING ones. -/
def State.retireByLayout (s : State) (old : PerAxle AxleRecord) : State :=
  Position.list.foldl
    (fun t p =>
      if layoutHas old p && !t.positionExists p then
        if (t.position p).state = .empty then t else (t.retirePosition p).notePositionRetired p
      else t)
    s

/-- R17: whether an axle's sides are pairs. -/
def AxleLayout.paired (x : AxleLayout) : Bool := x.present && x.dual

/-- R17: the pairs of one axle are derived from the layout: UNORDERED, and compared, where they become pairs. -/
def State.derivePairs (s : State) (old : PerAxle AxleRecord) (a : AxleId) : State :=
  if (s.axle a).layout.paired then
    if (old.get a).layout.paired then s
    else (((s.setPair a .left .unordered).setPair a .right .unordered).comparePair a .left).comparePair a .right
  else (s.setPair a .left .notAPair).setPair a .right .notAPair

/-- R17: every pair is derived from the layout anew. -/
def State.deriveAllPairs (s : State) (old : PerAxle AxleRecord) : State :=
  AxleId.list.foldl (fun t a => t.derivePairs old a) s

/-- R171 step 6: every pair is compared. -/
def State.compareAllPairs (s : State) : State :=
  AxleId.list.foldl (fun t a => (t.comparePair a .left).comparePair a .right) s

end Sys2Proof.Machine
end

