-- ==== Sys2Proof/Machine/Loading.lean ====
section
/-! DEFINITION. The Load Unit: group load and its holds (R68 to R73), lift-state changes and their causes (R74 to R85). -/
namespace Sys2Proof.Machine

/-! ### Load of a group -/

/-- R68: W from a bellows average. -/
def loadW (c : Calibration) (pb : Int) : Nat :=
  (clampInt 0 3000 ((c.we : Int) + Int.tdiv ((pb - c.pe) * ((c.wl : Int) - c.we)) ((c.pl : Int) - c.pe))).toNat

/-- R68: L from W. -/
def loadL (c : Calibration) (w : Nat) : Nat :=
  (clampInt 0 1000 (Int.tdiv (1000 * ((w : Int) - c.we)) ((c.wl : Int) - c.we))).toNat

/-- R69: at least one hold cause is in force. -/
def GroupRecord.anyHold (r : GroupRecord) : Bool := r.holdStart || r.holdTransition || r.holdRoll || r.holdSensor

/-- R69: a cause has arrived: a VALID group becomes HELD and keeps W and L. -/
def GroupRecord.entered (r : GroupRecord) : GroupRecord :=
  match r.status with
  | .valid => { r with status := .held }
  | .held => r
  | .substituted => r

/-- The group with the load of a bellows average. -/
def GroupRecord.loaded (r : GroupRecord) (c : Calibration) (pb : Int) : GroupRecord :=
  { r with w := loadW c pb, l := loadL c (loadW c pb) }

/-- R69: the status once a cause has ended: VALID, with the load formed anew, when none is in force and the bellows
input is VALID. -/
def GroupRecord.released (r : GroupRecord) (c : Calibration) (bellows : Option Int) : GroupRecord :=
  if r.anyHold then r
  else
    match bellows with
    | some pb => { r with status := .valid }.loaded c pb
    | none => r

/-! ### Lift states -/

/-- R85, R150: what a change of an axle's lift state means for a LIFT step that runs on the axle. -/
def State.reportLift (s : State) (a : AxleId) (x : LiftState) : State :=
  match s.mode.running with
  | none => s
  | some r =>
    if r.step = .lift a true then
      match x with
      | .up => s.stepDone
      | .lowering => s.stepFaults .liftInterrupted
      | .raising => s
      | .down => s
    else if r.step = .lift a false then
      match x with
      | .down => s.stepDone
      | .lowering => s
      | .raising => s
      | .up => s
    else s

/-- R67: the axles-down count of a group as the lift states stand. -/
def State.recount (s : State) (g : GroupId) : State :=
  s.setGroup g { s.group g with n := axlesDown s.loads.axles g }

/-- R70: a present axle of the group is RAISING or LOWERING. -/
def State.inTransition (s : State) (g : GroupId) : Bool :=
  (s.groupAxles g).any fun a => decide ((s.axle a).lift = .raising) || decide ((s.axle a).lift = .lowering)

/-- R70: the transition cause arrives and stays in force while an axle is in transition; afterwards its 1 s timer
starts, and a new transition cancels it. -/
def State.followTransition (s : State) (g : GroupId) : State :=
  if s.inTransition g then
    s.setGroup g { (s.group g).entered with holdTransition := true, transitionEndSince := none }
  else if (s.group g).holdTransition && (s.group g).transitionEndSince.isNone then
    s.setGroup g { s.group g with transitionEndSince := some s.now }
  else s

/-- R74: each arrival at UP and at DOWN sets LIFT CHANGE. -/
def State.noteArrival (s : State) (a : AxleId) (x : LiftState) : State :=
  match x with
  | .up => s.noteLiftChange a
  | .down => s.noteLiftChange a
  | .raising => s
  | .lowering => s

/-- R74: a lift-state change with its effects in the same change: the axles-down counts, the transition hold (R70),
LIFT CHANGE, the evaluation of the axle's positions (R10), and the report to a LIFT step (R85). An arrival at DOWN clears
the conflict-found flag (R83). The reference speed, the wheel sets, L_r and D follow when the change is settled: a LIFT
step that the change completes is DONE before the new reference speed can end it (DESIGN CHOICE, notes 58). -/
def State.setLift (s : State) (a : AxleId) (x : LiftState) : State :=
  if (s.axle a).lift = x then s
  else
    let r := s.axle a
    let s1 := s.setAxle a { r with
      lift := x, liftSince := s.now, conflict := if x = .down then false else r.conflict }
    let s2 := (s1.recount .g1).recount .g2
    let s3 := (s2.followTransition .g1).followTransition .g2
    ((s3.noteArrival a x).evaluateAxle a).reportLift a x

/-- R74: an axle that is RAISING or UP. -/
def LiftState.lifted : LiftState → Bool
  | .down => false
  | .raising => true
  | .up => true
  | .lowering => false

/-- R74: a lowering cause reaches an axle: LOWERING from RAISING or UP, nothing else. -/
def State.lowerAxle (s : State) (a : AxleId) : State :=
  if (s.axle a).lift.lifted then s.setLift a .lowering else s

/-- R81: a HELD UP mode becomes AUTO. -/
def State.modeToAuto (s : State) (a : AxleId) : State :=
  if (s.axle a).mode = .heldUp then s.setAxle a { s.axle a with mode := .auto } else s

/-- R79, R81 to R83: an axle that is RAISING or UP is lowered, and its HELD UP mode becomes AUTO. -/
def State.lowerToAuto (s : State) (a : AxleId) : State :=
  if (s.axle a).lift.lifted then (s.modeToAuto a).setLift a .lowering else s

/-- R82: one axle under a forced cause. -/
def State.forceAxle (s : State) (a : AxleId) : State :=
  let t := if (s.axle a).lift.lifted || (s.axle a).raisePending then s.modeToAuto a else s
  (t.setAxle a { t.axle a with raisePending := false }).lowerAxle a

/-- R82: every lifted axle goes to LOWERING and every raise pending flag clears. A raise that is due stays due, and where
the same event changes its start conditions, its test (R78) comes after the clearing and may set the flag again (DESIGN
CHOICE, notes 61). -/
def State.forceLower (s : State) : State := AxleId.list.foldl State.forceAxle s

/-- R77: the raise measurement of a group ends; the raise pending flags of its AUTO axles clear unless the automatic
decisions do not run (R76, R78). -/
def State.endRaise (s : State) (g : GroupId) (keepFlags : Bool) : State :=
  let t := s.setGroup g { s.group g with raiseSince := none, raiseDue := false }
  if keepFlags then t
  else
    (t.groupAxles g).foldl
      (fun t a => if (t.axle a).mode = .auto then t.setAxle a { t.axle a with raisePending := false } else t) t

/-! ### Bounds of the lift rules -/

/-- R81: the bound on the per-axle load of a HELD UP axle. -/
def State.heldUpBound (s : State) (g : GroupId) : Nat := 1300 * (s.calibration g).wl / 1000

/-- R77, R81: the per-axle load with one axle fewer on the road. -/
def projectedLoad (w n : Nat) : Nat := w * n / (n - 1)

/-- R81: the projected per-axle load of an axle: of the raise for a DOWN axle, W for one that is not. -/
def State.projectionOf (s : State) (a : AxleId) : Nat :=
  let g := s.group (s.axle a).layout.group
  if (s.axle a).lift = .down then projectedLoad g.w g.n else g.w

/-- R81: a HELD UP axle that is RAISING or UP is lowered when W exceeds the bound or the reference speed reaches 300. -/
def State.boundHeldUp (s : State) (a : AxleId) : State :=
  let g := (s.axle a).layout.group
  if (s.axle a).mode = .heldUp ∧ (s.heldUpBound g < (s.group g).w ∨ 300 ≤ s.inputs.reference) then s.lowerToAuto a
  else s

/-- R81: the bounds at a new W of a group. -/
def State.boundGroup (s : State) (g : GroupId) : State := (s.groupAxles g).foldl State.boundHeldUp s

/-- R68: W and L are formed anew while the status is VALID. -/
def State.formLoad (s : State) (g : GroupId) : State :=
  match (s.group g).status, s.offered g.bellows with
  | .valid, some pb => (s.setGroup g ((s.group g).loaded (s.calibration g) pb)).boundGroup g
  | _, _ => s

/-- R69: a group whose last cause has ended returns to VALID. -/
def State.releaseGroup (s : State) (g : GroupId) : State :=
  if (s.group g).status = .valid then s
  else
    let r := (s.group g).released (s.calibration g) (s.offered g.bellows)
    if r.status = .valid then (s.setGroup g r).boundGroup g else s

/-! ### Hold causes -/

/-- R71: the roll cause arrives in every group in use. -/
def State.rollArrives (s : State) : State :=
  GroupId.list.foldl
    (fun t g => if t.groupInUse g then t.setGroup g { (t.group g).entered with holdRoll := true } else t) s

/-- R71: the roll cause ends. -/
def State.rollEnds (s : State) : State :=
  GroupId.list.foldl
    (fun t g =>
      if (t.group g).holdRoll then (t.setGroup g { t.group g with holdRoll := false }).releaseGroup g else t) s

/-- R72: the bellows input became invalid: the sensor cause arrives and its measurement starts at `since`. An input that
failed from STARTING replaces the start cause (R73). -/
def State.bellowsInvalid (s : State) (g : GroupId) (since : Nat) : State :=
  if s.groupInUse g then
    s.setGroup g { (s.group g).entered with holdStart := false, holdSensor := true, sensorSince := some since }
  else s

/-- R69, R72, R73: the bellows input became valid: the sensor and start causes end; the group becomes VALID with the
carried average, or HELD while another cause is in force. -/
def State.bellowsValid (s : State) (g : GroupId) : State :=
  if s.groupInUse g then
    let r := { s.group g with holdStart := false, holdSensor := false, sensorSince := none }
    if r.anyHold then s.setGroup g { r with status := .held }
    else (s.setGroup g { r with status := .valid }).formLoad g
  else s

/-- R73: a group enters use. -/
def State.groupEnters (s : State) (g : GroupId) : State :=
  let c := s.calibration g
  let r := GroupRecord.unused c.re
  match (s.analog g.bellows).validity with
  | .valid => (s.setGroup g r).formLoad g
  | .invalid =>
    s.setGroup g { r with status := .held, holdSensor := true, sensorSince := some s.now, w := c.wl, l := 1000 }
  | .starting => s.setGroup g { r with status := .held, holdStart := true, w := c.wl, l := 1000 }

/-- R65 step 3, R73: a group under a new layout: it enters or leaves use, its axles-down count is formed anew, and its
raise measurement ends. -/
def State.regroup (s : State) (old : PerAxle AxleRecord) (g : GroupId) : State :=
  let t :=
    if s.groupInUse g then if groupHasAxle old g then s else s.groupEnters g
    else s.setGroup g (.unused (s.calibration g).re)
  ((t.recount g).endRaise g false).followTransition g

/-! ### Raising -/

/-- R77: an eligible axle: present, liftable, DOWN and AUTO. -/
def AxleRecord.eligible (r : AxleRecord) : Bool :=
  r.layout.present && r.layout.liftable && decide (r.lift = .down) && decide (r.mode = .auto)

/-- R77: the rearmost eligible axle of a group. -/
def State.chosenAxle (s : State) (g : GroupId) : Option AxleId :=
  ((s.groupAxles g).filter fun a => (s.axle a).eligible).getLast?

/-- R77: the load condition of a group. -/
def State.loadCondition (s : State) (g : GroupId) : Bool :=
  let r := s.group g
  decide (2 ≤ r.n) && decide (r.status = .valid) &&
    decide (projectedLoad r.w r.n ≤ 700 * (s.calibration g).wl / 1000)

/-- R77: the conditions under which the raise measurement runs. -/
def State.raiseRuns (s : State) (g : GroupId) : Bool :=
  s.decisionsRun && s.groupInUse g && (s.chosenAxle g).isSome && s.loadCondition g

/-- R78: the start conditions as they stand. -/
def State.startConditions (s : State) (g : GroupId) : StartConditions :=
  { braking := s.demands.braking
    tyreBar := match s.chosenAxle g with
      | some a => s.otherTyre a isWarning
      | none => false
    supplyOk := s.supplySound
    stabilityOk := !s.stuActing }

/-- R78: one test of the start conditions of a due raise. While braking, the chosen axle's raise pending flag is set;
otherwise the flags of the group's AUTO axles clear, and the chosen axle goes to RAISING when every condition holds. A test
that a forced cause brings comes after that cause has cleared the flags (DESIGN CHOICE, notes 61). -/
def State.testRaise (s : State) (g : GroupId) : State :=
  let c := s.startConditions g
  let t := s.setGroup g { s.group g with seen := c }
  match t.chosenAxle g with
  | none => t
  | some a =>
    if c.braking then t.setAxle a { t.axle a with raisePending := true }
    else
      let u := (t.groupAxles g).foldl
        (fun u b => if (u.axle b).mode = .auto then u.setAxle b { u.axle b with raisePending := false } else u) t
      if !c.tyreBar && c.supplyOk && c.stabilityOk then u.setLift a .raising else u

/-- R78: the flag of an axle that is no longer eligible clears; a HELD UP axle keeps its flag while it is DOWN (R81). -/
def State.dropFlag (s : State) (a : AxleId) : State :=
  let r := s.axle a
  if r.raisePending && !(r.eligible || (decide (r.mode = .heldUp) && decide (r.lift = .down) && r.layout.present)) then
    s.setAxle a { r with raisePending := false }
  else s

/-- R77, R78: the raise measurement of a group follows its conditions; a raise that stays due is tested again when a
start condition has changed. A forced cause (R82) is none of R77's conditions, and leaves a due raise due (DESIGN CHOICE,
notes 61). -/
def State.followRaise (s : State) (g : GroupId) : State :=
  if s.raiseRuns g then
    let t := s.setGroup g { s.group g with
      raiseSince := some ((s.group g).raiseSince.getD s.now) }
    if (t.group g).raiseDue && decide (t.startConditions g ≠ (t.group g).seen) then t.testRaise g else t
  else if (s.group g).raiseSince.isSome || (s.group g).raiseDue || s.decisionsRun then s.endRaise g (!s.decisionsRun)
  else s

/-- R80: the 1 s measurement of an axle follows its condition. -/
def State.followLower (s : State) (a : AxleId) : State :=
  let r := s.axle a
  let g := r.layout.group
  if s.decisionsRun && r.layout.present && r.layout.liftable && decide (r.lift = .up) && decide (r.mode = .auto) &&
      decide (900 * (s.calibration g).wl / 1000 < (s.group g).w) then
    s.setAxle a { r with lowerSince := some (r.lowerSince.getD s.now) }
  else s.setAxle a { r with lowerSince := none }

/-! ### Braking, tyres and faults -/

/-- R79: the braking condition became true: a RAISING axle goes to LOWERING. -/
def State.abortRaise (s : State) (a : AxleId) : State :=
  if (s.axle a).lift = .raising then s.lowerToAuto a else s

/-- R81: SUP refuses a HELD UP raise or a raise step: INVALID, or the SUPPLY LOW condition. -/
def State.supplyRefuses (s : State) : Bool := decide ((s.analog .sup).validity = .invalid) || s.supplyBelow

/-- R81: the conditions that refuse HELD UP, with what the refusal names: the limiting value for the load and speed
bounds. -/
def State.heldUpRefusal (s : State) (a : AxleId) : Option Named :=
  let g := (s.axle a).layout.group
  if (s.axle a).lift = .lowering ∨ s.supplyRefuses ∨ s.otherTyre a isAlarm then some ⟨none, none, none⟩
  else if 300 ≤ s.inputs.reference then some ⟨none, none, some 300⟩
  else if s.heldUpBound g < s.projectionOf a then some ⟨none, none, some (s.heldUpBound g)⟩
  else none

/-- R81, R82: nothing holds a HELD UP raise back: neither the braking condition nor an acting STU. -/
def State.heldUpMayRise (s : State) : Bool := !s.demands.braking && !s.stuActing

/-- R81: nothing holds it back any longer: a HELD UP axle whose raise is pending is tested again; it goes to RAISING, or
returns to AUTO. -/
def State.retryHeldUp (s : State) (a : AxleId) : State :=
  let r := s.axle a
  if s.heldUpMayRise ∧ r.mode = .heldUp ∧ r.raisePending ∧ r.lift = .down then
    if (s.heldUpRefusal a).isSome then s.setAxle a { r with mode := .auto, raisePending := false }
    else (s.setAxle a { r with raisePending := false }).setLift a .raising
  else s

/-- R77 to R82: the measurements of the load rules, the raise pending flags, and the HELD UP raises that nothing holds
back any longer. Where one change frees several raises, the HELD UP axles are tested first, from A1 to A5, each with the
axles-down count that the one before it left, and the due AUTO raises of G1 and G2 after them (DESIGN CHOICE, notes
51). -/
def State.followLifts (s : State) : State :=
  let t := AxleId.list.foldl State.retryHeldUp s
  let t := AxleId.list.foldl State.dropFlag t
  let t := GroupId.list.foldl State.followRaise t
  AxleId.list.foldl State.followLower t

/-- R79, R98: the LDU takes a change of the braking condition. What its end lets rise follows with the lift rules. -/
def State.takeBraking (s : State) (b : Bool) : State :=
  let t := s.setDemands { s.demands with braking := b }
  if b then AxleId.list.foldl State.abortRaise t else t

/-- R83: the tyre test of an axle that is RAISING or UP. -/
def State.testTyres (s : State) (a : AxleId) : State :=
  let r := s.axle a
  if r.layout.present && r.layout.liftable && r.lift.lifted then
    if s.otherTyre a isAlarm then
      if s.ownAlarm a then
        if r.conflict then s else (s.setAxle a { r with conflict := true }).noteLiftConflict a
      else (s.setAxle a { r with conflict := false }).lowerToAuto a
    else s.setAxle a { r with conflict := false }
  else s

/-- R83: the tests of every axle. -/
def State.testAllTyres (s : State) : State := AxleId.list.foldl State.testTyres s

/-- R10, R15, R83: the evaluation of a position, with a changed level offered to the LDU at once, which takes it as a
fresh test of every axle. -/
def State.evaluateOffering (s : State) (p : Position) : State :=
  let t := s.evaluate p
  if (t.position p).levels = (s.position p).levels then t else t.testAllTyres

/-- R84: a VALID wheel sensor of the axle reads more than 50. -/
def State.wheelTurns (s : State) (a : AxleId) : Bool :=
  ((s.axle a).layout.left.toList ++ (s.axle a).layout.right.toList).any fun w =>
    (s.wheel w).valid && decide (50 < (s.wheel w).speed)

/-- R85: a LIFT step runs on the axle. -/
def State.liftStepOn (s : State) (a : AxleId) : Bool :=
  match s.mode.running with
  | some r => decide (r.step = .lift a true) || decide (r.step = .lift a false)
  | none => false

/-- R84: a lift fault, judged on an UP axle: LIFT FAULT, mode HELD DOWN, LOWERING, and the report to a LIFT step. -/
def State.judgeLiftFault (s : State) (a : AxleId) : State :=
  let r := s.axle a
  if r.layout.present && r.layout.liftable && decide (r.lift = .up) && s.wheelTurns a && decide (100 < s.inputs.reference)
  then
    let t := (s.noteLiftFault a).setAxle a { r with mode := .heldDown }
    let t := if t.liftStepOn a then t.stepFaults .liftFault else t
    t.setLift a .lowering
  else s

/-- R85: the LDU refuses a raise of a workshop step. -/
def State.refusesRaiseStep (s : State) (a : AxleId) : Bool :=
  let r := s.axle a
  !r.layout.liftable || decide (r.mode = .heldDown) || decide (r.lift = .lowering) || s.supplyRefuses ||
    s.demands.braking || s.otherTyre a isAlarm || decide (s.heldUpBound r.layout.group < s.projectionOf a)

/-- R74: the axle's lift valve output is energised while the axle is RAISING or UP, and never in WATCH. -/
def State.liftValveOf (s : State) (a : AxleId) : Bool :=
  (s.axle a).layout.present && (s.axle a).layout.liftable && (s.axle a).lift.lifted &&
    decide (s.mode.power ≠ .watch)

/-- R63, R74: the lift valve outputs V1 (`second` false) and V2 (`second` true), each driven by the present liftable axle
that names it. -/
def State.liftValve (s : State) (second : Bool) : Bool :=
  AxleId.list.any fun a => decide ((s.axle a).layout.valve2 = second) && s.liftValveOf a

end Sys2Proof.Machine
end

