-- ==== Sys2Proof/Machine/Rollover.lean ====
section
/-! DEFINITION. The Stability Unit: the rollover limit (R130, R131), and the changes of its state with what each one orders
of the demand table, the channel controllers and the Load Unit (R133 to R140). -/
namespace Sys2Proof.Machine

/-! ### The rollover limit -/

/-- R131 step 1: the height in use. -/
def heightInUse (p : StabilityParameters) (lr : Nat) : Nat :=
  p.heightEmpty + (p.heightLaden - p.heightEmpty) * lr / 1000

/-- R131 step 2: the static threshold. -/
def staticThreshold (p : StabilityParameters) (lr : Nat) : Nat := 1000 * p.halfTrack / heightInUse p lr

/-- R131 step 3: the rollover limit. -/
def rolloverLimit (p : StabilityParameters) (lr derate : Nat) : Nat :=
  (clampInt 200 700 (((staticThreshold p lr * p.margin / 1000 : Nat) : Int) - derate)).toNat

/-- R131: the probe threshold of a limit. -/
def probeThreshold (limit : Nat) : Nat := 600 * limit / 1000

/-- R131: the exit threshold of a limit. -/
def exitThreshold (limit : Nat) : Nat := 500 * limit / 1000

/-- R131: the limit in force: the frozen limit while one is held, else the live limit. -/
def Stability.limitInForce (x : Stability) : Nat := x.frozen.getD x.liveLimit

/-- R130: L_r, the larger L of the groups with an axle down. -/
def State.loadRatioInUse (s : State) : Nat :=
  let of := fun g => if 1 ≤ (s.group g).n then (s.group g).l else 0
  max (of .g1) (of .g2)

/-- R130: D, 50 while an existing road position of a present axle that is DOWN is at LOW ALARM. -/
def State.tyreDerate (s : State) : Nat :=
  if AxleId.list.any fun a =>
      (s.axle a).layout.present && decide ((s.axle a).lift = .down) && s.ownAlarm a
  then 50 else 0

/-- R133: an idle condition holds. -/
def State.idleCondition (s : State) : Bool :=
  decide (s.channels.mode = .fallback) || decide (s.mode.workshop ≠ .off) || decide (s.mode.power ≠ .awake) ||
    !s.settings.stability.enable

/-! ### Orders to the channel controllers and the table -/

/-- R117: a channel goes to FREE with cap 1000; its RELEASE and HOLD timers stop. -/
def ChannelRecord.freed (r : ChannelRecord) : ChannelRecord := { r with lock := .free, cap := 1000 }

/-- R119: every suppression is cleared. -/
def State.liftSuppressions (s : State) : State :=
  s.setChannels { s.channels with
    records := s.channels.records.map fun (r : ChannelRecord) => { r with suppressed := false } }

/-- R119: the order to suppress lock release on one channel, which clears any other suppression. -/
def State.suppress (s : State) (c : ChannelId) : State :=
  let t := s.liftSuppressions
  t.setChannel c { (t.channel c).freed with suppressed := true }

/-- R93: the STU posts a list of three pressures. -/
def State.postStability (s : State) (l : PerChannel Nat) : State := s.postEntry .stability (.channels l)

/-- R93, R119: the STU retires its entry; the retirement clears every suppression. -/
def State.retireStability (s : State) : State := (s.retireEntry .stability).liftSuppressions

/-- The same pressure for all three channels. -/
def evenly (p : Nat) : PerChannel Nat := ⟨p, p, p⟩

/-! ### Changes of state -/

/-- The record with nothing of a probe or an intervention. -/
def Stability.quiet (x : Stability) (state : StuState) : Stability :=
  { x with
    state := state, frozen := none, pInt := none, inner := none, pulse := none, probeSince := none, pressure := 0,
    ramp := none, exitSince := none, latSince := none }

/-- R133: the entry into IDLE. -/
def State.stuIdle (s : State) : State :=
  ((s.setStability (s.stability.quiet .idle)).retireStability).rollEnds

/-- R136, R140: the return to ARMED from a probe or at the end of an intervention. -/
def State.stuArmed (s : State) : State :=
  ((s.setStability (s.stability.quiet .armed)).retireStability).rollEnds

/-- R135: the inner channel of an acceleration: CH-L for positive, CH-R for negative. -/
def innerChannel (a : Int) : ChannelId := if 0 ≤ a then .chL else .chR

/-- R135: the pulse list: 80 kPa on the inner channel. -/
def pulseList (c : ChannelId) : PerChannel Nat := (evenly 0).set c 80

/-- R135: the entry into PROBING at acceleration a. -/
def State.enterProbing (s : State) (a : Int) : State :=
  let c := innerChannel a
  let t := s.setStability { s.stability with state := .probing, probeSince := some s.now, inner := some c }
  let t := t.forceLower.rollArrives
  if (t.channel c).driverPart < 60 then
    (((t.setStability { t.stability with pulse := some .posted }).postStability (pulseList c))).suppress c
  else t.setStability { t.stability with pulse := some .notPosted }

/-- R137 step 2: the intervention pressure. -/
def interventionPressure (lr : Nat) : Nat := 250 + 350 * lr / 1000

/-- R137: a new intervention, from ARMED or PROBING. -/
def State.enterIntervening (s : State) : State :=
  let limit := s.stability.liveLimit
  let t := s.setStability { s.stability with
    state := .intervening, frozen := some limit, pInt := some (interventionPressure s.stability.lr), inner := none,
    pulse := none, probeSince := none, exitSince := none, latSince := none }
  let t := (t.forceLower.rollArrives).liftSuppressions
  let start := t.sourcePressure .stability
  let t := t.setStability { t.stability with
    pressure := start, ramp := some { up := true, start := start, since := t.now } }
  (t.postStability (evenly start)).noteStabilityAction limit

/-- R137: the same intervention resumed, from RECOVERING. -/
def State.resumeIntervening (s : State) : State :=
  let t := s.setStability { s.stability with
    state := .intervening, exitSince := none, latSince := none,
    ramp := some { up := true, start := s.stability.pressure, since := s.now } }
  t.forceLower.rollArrives

/-- R139: the entry into RECOVERING: both measurements stop and the ramp turns downward. -/
def State.enterRecovering (s : State) : State :=
  s.setStability { s.stability with
    state := .recovering, exitSince := none, latSince := none,
    ramp := some { up := false, start := s.stability.pressure, since := s.now } }

/-- R134: an ARMED unit compares |a| with the limit in force. -/
def State.compareArmed (s : State) (a : Int) : State :=
  let limit := s.stability.limitInForce
  if limit ≤ a.natAbs then s.enterIntervening
  else if probeThreshold limit ≤ a.natAbs then
    match s.stability.lastNegative with
    | none => s.enterProbing a
    | some t => if t + millis 1000 ≤ s.now then s.enterProbing a else s
  else s

/-- R134, R136, R139, R140: a new average of LAT. -/
def State.takeLateral (s : State) (a : Int) : State :=
  match s.stability.state with
  | .idle => s
  | .armed => s.compareArmed a
  | .probing => if s.stability.limitInForce ≤ a.natAbs then s.enterIntervening else s
  | .intervening =>
    if a.natAbs < exitThreshold s.stability.limitInForce then
      s.setStability { s.stability with exitSince := some (s.stability.exitSince.getD s.now) }
    else s.setStability { s.stability with exitSince := none }
  | .recovering =>
    if s.stability.limitInForce ≤ a.natAbs ∧ 100 ≤ s.inputs.reference then s.resumeIntervening else s

/-- R136: wheel lift found on a channel: a new slip above 150, or an entry into RELEASE, of the inner channel. -/
def State.takeWheelLift (s : State) (c : ChannelId) : State :=
  if s.stability.state = .probing ∧ s.stability.inner = some c then s.enterIntervening else s

/-- R136: a driver-derived part of 60 or more lifts a posted pulse. -/
def State.takeDriverPart (s : State) (c : ChannelId) : State :=
  if s.stability.state = .probing ∧ s.stability.inner = some c ∧ s.stability.pulse = some .posted ∧
      60 ≤ (s.channel c).driverPart then
    (s.setStability { s.stability with pulse := some .lifted }).liftSuppressions
  else s

/-- R139: LAT's became-invalid event in INTERVENING pauses the ramp and starts the invalidity measurement; a return
within the second stops it and resumes the ramp from the pressure as it stands. -/
def State.followLateralValidity (s : State) : State :=
  if s.stability.state = .intervening then
    match s.stability.accel, s.stability.latSince with
    | none, none => s.setStability { s.stability with latSince := some s.now, exitSince := none }
    | some _, some _ =>
      s.setStability { s.stability with
        latSince := none
        ramp := s.stability.ramp.map fun r => { r with start := s.stability.pressure, since := s.now } }
    | _, _ => s
  else s

/-- R133, R142: the test of the conditions for leaving IDLE. It stands behind what a change does, so that a unit that
becomes ARMED makes its first comparison at the next event. -/
def State.arm (s : State) : State :=
  if s.stability.state = .idle ∧ s.idleCondition = false ∧ 200 ≤ s.inputs.reference ∧ s.stability.accel.isSome then
    s.setStability { s.stability with state := .armed }
  else s

/-- R133, R136, R139: the conditions on a state other than IDLE that hold at each event: idle conditions, the reference
speed and the validity of LAT. A cancelled probe goes on to IDLE in the same change. -/
def State.followStates (s : State) : State :=
  let ready := decide (150 ≤ s.inputs.reference) && s.stability.accel.isSome
  match s.stability.state with
  | .idle => s
  | .armed => if s.idleCondition || !ready then s.stuIdle else s
  | .probing => if s.idleCondition || !ready then s.stuIdle else s
  | .intervening =>
    if s.idleCondition then s.stuIdle
    else if s.inputs.reference < 100 then s.enterRecovering
    else s.followLateralValidity
  | .recovering => if s.idleCondition then s.stuIdle else s

/-- R130, R131, R134: L_r, D and the live limit are formed anew; a change of the live limit makes an ARMED unit compare
the a it holds. -/
def State.formLimit (s : State) : State :=
  let lr := s.loadRatioInUse
  let d := s.tyreDerate
  let limit := rolloverLimit s.settings.stability lr d
  let t := s.setStability { s.stability with lr := lr, derate := d, liveLimit := limit }
  if limit = s.stability.liveLimit then t
  else
    match t.stability.state, t.stability.accel with
    | .armed, some a => t.compareArmed a
    | _, _ => t

/-- R132: the lateral acceleration as LAT stands. -/
def State.takeAccel (s : State) : State := s.setStability { s.stability with accel := s.offered .lat }

/-- R130 to R139: the STU follows its neighbours. -/
def State.followStability (s : State) : State := s.takeAccel.followStates.formLimit

/-- R138: the pressure of a ramp at a moment, whole milliseconds after its start (DESIGN CHOICE, notes 57). -/
def Ramp.pressureAt (r : Ramp) (pInt now : Nat) : Nat :=
  let moved := 400 * ((now - r.since) / 1000) / 1000
  if r.up then min pInt (r.start + moved) else r.start - moved

end Sys2Proof.Machine
end

