-- ==== Sys2Proof/Machine/Modulators.lean ====
section
/-! DEFINITION. The channel controllers: wheel speed and slip (R116), lock release (R117 to R119), the valves (R114, R115),
the progress monitors (R120, R121) and the fall to FALLBACK (R123). -/
namespace Sys2Proof.Machine

/-- R113: the effective target: the smaller of the target and the cap. -/
def ChannelRecord.effective (r : ChannelRecord) : Nat := min r.target r.cap

/-! ### Lock release -/

/-- R117: lock release on a channel is active. -/
def State.lockActive (s : State) (c : ChannelId) : Bool :=
  decide (s.channels.mode = .electronic) && decide (s.mode.power ≠ .watch) && (s.channelGroup c).isSome &&
    (s.channel c).slip.isSome && !(s.channel c).suspended && !(s.channel c).suppressed

/-- R117: the entry into RELEASE, with the offer to the STU. -/
def State.enterRelease (s : State) (c : ChannelId) : State :=
  (s.setChannel c { s.channel c with lock := .release, cap := 0, lockSince := s.now }).takeWheelLift c

/-- R117: the entry into HOLD: the cap becomes p_m, or 0 while p_m is absent. -/
def State.enterHold (s : State) (c : ChannelId) : State :=
  s.setChannel c { s.channel c with lock := .hold, cap := (s.channel c).delivered.getD 0, lockSince := s.now }

/-- R117: the entry into REAPPLY with the cap as it stands. -/
def State.enterReapply (s : State) (c : ChannelId) : State :=
  s.setChannel c { s.channel c with
    lock := .reapply, lockSince := s.now, reapplyFrom := (s.channel c).cap }

def State.freeChannel (s : State) (c : ChannelId) : State := s.setChannel c (s.channel c).freed

/-- R117: a channel whose lock release is no longer active goes to FREE. -/
def State.testActivity (s : State) (c : ChannelId) : State :=
  if s.lockActive c then s else s.freeChannel c

/-- R117: the lock-release state takes a new slip. -/
def State.lockOnSlip (s : State) (c : ChannelId) : State :=
  if s.lockActive c then
    let slip := (s.channel c).slip.getD 0
    match (s.channel c).lock with
    | .free => if 200 < slip ∧ 0 < (s.channel c).target then s.enterRelease c else s
    | .release => if slip < 100 then s.enterHold c else s
    | .hold => s
    | .reapply => if 200 < slip then s.enterRelease c else s
  else s.freeChannel c

/-- R117: the lock-release state takes a new target. -/
def State.lockOnTarget (s : State) (c : ChannelId) : State :=
  if s.lockActive c then
    match (s.channel c).lock with
    | .free =>
      if 200 < (s.channel c).slip.getD 0 ∧ 0 < (s.channel c).target then s.enterRelease c else s
    | .release => if (s.channel c).target = 0 then s.freeChannel c else s
    | .hold => if (s.channel c).target = 0 then s.freeChannel c else s
    | .reapply => if (s.channel c).target ≤ (s.channel c).cap then s.freeChannel c else s
  else s.freeChannel c

/-- R117: the reapply ramp at a new average: 600 kPa/s from the entry value, stopping at 1000, and FREE at the target. The
time since the entry counts in whole milliseconds (DESIGN CHOICE, notes 57). A cap that the average leaves equal is tested
too (DESIGN CHOICE, notes 40). -/
def State.rampCap (s : State) (c : ChannelId) : State :=
  let r := s.channel c
  match r.lock with
  | .reapply =>
    let cap := min 1000 (r.reapplyFrom + 600 * s.msSince r.lockSince / 1000)
    let t := s.setChannel c { r with cap := cap }
    if r.target ≤ cap then t.freeChannel c else t
  | .free => s
  | .release => s
  | .hold => s

/-- R116: the channel wheel speed: the smallest of the wheel set. -/
def State.formedWheelSpeed (s : State) (c : ChannelId) : Option Nat :=
  ((s.wheelSet c).map fun w => (s.wheel w).speed).min?

/-- R116: the slip of a channel wheel speed below the reference speed. -/
def slipOf (reference wheel : Nat) : Nat := 1000 * (reference - wheel) / reference

/-- R116: slip is absent below a reference speed of 50 or without a wheel set. -/
def State.formedSlip (s : State) (c : ChannelId) : Option Nat :=
  match s.formedWheelSpeed c with
  | some v => if 50 ≤ s.inputs.reference then some (slipOf s.inputs.reference v) else none
  | none => none

/-- R116, R117, R136: the channel's wheel speed and slip are formed anew; a new slip is taken by the lock-release state
and offered to the STU. -/
def State.followSlip (s : State) (c : ChannelId) : State :=
  let slip := s.formedSlip c
  let t := s.setChannel c { s.channel c with wheelSpeed := s.formedWheelSpeed c, slip := slip }
  if slip = (s.channel c).slip then t
  else
    let t := t.lockOnSlip c
    match slip with
    | some x => if 150 < x then t.takeWheelLift c else t
    | none => t

/-! ### Valves and monitors -/

/-- R114: the conditions under which a channel drives its valves. -/
def State.drivesValves (s : State) (c : ChannelId) : Bool :=
  decide (s.channels.mode = .electronic) && decide (s.mode.power ≠ .watch) && (s.pressureOf c.delivered).isSome

/-- R114: the valves at a new average, from p_m and the effective target. -/
def ChannelRecord.driven (r : ChannelRecord) (pm : Nat) : ChannelRecord :=
  { r with inlet := decide (pm + 15 < r.effective), exhaust := decide (r.effective + 15 < pm) }

/-- R120: the conditions of the inlet monitor. -/
def State.inletMonitorRuns (s : State) (c : ChannelId) : Bool :=
  (s.channel c).inlet &&
    match s.pressureOf .sup with
    | some v => decide ((s.channel c).target + 50 ≤ v)
    | none => false

/-- R121: the conditions of the exhaust monitor. -/
def State.exhaustMonitorRuns (s : State) (c : ChannelId) : Bool :=
  (s.channel c).exhaust &&
    match (s.channel c).delivered with
    | some p => decide (40 < p)
    | none => false

/-- A monitor follows its conditions: it starts with p_m as its reference, runs on, or stops. -/
def followMonitor (runs : Bool) (m : Option Monitor) (pm now : Nat) : Option Monitor :=
  if runs then some (m.getD { reference := pm, since := now }) else none

/-- R113, R114, R120, R121: p_m as the delivered input stands, valves that may not be driven de-energised, and the
monitors started or stopped by their conditions. -/
def State.followValves (s : State) (c : ChannelId) : State :=
  let r := { s.channel c with delivered := s.pressureOf c.delivered }
  let t := s.setChannel c (if s.drivesValves c then r else { r with inlet := false, exhaust := false })
  let r := t.channel c
  let pm := r.delivered.getD 0
  t.setChannel c { r with
    inletMonitor := followMonitor (t.inletMonitorRuns c) r.inletMonitor pm t.now
    exhaustMonitor := followMonitor (t.exhaustMonitorRuns c) r.exhaustMonitor pm t.now }

/-- R115: the redundancy valve is energised in ELECTRONIC outside WATCH. -/
def State.followRedundancy (s : State) : State :=
  s.setChannels { s.channels with
    redundancy := decide (s.channels.mode = .electronic) && decide (s.mode.power ≠ .watch) }

/-- R120, R121: the progress tests of the running monitors at a new average. -/
def ChannelRecord.progressed (r : ChannelRecord) (pm now : Nat) : ChannelRecord :=
  { r with
    inletMonitor := r.inletMonitor.map fun m =>
      if m.reference + 20 ≤ pm then { reference := pm, since := now } else m
    exhaustMonitor := r.exhaustMonitor.map fun m =>
      if pm + 20 ≤ m.reference then { reference := pm, since := now } else m }

/-- R114, R117, R120, R121: a channel takes a new average of its delivered input: p_m, the progress tests, the valves
from the effective target it holds, then the reapply ramp, whose new cap the valves follow at the next average. -/
def State.takeDelivered (s : State) (c : ChannelId) (pm : Nat) : State :=
  let r := { s.channel c with delivered := some pm }.progressed pm s.now
  let r := if s.drivesValves c then r.driven pm else { r with inlet := false, exhaust := false }
  (s.setChannel c r).rampCap c

/-! ### FALLBACK -/

/-- R149: an entry into FALLBACK faults a running CHANNEL PRESSURE step. -/
def State.faultPressureStep (s : State) : State :=
  match s.mode.running with
  | none => s
  | some r =>
    match r.step with
    | .channelPressure _ _ _ => s.stepFaults .brakeFallback
    | .lift _ _ => s
    | .sensorListen _ => s

/-- R123 steps 2 and 3: valves off, lock release FREE, monitors stopped, suppressions cleared, suspensions kept. -/
def ChannelRecord.shut (r : ChannelRecord) : ChannelRecord :=
  { r.freed with inlet := false, exhaust := false, suppressed := false, inletMonitor := none, exhaustMonitor := none }

/-- R123: the entry into FALLBACK; a cause that arrives in FALLBACK changes nothing. The level notice follows when the
change is settled. -/
def State.enterFallback (s : State) (cause : FallbackCause) : State :=
  match s.channels.mode with
  | .fallback => s
  | .electronic =>
    ((s.setChannels { s.channels with
      records := s.channels.records.map ChannelRecord.shut, mode := .fallback, cause := some cause,
      redundancy := false }).stuIdle).faultPressureStep

/-- R124: the return to ELECTRONIC: suspensions cleared, lock release FREE, monitors stopped. -/
def State.clearFallback (s : State) : State :=
  s.setChannels { s.channels with
    records := s.channels.records.map fun (r : ChannelRecord) =>
      { r.freed with suspended := false, inletMonitor := none, exhaustMonitor := none }
    mode := .electronic, cause := none }

/-- R118, R124: every timeout suspension is cleared. -/
def State.clearSuspensions (s : State) : State :=
  s.setChannels { s.channels with
    records := s.channels.records.map fun (r : ChannelRecord) => { r with suspended := false } }

end Sys2Proof.Machine
end

