-- ==== Sys2Proof/Machine/Braking.lean ====
section
/-! DEFINITION. The Brake Demand Unit: driver demand and mismatch (R95 to R97), braking condition (R98), brake ratio and
load-dependent pressure (R106, R107), channel targets (R109 to R111), and the entries that follow CTL and SUP (R91, R92). -/
namespace Sys2Proof.Machine

/-! ### Entries from the inputs -/

/-- R91: a new average or became-valid event of CTL. -/
def State.takeControl (s : State) (v : Nat) : State :=
  if s.hasEntry .pneumatic then
    if v < 10 then s.retireEntry .pneumatic else s.postEntry .pneumatic (.whole v)
  else if 15 ≤ v then s.postEntry .pneumatic (.whole v)
  else s

/-- R82, R92: an EMERGENCY entry is created, which forces every lifted axle to LOWERING. -/
def State.createEmergency (s : State) : State := (s.postEntry .emergency (.whole 1000)).forceLower

/-- R92: a new average or became-valid event of SUP. -/
def State.takeSupply (s : State) (v : Nat) : State :=
  if s.hasEntry .emergency then
    if 500 ≤ v then s.retireEntry .emergency else s
  else if v < 450 then s.createEmergency
  else s

/-! ### Mismatch and driver demand -/

/-- R96: the watch runs while a DIGITAL entry exists and CTL is VALID. -/
def State.mismatchWatched (s : State) : Bool := s.hasEntry .digital && (s.pressureOf .ctl).isSome

/-- R96: the difference between the two demands of the driver. -/
def State.demandGap (s : State) : Nat := absDiff (s.sourcePressure .digital) (s.sourcePressure .pneumatic)

/-- R96, R97: the mismatch record takes the difference as it stands, or returns to AGREED when the watch stops. -/
def State.followMismatch (s : State) : State :=
  if s.mismatchWatched then
    match s.demands.mismatch with
    | .agreed =>
      if 80 < s.demandGap then
        s.setDemands { s.demands with mismatch := .diverging, mismatchSince := some s.now }
      else s
    | .diverging =>
      if 80 < s.demandGap then s else s.setDemands { s.demands with mismatch := .agreed, mismatchSince := none }
    | .inForce =>
      if 80 < s.demandGap then s
      else s.setDemands { s.demands with mismatch := .converging, mismatchSince := some s.now }
    | .converging =>
      if 80 < s.demandGap then s.setDemands { s.demands with mismatch := .inForce, mismatchSince := none } else s
  else s.setDemands { s.demands with mismatch := .agreed, mismatchSince := none }

/-- R95: the driver demand P_d. -/
def State.formedDriver (s : State) : Nat :=
  if s.hasEntry .digital then
    if s.mismatchInForce then max (s.sourcePressure .digital) (s.sourcePressure .pneumatic)
    else s.sourcePressure .digital
  else s.sourcePressure .pneumatic

/-- R98: the braking condition. -/
def State.formedBraking (s : State) : Bool :=
  decide (20 ≤ s.demands.driver) || s.hasEntry .emergency || s.hasEntry .stability || s.hasEntry .test

/-- R95, R98: P_d and the braking condition are formed anew; a change of its truth is offered to the LDU. -/
def State.followDriver (s : State) : State :=
  let t := s.setDemands { s.demands with driver := s.formedDriver }
  if t.formedBraking = t.demands.braking then t else t.takeBraking t.formedBraking

/-! ### Ratio, pressure, target -/

/-- R106: the brake ratio of an empty ratio and a load ratio. -/
def brakeRatio (re l : Nat) : Nat := re + (1000 - re) * l / 1000

/-- R107: the load-dependent pressure of a demand. -/
def loadDependent (knee ratio p : Nat) : Nat :=
  if p ≤ knee then p else knee + ((p - knee) * ratio + 500) / 1000

/-- R106: the brake ratio of a group is formed anew. -/
def State.followRatio (s : State) (g : GroupId) : State :=
  s.setGroup g { s.group g with ratio := brakeRatio (s.calibration g).re (s.group g).l }

/-- R110: the supply bound. -/
def State.supplyBound (s : State) : Nat :=
  match s.pressureOf .sup with
  | some v => v - 20
  | none => 1000

/-- R109: the load-dependent pressure of a demand in a group as it stands. -/
def State.ldp (s : State) (g : GroupId) (p : Nat) : Nat := loadDependent s.settings.knee (s.group g).ratio p

/-- R109: the pressure a source's entry holds for a channel, 0 where it has none. -/
def State.entryFor (s : State) (x : Source) (c : ChannelId) : Nat :=
  match s.entry x with
  | some e => e.demand.forChannel c
  | none => 0

/-- R109: the largest candidate of a channel with group g. -/
def State.largestCandidate (s : State) (c : ChannelId) (g : GroupId) : Nat :=
  max (max (s.ldp g s.demands.driver) (if s.hasEntry .emergency then s.ldp g 1000 else 0))
    (max (s.entryFor .stability c) (s.entryFor .test c))

/-- R108 to R110: the target of a channel; 0 without serving axles. -/
def State.formedTarget (s : State) (c : ChannelId) : Nat :=
  match s.channelGroup c with
  | some g => min (s.largestCandidate c g) s.supplyBound
  | none => 0

/-- R110: the driver-derived part of a channel. -/
def State.formedDriverPart (s : State) (c : ChannelId) : Nat :=
  match s.channelGroup c with
  | some g => min (s.ldp g s.demands.driver) s.supplyBound
  | none => 0

/-- R111: a channel's target and driver-derived part are formed anew; a target that changes is offered to its channel
controller, and a driver-derived part that changes to the STU. The target is offered first: a suppression that the
driver-derived part lifts still stands as the channel tests it (DESIGN CHOICE, notes 56). -/
def State.followTarget (s : State) (c : ChannelId) : State :=
  let target := s.formedTarget c
  let t := s.setChannel c { s.channel c with target := target, driverPart := s.formedDriverPart c }
  let t := if target = (s.channel c).target then t else t.lockOnTarget c
  t.takeDriverPart c

/-- R95 to R111: the BDU follows the table, the loads, the supply and the layout. -/
def State.followDemands (s : State) : State :=
  let t := s.followMismatch.followDriver
  let t := (t.followRatio .g1).followRatio .g2
  ((t.followTarget .chL).followTarget .chR).followTarget .chX

end Sys2Proof.Machine
end

