-- ==== Sys2Proof/Machine/Power.lean ====
section
/-! DEFINITION. The reference speed and the motion state with their consequences (R60 to R62), the power state (R152 to
R154), and the workshop's readiness, forced exit and step measurements (R145, R146, R149). -/
namespace Sys2Proof.Machine

/-! ### Power state -/

/-- R152: the part enters RUN-ON and its timer starts. -/
def State.enterRunOn (s : State) : State :=
  s.setMode { s.mode with power := .runOn, awaited := false, runOnSince := some s.now }

/-- R154: the wake from WATCH. With the wake line still LOW the run-on is awaited, and begins at once in STANDSTILL. The
valves, the LDU's decisions and the STU follow when the change is settled. -/
def State.wake (s : State) : State :=
  if s.mode.wakeTaken then s.setMode { s.mode with power := .awake, awaited := false, runOnSince := none }
  else
    let t := s.setMode { s.mode with power := .awake, awaited := true, runOnSince := none }
    if s.inputs.motion = .standstill then t.enterRunOn else t

/-- R40, R47, R101, R115, R153: the entry into WATCH. The workshop returns to OFF before the axles are lowered, so that a
running LIFT step ends ABORTED (DESIGN CHOICE, notes 41). -/
def State.enterWatch (s : State) : State :=
  let t := (s.setMode { s.mode with power := .watch, runOnSince := none }).workshopOff
  let t := ((t.stuIdle).forceLower).retireEntry .digital
  let t := t.cancelWindow
  let t := t.setIntake { t.intake with candidates := [] }
  t.setChannels { t.channels with
    records := t.channels.records.map fun (r : ChannelRecord) => { r with inlet := false, exhaust := false }
    redundancy := false }

/-! ### Motion state -/

/-- R62, R118, R152: what the entry into a motion state brings: STANDSTILL ends the suspensions and starts an awaited
run-on, MOVING ends RUN-ON and wakes a part in WATCH. The run-on starts before a PENDING record is tested for READY, which
therefore stays PENDING (DESIGN CHOICE, notes 54). -/
def State.enterMotion (s : State) (m : Motion) : State :=
  let t := s.setInputs { s.inputs with motion := m }
  match m with
  | .standstill =>
    let t := t.clearSuspensions
    match t.mode.power with
    | .awake => if t.mode.awaited && !t.mode.wakeTaken then t.enterRunOn else t
    | .runOn => t
    | .watch => t
  | .rolling => t
  | .moving =>
    match t.mode.power with
    | .awake => t
    | .runOn => t.setMode { t.mode with power := .awake, awaited := true, runOnSince := none }
    | .watch => t.wake

/-- R61: the motion state at a reference speed. -/
def motionAt (now : Motion) (reference : Nat) : Motion :=
  if 20 < reference then .moving
  else if 5 ≤ reference then .rolling
  else
    match now with
    | .standstill => .standstill
    | .rolling => .rolling
    | .moving => .rolling

/-- R61: the motion state and its standstill measurement take a new reference speed. -/
def State.takeMotion (s : State) : State :=
  let m := motionAt s.inputs.motion s.inputs.reference
  let since :=
    if s.inputs.reference < 5 ∧ m ≠ .standstill then some (s.inputs.belowSince.getD s.now) else none
  let t := s.setInputs { s.inputs with belowSince := since }
  if m = s.inputs.motion then t else t.enterMotion m

/-- R60: the reference speed of the inputs as they stand. -/
def State.formedReference (s : State) : Nat :=
  (s.referenceSet.map fun w => (s.wheel w).speed).foldl max 0

/-- R60, R61, R81, R84, R146: the reference speed is formed anew; a new value is taken by the motion state, by the HELD UP
bounds and the lift faults of the LDU, and by the workshop's forced exit. The forced exit comes before the LDU: a LIFT step
whose axle the same speed lowers ends ABORTED (DESIGN CHOICE, notes 53). The lift faults are judged before the bounds: an
UP axle that both apply to ends HELD DOWN with LIFT FAULT (DESIGN CHOICE, notes 50). -/
def State.followReference (s : State) : State :=
  let v := s.formedReference
  let t := s.setInputs { s.inputs with reference := v }
  if v = s.inputs.reference then t
  else
    let t := if 30 < v then t.workshopOff else t
    let t := t.takeMotion
    let t := AxleId.list.foldl State.judgeLiftFault t
    AxleId.list.foldl State.boundHeldUp t

/-! ### Workshop -/

/-- R145: the readiness conditions. -/
def State.workshopReady (s : State) : Bool :=
  decide (s.inputs.motion = .standstill) && decide (s.stability.state = .idle) && !s.hasEntry .emergency &&
    decide (s.mode.power = .awake)

/-- R145: a PENDING record becomes READY once the readiness conditions hold. -/
def State.followReadiness (s : State) : State :=
  if s.mode.workshop = .pending ∧ s.workshopReady then
    s.enterWorkshopState { s.mode with workshop := .ready }
  else s

/-- R149: the judged channels of a CHANNEL PRESSURE step. -/
def State.judgedChannels (s : State) : Option ChannelId → List ChannelId
  | some c => [c]
  | none => if s.settings.third then [.chL, .chR, .chX] else [.chL, .chR]

/-- R149: a channel is in band while its p_m is present and within 15 kPa of the step pressure. -/
def State.channelInBand (s : State) (p : Nat) (c : ChannelId) : Bool :=
  match s.pressureOf c.delivered with
  | some pm => decide (p ≤ pm + 15) && decide (pm ≤ p + 15)
  | none => false

/-- R149: the step is in band while every judged channel is. -/
def State.stepInBand (s : State) (c : Option ChannelId) (p : Nat) : Bool :=
  (s.judgedChannels c).all (s.channelInBand p)

/-- R149: the band and hold measurements of a CHANNEL PRESSURE step: each passage into or out of band starts one of them
afresh and stops the other. -/
def State.followBand (s : State) : State :=
  match s.mode.running with
  | none => s
  | some r =>
    match r.step with
    | .channelPressure c p _ =>
      if s.stepInBand c p = r.inBand then s
      else
        s.setMode { s.mode with running := some { r with inBand := !r.inBand, bandSince := s.now } }
    | .lift _ _ => s
    | .sensorListen _ => s

end Sys2Proof.Machine
end

