-- ==== Sys2Proof/Machine/Settle.lean ====
section
/-! DEFINITION. The offers a change makes to the other units "in the same change" (chapter 0, Cross-unit conditions): each
unit forms its derived values anew and takes what has changed since it last did. The order of the units and the number
of rounds are the model's (DESIGN CHOICE, notes 5). -/
namespace Sys2Proof.Machine

/-- R54: the SUPPLY LOW condition; its beginning is a forced cause (R82). -/
def State.followSupply (s : State) : State :=
  let low := s.supplyBelow
  let t := s.setInputs { s.inputs with supplyLow := low }
  if low && !s.inputs.supplyLow then t.forceLower else t

/-- R116: the wheel speed and slip of every channel. -/
def State.followSlips (s : State) : State :=
  ChannelId.list.foldl (fun t c => (t.followSlip c).testActivity c) s

/-- R114, R120, R121: the valves and monitors of every channel. -/
def State.followAllValves (s : State) : State :=
  (ChannelId.list.foldl State.followValves s).followRedundancy

/-- One round of offers: MIN, LDU, BDU, CHC, STU, BDU again for what the STU posted or retired, MDU, LDU's measurements,
valves. -/
def State.round (s : State) : State :=
  let t := s.followReference.followSupply.testAllTyres
  let t := t.followDemands.followSlips.followStability
  t.followDemands.followReadiness.followBand.followLifts.followAllValves

/-! ### Level notices -/

/-- R54: an in-use analog input is INVALID. -/
def State.analogFault (s : State) (i : AnalogId) : Bool :=
  s.analogInUse i && decide ((s.analog i).validity = .invalid)

/-- R54, R58: an in-use wheel input is INVALID. -/
def State.wheelFault (s : State) (w : WheelId) : Bool := s.wheelInUse w && !(s.wheel w).valid

/-- R54: the INPUT FAULT set is not empty. -/
def State.anyInputFault (s : State) : Bool := AnalogId.list.any s.analogFault || WheelId.list.any s.wheelFault

/-- R69: a group in use has the sensor cause in force or is SUBSTITUTED. -/
def State.anyLoadHeld (s : State) : Bool :=
  GroupId.list.any fun g =>
    s.groupInUse g && ((s.group g).holdSensor || decide ((s.group g).status = .substituted))

/-- R160: the level kinds follow their owners' conditions (R54, R69, R97, R123). -/
def State.followLevels (s : State) : State :=
  s.setNotices { s.port.notices with
    loadHeld := s.anyLoadHeld
    demandMismatch := s.mismatchInForce
    supplyLow := s.supplyBelow
    inputFault := s.anyInputFault
    brakeFallback := decide (s.channels.mode = .fallback) }

/-- The end of a change: MIN and BDU form their values once more, so that they stand as the records now give them, and
the STU tests the conditions for leaving IDLE (R133, R142). -/
def State.close (s : State) : State := s.followReference.followDemands.followDemands.arm

/-- The offers of one change, in three rounds, its end, and the level notices. -/
def State.settle (s : State) : State := s.round.round.round.close.followLevels

end Sys2Proof.Machine
end

