-- ==== Sys2Proof/Machine/Operands.lean ====
section
/-! DEFINITION. The parameters of requests as their rules read them (10.4), and the reply data: the codes, fields and
summaries of R163 to R167. -/
namespace Sys2Proof.Machine

/-! ### Parameters -/

/-- A parameter byte, by its offset from frame byte 2. -/
def byteAt (p : Params) (i : Nat) : Nat := (p.bytes.getD i 0).toNat

/-- R1: a two-byte parameter, the most significant byte first. -/
def wordAt (p : Params) (i : Nat) : Nat := byteAt p i * 256 + byteAt p (i + 1)

/-- R1: a sensor ID of four bytes. -/
def idAt (p : Params) (i : Nat) : SensorId := BitVec.ofNat 32 (wordAt p i * 65536 + wordAt p (i + 2))

/-- R162: a mask of three bytes; the bits above the twentieth are ignored. -/
def maskAt (p : Params) (i : Nat) : BitVec 20 := BitVec.ofNat 20 (byteAt p i * 65536 + wordAt p (i + 1))

/-- R2: 00000000 and FFFFFFFF are no sensor IDs. -/
def reservedId (id : SensorId) : Bool := decide (id = 0#32) || decide (id = 0xFFFFFFFF#32)

/-- R105, R129: an enable byte. -/
def enableOf (n : Nat) : Option Bool :=
  match n with
  | 0 => some false
  | 1 => some true
  | _ => none

/-- R165: a lift mode byte. -/
def liftModeOf (n : Nat) : Option LiftMode :=
  match n with
  | 0 => some .auto
  | 1 => some .heldDown
  | 2 => some .heldUp
  | _ => none

/-- R165: a half of a sensor byte: 0 for none, 1 to 6 for S1 to S6; the outer option is none for any other value. -/
def sensorOf (n : Nat) : Option (Option WheelId) :=
  if n = 0 then some none else (WheelId.ofNumber n).map some

/-- R166: the channel of a CHANNEL PRESSURE step; the inner option is none for ALL. -/
def stepChannelOf (n : Nat) : Option (Option ChannelId) :=
  if n = 4 then some none else (ChannelId.ofNumber n).map some

/-- R173: the reset policy byte. -/
def policyOf (n : Nat) : Option ResetPolicy :=
  match n with
  | 0 => some .keep
  | 1 => some .restore
  | _ => none

/-! ### Codes of reply data (R167) -/

def SensorKind.code : SensorKind → Nat
  | .valve => 1
  | .rim => 2
  | .tread => 3

def PositionState.code : PositionState → Nat
  | .empty => 0
  | .learning => 1
  | .awaiting => 2
  | .live => 3
  | .silent => 4
  | .faulted => 5

def PressureLevel.code : PressureLevel → Nat
  | .none => 0
  | .lowAdvisory => 1
  | .lowWarning => 2
  | .lowAlarm => 3
  | .highAdvisory => 4

def PairState.code : PairState → Nat
  | .notAPair => 0
  | .matched => 1
  | .mismatched => 2
  | .unordered => 3

def LiftState.code : LiftState → Nat
  | .down => 0
  | .raising => 1
  | .up => 2
  | .lowering => 3

def LiftMode.code : LiftMode → Nat
  | .auto => 0
  | .heldDown => 1
  | .heldUp => 2

def Power.code : Power → Nat
  | .awake => 0
  | .runOn => 1
  | .watch => 2

def BrakeMode.code : BrakeMode → Nat
  | .electronic => 0
  | .fallback => 1

/-- The fallback cause and its channel; FFh for none. -/
def fallbackBytes : Option FallbackCause → List Byte
  | none => [0xFF#8, 0xFF#8]
  | some (.inletNoRise c) => [1, byte c.number]
  | some (.exhaustNoFall c) => [2, byte c.number]
  | some (.deliveredInvalid c) => [3, byte c.number]
  | some .controlInvalid => [4, 0xFF#8]

def Lock.code : Lock → Nat
  | .free => 0
  | .release => 1
  | .hold => 2
  | .reapply => 3

def Mismatch.code : Mismatch → Nat
  | .agreed => 0
  | .diverging => 1
  | .inForce => 2
  | .converging => 3

def Source.code : Source → Nat
  | .digital => 1
  | .pneumatic => 2
  | .emergency => 3
  | .stability => 4
  | .test => 5

def GroupStatus.code : GroupStatus → Nat
  | .valid => 0
  | .held => 1
  | .substituted => 2

def StuState.code : StuState → Nat
  | .idle => 0
  | .armed => 1
  | .probing => 2
  | .intervening => 3
  | .recovering => 4

def Pulse.code : Pulse → Nat
  | .notPosted => 0
  | .posted => 1
  | .lifted => 2

def ResetPolicy.code : ResetPolicy → Nat
  | .keep => 0
  | .restore => 1

def Status.code : Status → Nat
  | .none => 0
  | .done => 1
  | .stopped => 2
  | .refused => 3
  | .busy => 4
  | .frameError => 5

def RefusalCode.code : RefusalCode → Nat
  | .unknownRequest => 1
  | .badParameter => 2
  | .notPermitted => 3
  | .busy => 4
  | .notAwake => 5
  | .noSuchRecord => 6
  | .conflict => 7

/-! ### Fields of reply data -/

/-- 10.4: an absent value of two bytes is FFFFh. -/
def opt2 (x : Option Nat) : List Byte := bytes2 (x.getD 0xFFFF)

/-- 10.4: an absent value of one byte is FFh. -/
def opt1 (x : Option Nat) : Byte := byte (x.getD 0xFF)

/-- A yes or no of one byte. -/
def flag (b : Bool) : Byte := byte b.toNat

/-- Flags of one byte, the first at the least significant bit (DEDUCED, notes 16). -/
def flagBits (l : List Bool) : Nat := l.foldr (fun b n => b.toNat + 2 * n) 0

/-- 10.4: a lateral acceleration in two bytes, two's complement; 8000h when absent (DEDUCED, notes 16). -/
def acceleration (a : Option Int) : List Byte :=
  match a with
  | none => [0x80#8, 0x00#8]
  | some v => bytes2 (BitVec.ofInt 16 v).toNat

/-- R35: the window's time remaining in whole seconds; the part counts it from 120 down (DESIGN CHOICE, notes 7). -/
def State.windowRemaining (s : State) (w : LearnWindow) : Nat := (w.openedAt + seconds 120 - s.now) / 1000000

/-- R167: the age field of a summary: in LEARNING the window's time remaining. -/
def State.ageField (s : State) (r : PositionRecord) : Option Nat :=
  match r.state, s.intake.window with
  | .learning, some w => some (s.windowRemaining w)
  | _, _ => r.age

/-- The pair state of a position; a spare position has no pair. -/
def State.pairOf (s : State) : Position → PairState
  | .road a sl => s.pair a sl.side
  | .sp1 => .notAPair
  | .sp2 => .notAPair

/-- R167: the last byte of a position summary. -/
def State.summaryFlags (s : State) (p : Position) : Nat :=
  let r := s.position p
  r.pressureLevel.code + 8 * (decide (r.temperatureLevel = .hot)).toNat + 16 * r.batteryLow.toNat +
    32 * r.fastLoss.toNat + 64 * (s.pairOf p).code

/-- R167: a position summary of 13 bytes; a position that does not exist has the state NOT PRESENT (R159). -/
def State.positionSummary (s : State) (p : Position) : List Byte :=
  let r := s.position p
  [byte p.index, byte (if s.positionExists p then r.state.code else 0xFF)] ++
    bytes4 ((r.bound.map fun b => b.id.toNat).getD 0) ++ [byte ((r.bound.map fun b => b.kind.code).getD 0)] ++
    opt2 r.pressure ++ [opt1 (r.temperature.map fun t => (t + 50).toNat)] ++ opt2 (s.ageField r) ++
    [byte (s.summaryFlags p)]

/-- R167: a candidate summary of 10 bytes. -/
def Candidate.summary (c : Candidate) : List Byte :=
  bytes4 c.bound.id.toNat ++ [byte c.bound.kind.code, byte c.sightings] ++ bytes2 c.age ++ opt2 c.pressure

/-- R165: the flags byte of an axle. -/
def AxleLayout.flags (x : AxleLayout) : Nat :=
  flagBits [x.present, x.dual, x.liftable, x.valve2, decide (x.group = .g2), x.brakeX]

/-- R165: a sensor's half of the sensor byte. -/
def sensorNibble (w : Option WheelId) : Nat :=
  match w with
  | none => 0
  | some w => w.number

/-- R165: the three layout bytes of an axle. -/
def AxleRecord.layoutBytes (r : AxleRecord) : List Byte :=
  [byte r.layout.flags, byte (sensorNibble r.layout.left * 16 + sensorNibble r.layout.right), byte r.mode.code]

/-- R74: the duration of a lift transition; none of an axle that is not in one. -/
def LiftState.duration : LiftState → Option Nat
  | .down => none
  | .raising => some (seconds 3)
  | .up => none
  | .lowering => some (seconds 2)

/-- R165: the transition time left, in whole ms, truncated (DESIGN CHOICE, notes 7). -/
def State.transitionLeft (s : State) (a : AxleId) : Option Nat :=
  (s.axle a).lift.duration.map fun d => ((s.axle a).liftSince + d - s.now) / 1000

/-- R63, R165: the data of Read Axle, in the seven bytes that R165 lists. The conflict-found flag, which R63 counts among
the fields, has no byte there (DEDUCED, notes 37). -/
def State.axleData (s : State) (a : AxleId) : List Byte :=
  (s.axle a).layoutBytes ++ [byte (s.axle a).lift.code, flag (s.axle a).raisePending] ++ opt2 (s.transitionLeft a)

/-- R167: the hold causes as a set. -/
def GroupRecord.causes (r : GroupRecord) : Nat := flagBits [r.holdStart, r.holdTransition, r.holdRoll, r.holdSensor]

/-- R165: the data of Read Load State. -/
def State.loadData (s : State) (g : GroupId) : List Byte :=
  let r := s.group g
  let c := s.calibration g
  [byte r.status.code, byte r.causes] ++ bytes2 r.w ++ bytes2 r.l ++ [byte r.n] ++ bytes2 r.ratio ++ bytes2 c.pe ++
    bytes2 c.pl ++ bytes2 c.we ++ bytes2 c.wl ++ bytes2 c.re ++
    [byte (flagBits (AxleId.list.map fun a => (s.axle a).raisePending))] ++ bytes2 s.settings.knee ++
    bytes2 s.settings.circumference ++ [byte s.settings.teeth]

/-- The pressure or pressures of a demand. -/
def Demand.data : Demand → List Byte
  | .whole p => bytes2 p
  | .channels t => bytes2 t.chL ++ bytes2 t.chR ++ bytes2 t.chX

/-- R88, R165: one entry of the table. -/
def State.entryData (s : State) (e : Entry) : List Byte :=
  [byte e.source.code, byte (min 255 (s.secSince e.createdAt))] ++ e.demand.data ++
    match e.refreshedAt with
    | some t => [byte (s.msSince t)]
    | none => []

/-- R165: part 0 of the brake state. -/
def State.tableData (s : State) : List Byte :=
  bytes2 s.demands.driver ++ [byte s.demands.mismatch.code, byte s.demands.table.length] ++
    s.demands.table.flatMap s.entryData

/-- R127, R165: a channel's part of the brake state. p_m is that of the channel record, absent while its input is not VALID
or not in use (R113); the average that R51 keeps for an INVALID input has no bytes of its own (DEDUCED, notes 36). -/
def State.channelData (s : State) (c : ChannelId) : List Byte :=
  let r := s.channel c
  bytes2 r.target ++ bytes2 r.driverPart ++ bytes2 r.cap ++ bytes2 r.effective ++
    opt2 r.delivered ++
    [byte r.lock.code, byte (flagBits [r.inlet, r.exhaust])] ++ opt2 r.wheelSpeed ++ opt2 r.slip ++
    [byte (flagBits [r.wheelSpeed.isNone, r.suspended, r.suppressed, r.inletMonitor.isSome, r.exhaustMonitor.isSome])]

/-- R54, R165: the INPUT FAULT set, CTL to LAT and then S1 to S6 from the least significant bit. -/
def State.inputFaultSet (s : State) : Nat :=
  flagBits (AnalogId.list.map s.analogFault ++ WheelId.list.map s.wheelFault)

/-- R165: part 4 of the brake state. -/
def State.modeData (s : State) : List Byte :=
  [byte s.channels.mode.code] ++ fallbackBytes s.channels.cause ++ [flag s.channels.redundancy] ++
    bytes2 s.inputFaultSet

/-- The ramp direction byte. -/
def rampCode (r : Option Ramp) : Byte := opt1 (r.map fun r => if r.up then 1 else 2)

/-- R141: the probe timer's time left, in whole ms, truncated (DESIGN CHOICE, notes 7); absent outside PROBING. -/
def State.probeLeft (s : State) : Option Nat :=
  s.stability.probeSince.map fun t => (t + millis 300 - s.now) / 1000

/-- R132: the time since the last negative probe, in ms, stopping at 65535. -/
def State.negativeSince (s : State) : Option Nat := s.stability.lastNegative.map fun t => min 65535 (s.msSince t)

/-- R141, R165: selector 0 of the stability state. a is that of the stability record, absent while LAT is not VALID or not
in use (R132; DEDUCED, notes 36). -/
def State.stabilityData (s : State) : List Byte :=
  let x := s.stability
  [byte x.state.code] ++ acceleration x.accel ++ bytes2 x.liveLimit ++ bytes2 x.lr ++ [byte x.derate] ++
    opt2 x.frozen ++ bytes2 (probeThreshold x.limitInForce) ++ bytes2 (exitThreshold x.limitInForce) ++ opt2 x.pInt ++
    bytes2 x.pressure ++
    [rampCode x.ramp, opt1 (x.inner.map ChannelId.number), opt1 (x.pulse.map Pulse.code)] ++ opt2 s.probeLeft ++
    opt2 s.negativeSince ++
    [byte (flagBits [decide ((s.analog .lat).validity = .valid), x.exitSince.isSome, x.latSince.isSome])]

/-- R141, R165: selector 1 of the stability state. -/
def State.parameterData (s : State) : List Byte :=
  let p := s.settings.stability
  bytes2 p.halfTrack ++ bytes2 p.heightEmpty ++ bytes2 p.heightLaden ++ bytes2 p.margin ++ [flag p.enable] ++
    bytes2 (heightInUse p s.stability.lr) ++ bytes2 (staticThreshold p s.stability.lr)

/-- R166: the workshop record and the power state. -/
def State.workshopData (s : State) : List Byte :=
  [byte s.mode.workshop.code, byte s.mode.result.code, byte (faultCauseCode s.mode.cause), byte s.mode.power.code]

/-- R163: the data of Identify. -/
def State.identity (s : State) : List Byte :=
  [Config.familyCode] ++ bytes2 520 ++ [Config.revision] ++ [byte 22, byte 16, byte 5, byte 2, byte 3, byte 6] ++
    [Config.storeFormat, flag s.settings.third, byte s.settings.policy.code] ++ bytes3 s.settings.enables.toNat

/-- R158, R167: the object of a fault detail: its type and number. -/
def objectBytes : Option FaultObject → List Byte
  | none => [0x00#8, 0xFF#8]
  | some (.position n) => [1, byte n]
  | some (.axle n) => [3, byte n]
  | some (.input n) => [6, byte n]

/-- R158, R167: the seven bytes of a fault detail. -/
def FaultDetail.data (d : FaultDetail) : List Byte :=
  [byte d.request, byte ((d.refusal.map RefusalCode.code).getD 0), opt1 d.named.parameter] ++
    objectBytes d.named.object ++ opt2 d.named.limit

/-- R167: the 32 bytes of a reply frame; its unused data bytes are 00h, as those of a request frame (DESIGN CHOICE, notes
59). -/
def Reply.frame (r : Reply) : List Byte :=
  let data := r.data.take 27
  let body := [byte r.code, byte r.status.code, byte data.length] ++ data ++ List.replicate (27 - data.length) 0#8
  body ++ frameCheck body

end Sys2Proof.Machine
end

