-- ==== Sys2Proof/Machine/Port.lean ====
section
/-! DEFINITION. The serial port: how an exchange takes one request (R156 to R158), the batch reads (R159), and what the
requests of several chapters share. -/
namespace Sys2Proof.Machine

/-! ### Answers -/

/-- R157: what a request's own rule answers. PARTIAL is `stopped`. -/
inductive Answer where
  | done (data : List Byte)
  | stopped (data : List Byte) (named : Named)
  | refused (code : RefusalCode) (named : Named)
deriving DecidableEq, Repr

/-- R158: a rule that names nothing. -/
def unnamed : Named := { parameter := none, object := none, limit := none }

/-- R158: a refusal that names its offending parameter by offset. -/
def namedAt (offset : Nat) : Named := { parameter := some offset, object := none, limit := none }

/-- R158: a refusal that names its offending parameter and the limiting value. -/
def limitedAt (offset limit : Nat) : Named := { parameter := some offset, object := none, limit := some limit }

/-- Chapter 1.4: a refusal that names its offending parameter, the position concerned and the limiting value, if any. -/
def positionAt (offset index : Nat) (limit : Option Nat) : Named :=
  { parameter := some offset, object := some (.position index), limit := limit }

/-- A refusal that names an axle. -/
def namedAxle (a : AxleId) : Named := { parameter := none, object := some (.axle a.number), limit := none }

/-- A refusal that names an analog input. -/
def namedInput (i : AnalogId) : Named := { parameter := none, object := some (.input i.number), limit := none }

/-- A refused request changes nothing (R157). -/
def State.refuse (s : State) (code : RefusalCode) (named : Named) : State × Answer := (s, .refused code named)

/-- A request that is carried out without a change that another unit takes. -/
def State.tell (s : State) (data : State → List Byte) : State × Answer := (s, .done (data s))

/-- A request that is carried out: the change is settled, and its data are formed after it. -/
def State.carry (s : State) (data : State → List Byte) : State × Answer := (s.settle, .done (data s.settle))

/-- No data. -/
def noData (_ : State) : List Byte := []

/-! ### The reply -/

/-- R157: the status of an answer. -/
def Answer.status : Answer → Status
  | .done _ => .done
  | .stopped _ _ => .stopped
  | .refused .busy _ => .busy
  | .refused _ _ => .refused

/-- R157: the data of an answer; a refusal code stands in data byte 0. -/
def Answer.data : Answer → List Byte
  | .done d => d
  | .stopped d _ => d
  | .refused c _ => [byte c.code]

/-- R158: the fault detail an answer leaves. -/
def Answer.detail (code : Nat) : Answer → Option FaultDetail
  | .done _ => none
  | .stopped _ n => some { request := code, refusal := none, named := n, later := false }
  | .refused c n => some { request := code, refusal := some c, named := n, later := false }

/-- R156 to R158: the reply of an answer becomes the pending reply, and a refusal or a partial reply leaves its detail. -/
def State.reply (s : State) (code : Nat) (a : Answer) : State :=
  s.setPort { s.port with
    reply := { code := code, status := a.status, data := a.data }
    detail := (a.detail code).orElse fun _ => s.port.detail }

/-- R156: an exchange consumes the pending reply it clocks out. -/
def State.clockOut (s : State) : State := s.setPort { s.port with sent := s.port.reply }

/-- R158: a request other than Fault Detail ages the detail held: the first one leaves it, the second discards it. -/
def agedDetail (d : Option FaultDetail) : Option FaultDetail :=
  match d with
  | none => none
  | some d => if d.later then none else some { d with later := true }

/-- R159: a request other than Continue ends a batch read. -/
def State.endBatch (s : State) : State := s.setPort { s.port with batch := .idle }

/-- R158: the detail held after a request other than Fault Detail is taken. -/
def State.ageDetail (s : State) : State := s.setPort { s.port with detail := agedDetail s.port.detail }

/-- R157: a request is taken: refused for a count above 28 or not accepted, else answered by its rule. What such a
refusal names is nothing, but for a request whose rule says so. -/
def State.answer (s : State) (p : Params) (accepts : Nat → Bool) (own : State → State × Answer)
    (named : Named := unnamed) : State × Answer :=
  if decide (p.count ≤ 28) && accepts p.count then own s else s.refuse .badParameter named

/-- R156 to R159: one exchange with a valid request frame, for every request but Continue and Fault Detail. -/
def State.request (s : State) (code : Nat) (p : Params) (accepts : Nat → Bool) (own : State → State × Answer)
    (named : Named := unnamed) : State :=
  let x := (s.clockOut.endBatch.ageDetail).answer p accepts own named
  x.1.reply code x.2

/-- R157: the parameter count must be `n`. -/
def exactly (n : Nat) (count : Nat) : Bool := decide (count = n)

/-- R157: every count is left to the request's own checks. -/
def anyCount (_ : Nat) : Bool := true

/-! ### Batch reads (R159) -/

/-- The positions of a batch: up to `size` from `next`, no further than `last`. -/
def State.positionsBatch (s : State) (next last : Nat) : List Position :=
  ((Position.list.take (last + 1)).drop next).take s.port.batchSize

/-- One positions batch: the record after it, and its data. -/
def State.nextPositions (s : State) (next last : Nat) : State × List Byte :=
  let batch := s.positionsBatch next last
  let rest := last + 1 - (next + batch.length)
  (s.setPort { s.port with batch := if rest = 0 then .idle else .positions (next + batch.length) last },
    byte rest :: batch.flatMap s.positionSummary)

/-- One candidates batch from a list place, counted from 1. -/
def State.nextCandidates (s : State) (place : Nat) : State × List Byte :=
  let left := s.intake.candidates.drop (place - 1)
  let batch := left.take 2
  let rest := left.length - batch.length
  (s.setPort { s.port with batch := if rest = 0 then .idle else .candidates (place + batch.length) },
    byte rest :: batch.flatMap Candidate.summary)

/-! ### Checks several requests share -/

/-- R3: a request that names a position index: BAD PARAMETER above 21, NO SUCH RECORD for a position that does not exist,
each with what the rule names. -/
def State.withPosition (s : State) (index : Nat) (above missing : Named) (own : Position → State × Answer) :
    State × Answer :=
  match Position.ofIndex index with
  | none => s.refuse .badParameter above
  | some p => if s.positionExists p then own p else s.refuse .noSuchRecord missing

/-- R145: a write that is taken in READY only. -/
def State.gated (s : State) (own : State × Answer) : State × Answer :=
  if s.mode.workshop = .ready then own else s.refuse .notPermitted unnamed

end Sys2Proof.Machine
end

