-- ==== Sys2Proof/Machine/Telegrams.lean ====
section
/-! DEFINITION. The Telegram Intake: the telegram and its fields (R29), its route (R30 to R34), learning (R35 to R41) and
the candidate list (R42 to R47). -/
namespace Sys2Proof.Machine

/-! ### The telegram -/

/-- R29: the kind of a telegram; 04 to FE are unsupported. -/
inductive TelegramKind where
  | failed
  | sensor (kind : SensorKind)
  | test
  | unsupported
deriving DecidableEq, Repr

/-- R29: the kind byte. -/
def kindOfByte (b : Byte) : TelegramKind :=
  if b = 0x00#8 then .failed
  else if b = 0x01#8 then .sensor .valve
  else if b = 0x02#8 then .sensor .rim
  else if b = 0x03#8 then .sensor .tread
  else if b = 0xFF#8 then .test
  else .unsupported

/-- R29: the pressure field. -/
def pressureField (n : Nat) : Option Nat := if n = 0xFFFF then none else some (min n 1400)

/-- R29: the temperature field. -/
def temperatureField (n : Nat) : Option Int :=
  if 200 < n then none else if n ≤ 9 then some (-40) else some ((n : Int) - 50)

/-- R29: a telegram as its fields are read. -/
structure Telegram where
  id : SensorId
  kind : TelegramKind
  pressure : Option Nat
  temperature : Option Int
  triggered : Bool
  fastLoss : Bool
  batteryLow : Bool
  rotating : Bool
deriving DecidableEq, Repr

/-- Two bytes, the most significant first (R1). -/
def ofBytes2 (a b : Byte) : Nat := a.toNat * 256 + b.toNat

/-- R29, R30, R167: the telegram of ten bytes; none where its check fails, its ID is reserved or its kind unsupported. -/
def telegramOf (bytes : List Byte) : Option Telegram :=
  match bytes with
  | [i0, i1, i2, i3, k, p0, p1, t, f, c] =>
    let id : SensorId := BitVec.ofNat 32 (ofBytes2 i0 i1 * 65536 + ofBytes2 i2 i3)
    if crc8 [i0, i1, i2, i3, k, p0, p1, t, f] = c ∧ id ≠ 0#32 ∧ id ≠ 0xFFFFFFFF#32 ∧
        kindOfByte k ≠ .unsupported then
      some
        { id := id, kind := kindOfByte k, pressure := pressureField (ofBytes2 p0 p1),
          temperature := temperatureField t.toNat, triggered := f.getLsbD 7, fastLoss := f.getLsbD 6,
          batteryLow := f.getLsbD 5, rotating := f.getLsbD 4 }
    else none
  | _ => none

/-! ### The candidate list -/

def candidateIndex (l : List Candidate) (id : SensorId) : Option Nat :=
  l.findIdx? fun c => decide (c.bound.id = id)

/-- R42: whether an ID is in the candidate list. -/
def State.isCandidate (s : State) (id : SensorId) : Bool := (candidateIndex s.intake.candidates id).isSome

def State.setCandidates (s : State) (l : List Candidate) : State := s.setIntake { s.intake with candidates := l }

/-- R47: the entry of an ID leaves the list. -/
def State.dropCandidate (s : State) (id : SensorId) : State :=
  s.setCandidates (s.intake.candidates.filter fun c => decide (c.bound.id ≠ id))

/-- R44: the conditions under which a telegram counts a moving sighting. -/
def State.countsSighting (s : State) (t : Telegram) (c : Candidate) : Bool :=
  decide (s.inputs.motion = .moving) && t.rotating &&
    match c.sinceSighting with
    | none => true
    | some n => decide (60 ≤ n)

/-- R44: the entry with one more sighting. -/
def Candidate.sighted (c : Candidate) : Candidate :=
  { c with
    sightings := countUp 255 c.sightings, sinceSighting := some 0,
    ready := c.ready || decide (20 ≤ countUp 255 c.sightings) }

/-- R43: the entry refreshed by a telegram. -/
def Candidate.refreshed (c : Candidate) (kind : SensorKind) (t : Telegram) : Candidate :=
  { c with bound := { c.bound with kind := kind }, age := 0, pressure := t.pressure.orElse fun _ => c.pressure }

/-- R45: a new entry. -/
def Candidate.new (kind : SensorKind) (t : Telegram) : Candidate :=
  { bound := { id := t.id, kind := kind }, firstHeard := 0, age := 0, sightings := 0, sinceSighting := none,
    pressure := t.pressure, ready := false }

/-- R43 to R45: the entry after the telegram, its sighting counted where R44 allows. -/
def State.sightedEntry (s : State) (t : Telegram) (c : Candidate) : Candidate :=
  if s.countsSighting t c then c.sighted else c

/-- R44: CANDIDATE READY is set when an entry becomes ready. -/
def State.noteReady (s : State) (before after : Candidate) : State :=
  if after.ready && !before.ready then s.noteCandidateReady else s

/-- R45: whether entry `c` is evicted before entry `d`, which stands nearer the front. -/
def evictsBefore (c d : Candidate) : Bool :=
  decide (c.sightings < d.sightings) || (decide (c.sightings = d.sightings) && decide (d.firstHeard < c.firstHeard))

/-- R45: the place of the entry to evict in a list whose first entry is `d` at place `best`, looking from place `i` on. -/
def evictedFrom (d : Candidate) (best i : Nat) : List Candidate → Nat
  | [] => best
  | c :: rest => if evictsBefore c d then evictedFrom c i (i + 1) rest else evictedFrom d best (i + 1) rest

/-- R45: the list after one eviction. -/
def evict : List Candidate → List Candidate
  | [] => []
  | c :: rest => (c :: rest).eraseIdx (evictedFrom c 0 1 rest)

/-- R45: the list with room for one more entry. -/
def withRoom (l : List Candidate) : List Candidate := if l.length < 16 then l else evict l

/-- R43, R45: a telegram on the candidate route. -/
def State.takeCandidate (s : State) (kind : SensorKind) (t : Telegram) : State :=
  match candidateIndex s.intake.candidates t.id with
  | some i =>
    match s.intake.candidates[i]? with
    | some c =>
      let d := s.sightedEntry t (c.refreshed kind t)
      (s.setCandidates (s.intake.candidates.set i d)).noteReady c d
    | none => s
  | none =>
    let c := Candidate.new kind t
    let d := s.sightedEntry t c
    (s.setCandidates (withRoom s.intake.candidates ++ [d])).noteReady c d

/-! ### Learning -/

/-- R37: the pending trigger a telegram makes. -/
def Trigger.ofTelegram (kind : SensorKind) (t : Telegram) (now : Nat) : Trigger :=
  { bound := { id := t.id, kind := kind }, arrival := now, pressure := t.pressure, temperature := t.temperature,
    fastLoss := t.fastLoss, batteryLow := t.batteryLow }

/-- R37: the pending trigger takes a further telegram of its own ID, as R33 takes one for a record. -/
def Trigger.refreshed (x : Trigger) (kind : SensorKind) (t : Telegram) : Trigger :=
  { x with
    bound := { x.bound with kind := kind }
    pressure := t.pressure.orElse fun _ => x.pressure
    temperature := t.temperature.orElse fun _ => x.temperature
    fastLoss := t.fastLoss, batteryLow := t.batteryLow }

/-- The open window with another pending trigger. -/
def State.setTrigger (s : State) (w : LearnWindow) (x : Option Trigger) : State :=
  s.setIntake { s.intake with window := some { w with trigger := x } }

/-- R37: a telegram of kind 01 to 03 on the learning route. -/
def State.takeTrigger (s : State) (w : LearnWindow) (kind : SensorKind) (t : Telegram) : State :=
  match w.trigger with
  | none => s.setTrigger w (some (.ofTelegram kind t s.now))
  | some x =>
    if x.bound.id = t.id then s.setTrigger w (some (x.refreshed kind t))
    else (s.setTrigger w none).noteLearnResult .collision w.target

/-- R38: the record of the target after the confirmation. -/
def PositionRecord.learned (r : PositionRecord) (x : Trigger) : PositionRecord :=
  { r.cleared with
    state := .live, bound := some x.bound, pressure := x.pressure, temperature := x.temperature, age := some 0,
    fastLoss := x.fastLoss, batteryLow := x.batteryLow }

/-- R38: the confirmation of a pending trigger. -/
def State.confirm (s : State) (w : LearnWindow) (x : Trigger) : State :=
  match s.boundPosition x.bound.id with
  | some _ => (s.setTrigger w none).noteLearnResult .duplicate w.target
  | none =>
    let t := s.setPosition w.target ((s.position w.target).learned x)
    let t := (t.setIntake { t.intake with window := none }).dropCandidate x.bound.id
    ((t.noteLearnResult .done w.target).evaluate w.target).reportTelegram w.target

/-- R39: the expiry of the window. -/
def State.expireWindow (s : State) (w : LearnWindow) : State :=
  ((s.setIntake { s.intake with window := none }).setPosition w.target (s.position w.target).emptied).noteLearnResult
    .timeout w.target

/-! ### Routes -/

/-- R33: the record after a telegram, before its evaluation. -/
def PositionRecord.heard (r : PositionRecord) (t : Telegram) : PositionRecord :=
  { r with
    pressure := t.pressure.orElse fun _ => r.pressure
    temperature := t.temperature.orElse fun _ => r.temperature
    fastLoss := t.fastLoss, batteryLow := t.batteryLow, age := some 0, silenceDue := false
    state := if t.kind = .failed then .faulted else .live }

/-- R34: a triggered telegram of kind 01 to 03 from a bound sensor while a window is open is a duplicate. -/
def State.noteDuplicate (s : State) (t : Telegram) : State :=
  match s.intake.window, t.kind with
  | some w, .sensor _ => if t.triggered then s.noteLearnResult .duplicate w.target else s
  | _, _ => s

/-- R33: a telegram on the bound route. -/
def State.takeBound (s : State) (p : Position) (t : Telegram) : State :=
  (((s.setPosition p ((s.position p).heard t)).evaluate p).reportTelegram p).noteDuplicate t

/-- R31: a kind-FF telegram. -/
def State.takeTest (s : State) (t : Telegram) : State :=
  if s.mode.workshop = .ready ∨ s.mode.workshop = .stepRunning then
    match s.boundPosition t.id with
    | some p => (s.setPosition p { s.position p with age := some 0, silenceDue := false }).reportTelegram p
    | none => s
  else s

/-- R32: the routes of an unbound telegram of kind 01 to 03. -/
def State.takeUnbound (s : State) (kind : SensorKind) (t : Telegram) : State :=
  match s.intake.window, t.triggered with
  | some w, true => s.takeTrigger w kind t
  | some _, false => if s.mode.power = .watch then s else s.takeCandidate kind t
  | none, _ => if s.mode.power = .watch then s else s.takeCandidate kind t

/-- R30 to R32: a telegram that passed its checks is looked up and routed. -/
def State.takeTelegram (s : State) (t : Telegram) : State :=
  match t.kind with
  | .unsupported => s
  | .test => s.takeTest t
  | .failed =>
    match s.boundPosition t.id with
    | some p => s.takeBound p t
    | none => s
  | .sensor kind =>
    match s.boundPosition t.id with
    | some p => s.takeBound p t
    | none => s.takeUnbound kind t

/-! ### The receiver line -/

/-- R28: the line has been idle for `n` bit times since the last character ended (19200 bits a second). -/
def State.idleBits (s : State) (n : Nat) : Bool := decide (n * 1000000 ≤ (s.now - s.intake.rx.lastChar) * 19200)

/-- R28: a character is collected; only eleven are kept. -/
def Reception.collect (x : Reception) (b : Byte) (stopBit : Bool) (now : Nat) : Reception :=
  { synced := true, chars := if x.chars.length < 11 then x.chars ++ [b] else x.chars, bad := x.bad || !stopBit,
    lastChar := now }

/-- R28: a character ends now. Before the first idle gap of two character times the line is not read: the character,
itself ten bits long, is taken when the gap stands before it. -/
def State.takeCharacter (s : State) (b : Byte) (stopBit : Bool) : State :=
  let x := s.intake.rx
  if x.synced || s.idleBits 30 then s.setIntake { s.intake with rx := x.collect b stopBit s.now }
  else s.setIntake { s.intake with rx := { x with lastChar := s.now } }

/-- R28: an idle gap of two character times closes the sequence. -/
def State.closeSequence (s : State) : State :=
  s.setIntake { s.intake with rx := { s.intake.rx with synced := true, chars := [], bad := false } }

/-- R28, R29: the telegram of a sequence: ten characters with valid stop bits that pass the checks. -/
def Reception.telegram (x : Reception) : Option Telegram :=
  if x.synced && !x.bad && decide (x.chars.length = 10) then telegramOf x.chars else none

end Sys2Proof.Machine
end

