-- ==== Sys2Proof/Machine/Store.lean ====
section
/-! DEFINITION. The Store Controller and the resets: the snapshot and the image's validity (R168, R169), the layout and the
reloads (R65, R171), power-on (R172) and Restart (R173). -/
namespace Sys2Proof.Machine

/-! ### The image -/

/-- R169: a position as a snapshot takes it; a record in EMPTY or LEARNING holds no binding. -/
def PositionRecord.stored (r : PositionRecord) : StoredPosition :=
  { pl := r.pl, pe := r.pe, bound := if r.state.isBound then r.bound else none }

/-- R169: an axle as a snapshot takes it. -/
def AxleRecord.stored (r : AxleRecord) : StoredAxle := { layout := r.layout, mode := r.mode }

/-- R169: the snapshot of every item of R168 as it stands. -/
def State.snapshot (s : State) : Image :=
  { axles := s.loads.axles.map AxleRecord.stored, settings := s.settings,
    positions := s.tyres.positions.map PositionRecord.stored }

/-- R168: an image as a save programs it, with the store format number and the check. -/
def programmed (x : Image) : StoredImage :=
  { contents := x, format := Config.storeFormat, check := Config.imageCheck x Config.storeFormat }

/-- R168: the validity of an image. -/
def StoredImage.holds (x : StoredImage) : Bool :=
  decide (x.format = Config.storeFormat) && decide (x.check = Config.imageCheck x.contents x.format)

/-- R168: the image as judged at power-on; an erased image fails its check. -/
def Store.judged (x : Store) : Option Image :=
  match x.image with
  | none => none
  | some i => if i.holds then some i.contents else none

/-- R169: a Save Tables accepted in IDLE: the snapshot, SAVING, and the image INVALID. -/
def State.beginSave (s : State) : State :=
  s.setStore { image := none, valid := false, saving := some { snapshot := s.snapshot, since := s.now } }

/-! ### A new layout (R65) -/

/-- R65 step 1: an axle record takes a layout and a mode: its raise pending and conflict-found flags become clear. A
running 1 s lower measurement of R80 starts afresh (DESIGN CHOICE, notes 48). -/
def AxleRecord.relaid (r : AxleRecord) (x : StoredAxle) : AxleRecord :=
  { r with layout := x.layout, mode := x.mode, raisePending := false, conflict := false, lowerSince := none }

/-- R65: HELD UP is taken as AUTO where no raise goes with it. -/
def notHeldUp : LiftMode → LiftMode
  | .auto => .auto
  | .heldDown => .heldDown
  | .heldUp => .auto

/-- R65 steps 2 and 3: positions, pairs and groups follow a layout that has replaced `old`. -/
def State.followLayout (s : State) (old : PerAxle AxleRecord) : State :=
  GroupId.list.foldl (fun t g => t.regroup old g) ((s.retireByLayout old).deriveAllPairs old)

/-- R65: the layout and lift modes of a request replace those of the axle records. -/
def State.writeLayout (s : State) (x : PerAxle StoredAxle) (circumference teeth : Nat) : State :=
  let t := AxleId.list.foldl
    (fun t a =>
      let y := x.get a
      t.setAxle a ((t.axle a).relaid { y with mode := notHeldUp y.mode })) s
  (t.setSettings { t.settings with circumference := circumference, teeth := teeth }).followLayout s.loads.axles

/-! ### Reloads (R65, R171) -/

/-- R65: the lift state of an axle after a reload, from its record before and its stored layout. -/
def reloadedLift (before : AxleRecord) (x : AxleLayout) : LiftState :=
  if x.present && x.liftable then
    if decide (x.valve2 = before.layout.valve2) then before.lift
    else
      match before.lift with
      | .down => .down
      | .raising => .lowering
      | .up => .lowering
      | .lowering => .lowering
  else .down

/-- R65, R75: the reloaded lift mode governs the axle in the same change. -/
def State.governReloaded (s : State) (a : AxleId) : State :=
  let r := s.axle a
  match r.mode with
  | .auto => s
  | .heldDown => s.lowerAxle a
  | .heldUp => if r.lift = .up then s else s.setAxle a { r with mode := .auto }

/-- R65: an axle takes its stored layout and mode, and its lift state follows the reload table. The axles are treated
from A1 to A5, with every new layout in place (DESIGN CHOICE, notes 47). -/
def State.reloadLifts (s : State) (old : PerAxle AxleRecord) : State :=
  AxleId.list.foldl
    (fun t a => (t.setLift a (reloadedLift (old.get a) (t.axle a).layout)).governReloaded a) s

/-- R171 step 2: the axle records take the image's layout and modes, and C and N its values. -/
def State.reloadLayout (s : State) (x : Image) : State :=
  let t := AxleId.list.foldl (fun t a => t.setAxle a ((t.axle a).relaid (x.axles.get a))) s
  let t := t.setSettings { t.settings with
    circumference := x.settings.circumference, teeth := x.settings.teeth }
  (t.reloadLifts s.loads.axles).followLayout s.loads.axles

/-- R67, R171 step 3: a group takes a new calibration: W and L are formed while VALID, W becomes W_l while SUBSTITUTED,
and both stay while HELD. -/
def State.recalibrate (s : State) (g : GroupId) : State :=
  match (s.group g).status with
  | .valid => s.formLoad g
  | .held => s
  | .substituted => (s.setGroup g { s.group g with w := (s.calibration g).wl }).boundGroup g

/-- R49, R122: the delivered-input measurement of CH-X as DX enters or leaves use with the third channel. A VALID DX gives
CH-X its p_m as the change is settled; its valves follow at the next new average (DESIGN CHOICE, notes 43). -/
def State.followThird (s : State) (before : Bool) : State :=
  if s.settings.third = before then s
  else
    s.setChannel .chX { s.channel .chX with
      deliveredSince :=
        if s.settings.third && decide ((s.analog .dx).validity = .invalid) then some s.now else none }

/-- R171 step 3: the parameters take the image's values. -/
def State.reloadSettings (s : State) (x : Settings) : State :=
  (((s.setSettings x).followThird s.settings.third).recalibrate .g1).recalibrate .g2

/-- R171 step 4: a position takes the image's setpoints, and its binding where it exists. -/
def State.reloadPosition (s : State) (p : Position) (x : StoredPosition) : State :=
  let before := s.position p
  let t := s.setPosition p { before with pl := x.pl, pe := x.pe }
  if t.positionExists p then
    match x.bound with
    | some b => (t.setPosition p ((t.position p).awaitingFor b)).noteLevels p before
    | none => if before.state.isBound then t.clearBound p else t
  else t

/-- R171 step 4. The LDU tests the axles once, with every position in place (DESIGN CHOICE, notes 52). -/
def State.reloadPositions (s : State) (x : Image) : State :=
  Position.list.foldl (fun t p => t.reloadPosition p (x.positions.get p)) s

/-- R47, R171 step 5: every candidate whose ID the table binds leaves the list. -/
def State.dropBound (s : State) : State :=
  s.setCandidates (s.intake.candidates.filter fun c => (s.boundPosition c.bound.id).isNone)

/-- R171 steps 2 to 6. -/
def State.reload (s : State) (x : Image) : State :=
  ((((s.reloadLayout x).reloadSettings x.settings).reloadPositions x).dropBound).compareAllPairs

/-! ### Power-on (R172) -/

/-- R172: the image's contents where it is VALID, else every default. -/
def Store.startImage (x : Store) : Image := x.judged.getD defaultImage

/-- R130: L_r of the groups as power-on finds them. -/
def startRatio (g : PerGroup GroupRecord) : Nat :=
  max (if 1 ≤ g.g1.n then g.g1.l else 0) (if 1 ≤ g.g2.n then g.g2.l else 0)

/-- R172: the records of a part that starts at `now` with an image's contents. -/
def State.started (s : State) (x : Image) (valid wakeHigh : Bool) (wires : PerWheel Bool) : State :=
  let loads := Loads.fresh s.now x.axles x.settings.groups
  let lr := startRatio loads.groups
  { powered := true
    now := s.now
    startedAt := s.now
    settings := x.settings
    inputs := .fresh s.now wires
    tyres := { positions := x.positions.map .ofStored, pairs := x.axles.map fun a => startPairs a.layout }
    intake := .fresh s.now
    loads := loads
    demands := .fresh
    channels := .fresh ⟨none, none, none⟩
    stability := .fresh lr (rolloverLimit x.settings.stability lr 0)
    mode := .fresh s.now wakeHigh
    port := .fresh valid
    store := { s.store with valid := valid, saving := none }
    pending := s.pending }

/-- R172: power-on. The channel wheel speeds and the ratios are formed from the loaded records as the change is
settled. -/
def State.start (s : State) (wakeHigh : Bool) (wires : PerWheel Bool) : State :=
  (s.started s.store.startImage s.store.judged.isSome wakeHigh wires).settle

/-! ### Restart (R173) -/

/-- R102: the demand table is emptied, and the channels and the LDU take the demands that are left. -/
def State.emptyTable (s : State) : State :=
  (s.setDemands { s.demands with table := [], mismatch := .agreed, mismatchSince := none }).followDemands

/-- R142: the STU enters IDLE and forgets its last negative probe. -/
def State.restartStability (s : State) : State :=
  s.stuIdle.setStability { s.stuIdle.stability with lastNegative := none }

/-- R144: the workshop record at its reset values; no WORKSHOP CHANGE is set. -/
def State.restartWorkshop (s : State) : State :=
  s.setMode { s.mode with workshop := .off, staged := none, running := none, result := .none, cause := none }

/-- R28, R40, R47: the learn window is cancelled, the candidate list emptied, and a telegram in reception discarded. The
idle gap after which reception resumes is measured from here (DESIGN CHOICE, notes 10), so that a telegram whose first
character is on the line is not taken. -/
def State.restartIntake (s : State) : State :=
  let t := s.cancelWindow
  t.setIntake { t.intake with rx := .fresh t.now, candidates := [] }

/-- R154: a part in WATCH wakes. -/
def State.wakeIfWatching (s : State) : State :=
  match s.mode.power with
  | .awake => s
  | .runOn => s
  | .watch => s.wake

/-- R173 step 2, with what follows from it: the raises that the emptied table and the idle STU free, and the reference
speed of the axles that stay down (DESIGN CHOICE, notes 24). The notices of all of it come before the clearing. -/
def State.restartLive (s : State) : State :=
  s.emptyTable.restartStability.restartWorkshop.restartIntake.wakeIfWatching.followLifts.followReference

/-- R173 step 1: the port at its reset values. The reply that the Restart's own exchange clocked out is consumed already
(R156); with the port state, no reply is left to be sent after it (R103). -/
def State.restartPort (s : State) : State :=
  s.setPort { s.port with reply := .empty, detail := none, batchSize := 1, batch := .idle }

/-- R173 step 4. -/
def State.restartPolicy (s : State) : State :=
  match s.settings.policy with
  | .keep => s
  | .restore =>
    match s.store.valid, s.store.image with
    | true, some x => s.reload x.contents
    | _, _ => s.noteStoreInvalid

/-- R102: the entries that CTL and SUP call for after a Restart, PNEUMATIC first. -/
def State.recreateEntries (s : State) : State :=
  let t :=
    match s.pressureOf .ctl with
    | some v => s.takeControl v
    | none => s
  match t.pressureOf .sup with
  | some v => t.takeSupply v
  | none => t

/-- R173: a Restart outside SAVING. -/
def State.restart (s : State) : State :=
  ((s.restartPort.restartLive.setNotices Notices.clear).restartPolicy).recreateEntries.settle

end Sys2Proof.Machine
end

