-- ==== Sys2Proof/Machine/BrakeCommands.lean ====
section
/-! DEFINITION. The requests and events of the brakes (chapters 5 to 7 and R165). -/
namespace Sys2Proof.Machine

/-! ### Requests -/

/-- R89: the data of Post Demand, formed after the post has been taken. -/
def State.demandData (s : State) : List Byte := bytes2 s.demands.driver ++ [flag s.mismatchInForce]

/-- R89: Post Demand's own rule. -/
def State.postDemand (p : Params) (s : State) : State × Answer :=
  if s.mode.power = .watch then s.refuse .notAwake unnamed
  else if 1000 < wordAt p 0 then
    s.refuse .badParameter { parameter := none, object := none, limit := some 1000 }
  else (s.postEntry .digital (.whole (wordAt p 0))).carry State.demandData

/-- R89: Post Demand. -/
def execPostDemand (dt : Nat) (p : Params) (s : State) : Host.Outcome State Fault Refusal :=
  .next (s.live dt fun s => s.request 0x50 p (exactly 2) (State.postDemand p))

/-- R127, R165: Read Brake State's own rule. -/
def State.readBrakeState (p : Params) (s : State) : State × Answer :=
  match byteAt p 0 with
  | 0 => s.tell State.tableData
  | 1 => s.tell fun s => s.channelData .chL
  | 2 => s.tell fun s => s.channelData .chR
  | 3 => s.tell fun s => s.channelData .chX
  | 4 => s.tell State.modeData
  | _ => s.refuse .badParameter unnamed

/-- R127, R165: Read Brake State. -/
def execReadBrakeState (dt : Nat) (p : Params) (s : State) : Host.Outcome State Fault Refusal :=
  .next (s.live dt fun s => s.request 0x51 p (exactly 1) (State.readBrakeState p))

/-- R105: the range of an R_e at an offset. -/
def ratioRefusal (offset re : Nat) : Option Named :=
  if re < 200 then some (limitedAt offset 200)
  else if 1000 < re then some (limitedAt offset 1000)
  else none

/-- R105: the settings with a written characteristic. -/
def Settings.withCharacteristic (x : Settings) (knee re1 re2 : Nat) (third : Bool) : Settings :=
  { x with
    knee := knee, third := third
    groups := ⟨{ x.groups.g1 with re := re1 }, { x.groups.g2 with re := re2 }⟩ }

/-- R105: Write Brake Characteristic's own rule. Where both R_e are out of range, that of G1 is named (DESIGN CHOICE,
notes 46). -/
def State.writeCharacteristic (p : Params) (s : State) : State × Answer :=
  s.gated (
    if 150 < wordAt p 0 then s.refuse .badParameter (limitedAt 0 150)
    else
      match (ratioRefusal 2 (wordAt p 2)).orElse fun _ => ratioRefusal 4 (wordAt p 4) with
      | some n => s.refuse .badParameter n
      | none =>
        match enableOf (byteAt p 6) with
        | none => s.refuse .badParameter (namedAt 6)
        | some third =>
          match third, (s.servingAxles .chX).head? with
          | false, some a => s.refuse .conflict (namedAxle a)
          | _, _ =>
            ((s.setSettings (s.settings.withCharacteristic (wordAt p 0) (wordAt p 2) (wordAt p 4) third)).followThird
              s.settings.third).carry noData)

/-- R105: Write Brake Characteristic. -/
def execWriteBrakeCharacteristic (dt : Nat) (p : Params) (s : State) : Host.Outcome State Fault Refusal :=
  .next (s.live dt fun s => s.request 0x43 p (exactly 7) (State.writeCharacteristic p))

/-- R124: the inputs that refuse a Clear Brake Fault while INVALID, in their order. -/
def State.faultInputs (s : State) : List AnalogId :=
  if s.settings.third then [.ctl, .dl, .dr, .dx] else [.ctl, .dl, .dr]

/-- R124: an accepted Clear Brake Fault. -/
def State.clearFault (s : State) : State :=
  match s.channels.mode with
  | .electronic => s.clearSuspensions
  | .fallback => s.clearFallback

/-- R124: Clear Brake Fault's own rule. -/
def State.clearBrakeFault (s : State) : State × Answer :=
  s.gated (
    match s.faultInputs.find? fun i => decide ((s.analog i).validity = .invalid) with
    | some i => s.refuse .conflict (namedInput i)
    | none => s.clearFault.carry noData)

/-- R124: Clear Brake Fault. -/
def execClearBrakeFault (dt : Nat) (p : Params) (s : State) : Host.Outcome State Fault Refusal :=
  .next (s.live dt fun s => s.request 0x64 p (exactly 0) State.clearBrakeFault)

/-! ### The demand table -/

/-- R90: the DIGITAL entry has gone 150 ms without refresh. -/
def State.digitalDue (s : State) : Bool :=
  match s.entry .digital with
  | some e => s.reached e.refreshedAt (millis 150)
  | none => false

/-- R90: the DIGITAL entry expires. -/
def State.expireDigital (s : State) : State :=
  if s.digitalDue then (s.retireEntry .digital).noteDigitalTimeout.settle else s

/-- R90: the expiry of the DIGITAL entry. -/
def execDigitalTimeout (dt : Nat) (s : State) : Host.Outcome State Fault Refusal :=
  .next (s.live dt State.expireDigital)

/-- R96: the mismatch record at the expiry of its timer. -/
def Demands.expired (x : Demands) : Demands :=
  match x.mismatch with
  | .agreed => x
  | .diverging => { x with mismatch := .inForce, mismatchSince := none }
  | .inForce => x
  | .converging => { x with mismatch := .agreed, mismatchSince := none }

/-- R96: the 400 ms timer expires. -/
def State.expireMismatch (s : State) : State :=
  if s.reached s.demands.mismatchSince (millis 400) then (s.setDemands s.demands.expired).settle else s

/-- R96: the expiry of the mismatch timer. -/
def execMismatchTimerExpiry (dt : Nat) (s : State) : Host.Outcome State Fault Refusal :=
  .next (s.live dt State.expireMismatch)

/-! ### Lock release -/

/-- R118: the RELEASE timer expires: FREE, suspended, LOCK TIMEOUT. -/
def State.timeOutLock (s : State) (c : ChannelId) : State :=
  if (s.channel c).lock = .release ∧ (s.channel c).lockSince + millis 1500 ≤ s.now then
    ((s.setChannel c { (s.channel c).freed with suspended := true }).noteLockTimeout c).settle
  else s

/-- R118: the lock timeout of a channel. -/
def execLockTimeout (dt : Nat) (channel : ChannelId) (s : State) : Host.Outcome State Fault Refusal :=
  .next (s.live dt fun s => s.timeOutLock channel)

/-- R117: the HOLD timer expires: REAPPLY, or RELEASE while slip is above 200. -/
def State.endHold (s : State) (c : ChannelId) : State :=
  if (s.channel c).lock = .hold ∧ (s.channel c).lockSince + millis 150 ≤ s.now then
    (if 200 < (s.channel c).slip.getD 0 then s.enterRelease c else s.enterReapply c).settle
  else s

/-- R117: the expiry of a channel's HOLD timer. -/
def execHoldTimerExpiry (dt : Nat) (channel : ChannelId) (s : State) : Host.Outcome State Fault Refusal :=
  .next (s.live dt fun s => s.endHold channel)

/-! ### Causes of FALLBACK -/

/-- R120, R121: a running monitor has gone 1.5 s without progress. -/
def State.monitorDue (s : State) (m : Option Monitor) : Bool := s.reached (m.map Monitor.since) (millis 1500)

/-- R120, R123: the inlet monitor of a channel expires. -/
def execInletNoRise (dt : Nat) (channel : ChannelId) (s : State) : Host.Outcome State Fault Refusal :=
  .next (s.live dt fun s =>
    if s.monitorDue (s.channel channel).inletMonitor then (s.enterFallback (.inletNoRise channel)).settle else s)

/-- R121, R123: the exhaust monitor of a channel expires. -/
def execExhaustNoFall (dt : Nat) (channel : ChannelId) (s : State) : Host.Outcome State Fault Refusal :=
  .next (s.live dt fun s =>
    if s.monitorDue (s.channel channel).exhaustMonitor then (s.enterFallback (.exhaustNoFall channel)).settle else s)

/-- R122, R123: a delivered input has been invalid for 500 ms. -/
def execDeliveredInvalid (dt : Nat) (channel : ChannelId) (s : State) : Host.Outcome State Fault Refusal :=
  .next (s.live dt fun s =>
    if s.reached (s.channel channel).deliveredSince (millis 500) then
      (s.enterFallback (.deliveredInvalid channel)).settle
    else s)

/-- R122, R123: CTL has been invalid for 500 ms. -/
def execControlInvalid (dt : Nat) (s : State) : Host.Outcome State Fault Refusal :=
  .next (s.live dt fun s =>
    if s.reached s.channels.controlSince (millis 500) then (s.enterFallback .controlInvalid).settle else s)

end Sys2Proof.Machine
end

