-- ==== Sys2Proof/Machine/InputEvents.lean ====
section
/-! DEFINITION. The events of the Measurement Inputs (chapter 3): conversions, wheel edges and speeds, wires, and the
standstill measurement. -/
namespace Sys2Proof.Machine

/-! ### Analog inputs -/

/-- R50: the converted value of a reading. -/
def convertedValue (i : AnalogId) (mv : Nat) : Int :=
  if i = .lat then clampInt (-2000) 2000 ((mv : Int) - 2500)
  else clampInt 0 1000 (Int.tdiv (((mv : Int) - 500) * 1000) 4000)

/-- R50: whether a reading is in band. -/
def inBandReading (i : AnalogId) (mv : Nat) : Bool :=
  if i = .lat then decide (300 ≤ mv) && decide (mv ≤ 4700) else decide (250 ≤ mv) && decide (mv ≤ 4750)

/-- R51: the mean of a window, truncated towards zero. -/
def windowMean (l : List Int) : Int := Int.tdiv l.sum 4

/-- R51: an in-band value is taken by an input that is not VALID. -/
def AnalogInput.counted (x : AnalogInput) (v : Int) : AnalogInput :=
  let window := x.window ++ [v]
  if x.count + 1 = 4 then { window := window, average := some (windowMean window), validity := .valid, count := 4 }
  else { x with window := window, count := x.count + 1 }

/-- R51: an in-band value is taken by a VALID input. -/
def AnalogInput.averaged (x : AnalogInput) (v : Int) : AnalogInput :=
  let window := x.window.tail ++ [v]
  { x with window := window, average := some (windowMean window) }

/-- R51: one conversion is taken. -/
def AnalogInput.taken (x : AnalogInput) (v : Int) (inBand : Bool) : AnalogInput :=
  if inBand then
    match x.validity with
    | .starting => x.counted v
    | .valid => x.averaged v
    | .invalid => x.counted v
  else { x with window := [], count := 0, validity := .invalid }

/-- R52: the events an input offers. A became-invalid event carries the moment from which the invalidity is measured. -/
inductive AnalogEvent where
  | newAverage (v : Int)
  | becameValid (v : Int)
  | becameInvalid (since : Nat)
  | silent
deriving DecidableEq, Repr

/-- R52: the event between two states of an input: an input that fails from STARTING is measured from power-on. -/
def State.eventOf (s : State) (before after : AnalogInput) : AnalogEvent :=
  match before.validity, after.validity with
  | .valid, .valid => .newAverage (after.average.getD 0)
  | .starting, .valid => .becameValid (after.average.getD 0)
  | .invalid, .valid => .becameValid (after.average.getD 0)
  | .valid, .invalid => .becameInvalid s.now
  | .starting, .invalid => .becameInvalid s.startedAt
  | .invalid, .invalid => .silent
  | _, .starting => .silent

/-- R91, R122: CTL's events. -/
def State.controlEvent (s : State) : AnalogEvent → State
  | .newAverage v => s.takeControl v.toNat
  | .becameValid v => (s.setChannels { s.channels with controlSince := none }).takeControl v.toNat
  | .becameInvalid t => (s.setChannels { s.channels with controlSince := some t }).retireEntry .pneumatic
  | .silent => s

/-- R92: SUP's events. -/
def State.supplyEvent (s : State) : AnalogEvent → State
  | .newAverage v => s.takeSupply v.toNat
  | .becameValid v => s.takeSupply v.toNat
  | .becameInvalid _ => s.retireEntry .emergency
  | .silent => s

/-- R114, R122: the events of a channel's delivered input. -/
def State.deliveredEvent (s : State) (c : ChannelId) : AnalogEvent → State
  | .newAverage v => s.takeDelivered c v.toNat
  | .becameValid v => (s.setChannel c { s.channel c with deliveredSince := none }).takeDelivered c v.toNat
  | .becameInvalid t => s.setChannel c { s.channel c with deliveredSince := some t }
  | .silent => s

/-- R68, R72: the events of a group's bellows input. -/
def State.bellowsEvent (s : State) (g : GroupId) : AnalogEvent → State
  | .newAverage _ => s.formLoad g
  | .becameValid _ => s.bellowsValid g
  | .becameInvalid t => s.bellowsInvalid g t
  | .silent => s

/-- R133, R134, R139: the events of LAT. The STU's validity of LAT follows first, and a unit that a became-valid event
arms takes the carried average in the same event (R52). -/
def State.lateralEvent (s : State) : AnalogEvent → State
  | .newAverage v => s.followStability.takeLateral v
  | .becameValid v => s.followStability.arm.takeLateral v
  | .becameInvalid _ => s
  | .silent => s

/-- R52: an in-use input's event is taken by its consuming units. -/
def State.analogEvent (s : State) (i : AnalogId) (e : AnalogEvent) : State :=
  match i with
  | .ctl => s.controlEvent e
  | .sup => s.supplyEvent e
  | .dl => s.deliveredEvent .chL e
  | .dr => s.deliveredEvent .chR e
  | .dx => s.deliveredEvent .chX e
  | .b1 => s.bellowsEvent .g1 e
  | .b2 => s.bellowsEvent .g2 e
  | .lat => s.lateralEvent e

/-- R50 to R52: one conversion of an input. -/
def State.convert (s : State) (i : AnalogId) (mv : Nat) : State :=
  let after := (s.analog i).taken (convertedValue i mv) (inBandReading i mv)
  let t := s.setAnalog i after
  if t.analogInUse i then (t.analogEvent i (s.eventOf (s.analog i) after)).settle else t

/-- R51: a conversion. -/
def execConversion (dt : Nat) (input : AnalogId) (millivolts : Nat) (s : State) : Host.Outcome State Fault Refusal :=
  .next (s.live dt fun s => s.convert input millivolts)

/-! ### Wheel inputs -/

/-- R56, R57: the speed of a wheel whose ring turns one tooth in `t` microseconds, truncated. -/
def toothSpeed (circumference teeth t : Nat) : Nat := circumference * 36000 / (teeth * t)

/-- R84: the lift faults of the axles that name a wheel input. -/
def State.judgeWheelFaults (s : State) (w : WheelId) : State :=
  AxleId.list.foldl
    (fun t a =>
      if decide ((t.axle a).layout.left = some w) || decide ((t.axle a).layout.right = some w) then t.judgeLiftFault a
      else t) s

/-- R59, R60, R84: a wheel input changes; a change of its speed or validity is an event for the units that read it. -/
def State.wheelEvent (s : State) (w : WheelId) (x : WheelInput) : State :=
  let t := s.setWheel w x
  if x.speed = (s.wheel w).speed ∧ x.valid = (s.wheel w).valid then t else (t.judgeWheelFaults w).settle

/-- R56: a rising edge. -/
def State.edge (s : State) (w : WheelId) : State :=
  let x := s.wheel w
  if x.valid then
    match x.lastEdge with
    | none => s.setWheel w { x with lastEdge := some s.now }
    | some e =>
      if s.now - e < 200 then s
      else
        s.wheelEvent w { x with
          lastEdge := some s.now
          speed := min 1500 (toothSpeed s.settings.circumference s.settings.teeth (s.now - e)) }
  else s

/-- R56: an edge on a wheel input. -/
def execWheelEdge (dt : Nat) (wheel : WheelId) (s : State) : Host.Outcome State Fault Refusal :=
  .next (s.live dt fun s => s.edge wheel)

/-- R57: the speed falls to what the gap since the last edge allows. In the very microsecond of the edge, where the
quotient is not defined, it stays (DESIGN CHOICE, notes 39). -/
def State.decay (s : State) (w : WheelId) : State :=
  let x := s.wheel w
  match x.valid, x.lastEdge with
  | true, some e =>
    if s.now ≤ e then s
    else
      s.wheelEvent w { x with
        speed := min x.speed (toothSpeed s.settings.circumference s.settings.teeth (s.now - e)) }
  | _, _ => s

/-- R57: the 10 ms decay of a wheel input. -/
def execSpeedDecay (dt : Nat) (wheel : WheelId) (s : State) : Host.Outcome State Fault Refusal :=
  .next (s.live dt fun s => s.decay wheel)

/-- R57: 1000 ms without an edge: speed 0, no last edge. -/
def State.stopWheel (s : State) (w : WheelId) : State :=
  let x := s.wheel w
  if x.valid && s.reached x.lastEdge (millis 1000) then s.wheelEvent w { x with lastEdge := none, speed := 0 } else s

/-- R57: a wheel input stops. -/
def execWheelStop (dt : Nat) (wheel : WheelId) (s : State) : Host.Outcome State Fault Refusal :=
  .next (s.live dt fun s => s.stopWheel wheel)

/-- R58: the monitor current finds the wiring BROKEN or SOUND; a change starts its measurement. -/
def execWireStateChange (dt : Nat) (wheel : WheelId) (sound : Bool) (s : State) : Host.Outcome State Fault Refusal :=
  .next (s.live dt fun s =>
    if sound = (s.wheel wheel).sound then s
    else s.setWheel wheel { s.wheel wheel with sound := sound, wireSince := s.now })

/-- R58: a wire BROKEN for 20 ms makes a VALID input INVALID. -/
def State.loseWheel (s : State) (w : WheelId) : State :=
  let x := s.wheel w
  if x.valid && !x.sound && decide (x.wireSince + millis 20 ≤ s.now) then
    s.wheelEvent w { x with valid := false, speed := 0, lastEdge := none }
  else s

/-- R58: a wheel input becomes INVALID. -/
def execWheelInputInvalid (dt : Nat) (wheel : WheelId) (s : State) : Host.Outcome State Fault Refusal :=
  .next (s.live dt fun s => s.loseWheel wheel)

/-- R58: a wire SOUND for 500 ms makes an INVALID input VALID. -/
def State.regainWheel (s : State) (w : WheelId) : State :=
  let x := s.wheel w
  if !x.valid && x.sound && decide (x.wireSince + millis 500 ≤ s.now) then
    s.wheelEvent w { x with valid := true, speed := 0, lastEdge := none }
  else s

/-- R58: a wheel input becomes VALID. -/
def execWheelInputValid (dt : Nat) (wheel : WheelId) (s : State) : Host.Outcome State Fault Refusal :=
  .next (s.live dt fun s => s.regainWheel wheel)

/-- R61: a reference speed below 5 for 2 s: STANDSTILL. -/
def State.standStill (s : State) : State :=
  if s.inputs.motion = .rolling ∧ s.inputs.reference < 5 ∧ s.reached s.inputs.belowSince (seconds 2) then
    ((s.setInputs { s.inputs with belowSince := none }).enterMotion .standstill).settle
  else s

/-- R61: the end of the standstill measurement. -/
def execStandstillMeasurement (dt : Nat) (s : State) : Host.Outcome State Fault Refusal :=
  .next (s.live dt State.standStill)

end Sys2Proof.Machine
end

