-- ==== Sys2Proof/Machine/LearnCommands.lean ====
section
/-! DEFINITION. The receiver line, the learn window and the ages (chapters 1 and 2): their requests and events. -/
namespace Sys2Proof.Machine

/-- R36: Begin Learn's own rule. -/
def State.beginLearn (p : Params) (s : State) : State × Answer :=
  match Position.ofIndex (byteAt p 0) with
  | none => s.refuse .badParameter unnamed
  | some q =>
    if s.mode.power = .watch then s.refuse .notAwake unnamed
    else if !s.positionExists q then s.refuse .noSuchRecord unnamed
    else if s.intake.window.isSome then s.refuse .conflict unnamed
    else if (s.position q).state ≠ .empty then s.refuse .conflict unnamed
    else
      ((s.setPosition q (s.position q).targeted).setIntake { s.intake with
        window := some { target := q, openedAt := s.now, trigger := none } }).tell noData

/-- R36: Begin Learn. -/
def execBeginLearn (dt : Nat) (p : Params) (s : State) : Host.Outcome State Fault Refusal :=
  .next (s.live dt fun s => s.request 0x30 p (exactly 1) (State.beginLearn p))

/-- R40: Cancel Learn's own rule. -/
def State.cancelLearn (s : State) : State × Answer :=
  if s.intake.window.isSome then s.cancelWindow.tell noData else s.refuse .notPermitted unnamed

/-- R40: Cancel Learn. -/
def execCancelLearn (dt : Nat) (p : Params) (s : State) : Host.Outcome State Fault Refusal :=
  .next (s.live dt fun s => s.request 0x31 p (exactly 0) State.cancelLearn)

/-- R28: a character is received. -/
def execCharacterReception (dt : Nat) (char : Byte) (stopBit : Bool) (s : State) : Host.Outcome State Fault Refusal :=
  .next (s.live dt fun s => s.takeCharacter char stopBit)

/-- R28: the idle gap closes the sequence in reception, and a whole telegram is checked, looked up and routed. -/
def State.telegramArrives (s : State) : State :=
  if s.idleBits 20 then
    match s.intake.rx.telegram with
    | some t => (s.closeSequence.takeTelegram t).settle
    | none => s.closeSequence
  else s

/-- R28 to R34, R43 to R45: an arrival. -/
def execTelegramArrival (dt : Nat) (s : State) : Host.Outcome State Fault Refusal :=
  .next (s.live dt State.telegramArrives)

/-- R38: two seconds after its arrival the pending trigger is confirmed. -/
def State.confirmDue (s : State) : State :=
  match s.intake.window with
  | none => s
  | some w =>
    match w.trigger with
    | none => s
    | some x => if x.arrival + seconds 2 ≤ s.now then (s.confirm w x).settle else s

/-- R38: the confirmation falls due. -/
def execLearnConfirmation (dt : Nat) (s : State) : Host.Outcome State Fault Refusal :=
  .next (s.live dt State.confirmDue)

/-- R39: the window expires 120 s after its opening. -/
def State.expireDue (s : State) : State :=
  match s.intake.window with
  | none => s
  | some w => if w.openedAt + seconds 120 ≤ s.now then s.expireWindow w else s

/-- R39: the expiry of the learn window. -/
def execLearnWindowExpiry (dt : Nat) (s : State) : Host.Outcome State Fault Refusal :=
  .next (s.live dt State.expireDue)

/-- R5, R16: the age of a bound record counts up, and a LIVE or AWAITING one is compared with the timeout in force. -/
def PositionRecord.aged (r : PositionRecord) (timeout : Nat) : PositionRecord :=
  if r.state.isBound then
    let age := countUp 65535 (r.age.getD 0)
    { r with
      age := some age
      silenceDue := (decide (r.state = .live) || decide (r.state = .awaiting)) && decide (timeout < age) }
  else r

/-- R42: the time fields of a candidate count up. -/
def Candidate.aged (c : Candidate) : Candidate :=
  { c with
    firstHeard := countUp 65535 c.firstHeard, age := countUp 600 c.age,
    sinceSighting := c.sinceSighting.map (countUp 60) }

/-- R5, R42: the ages after one second. -/
def State.countAges (s : State) : State :=
  (s.setTyres { s.tyres with
    positions := s.tyres.positions.map fun (r : PositionRecord) => r.aged s.silenceTimeout }).setCandidates
      (s.intake.candidates.map Candidate.aged)

/-- R5, R42: the second count. -/
def execAgeCount (dt : Nat) (s : State) : Host.Outcome State Fault Refusal :=
  .next (s.live dt State.countAges)

/-- R16: a record whose latest count found its age above the timeout becomes SILENT. -/
def State.fallSilent (s : State) (q : Position) : State :=
  if (s.position q).silenceDue ∧ ((s.position q).state = .live ∨ (s.position q).state = .awaiting) then
    (((s.setPosition q { s.position q with state := .silent, silenceDue := false }).noteSensorSilent q).comparePairOf q)
  else s

/-- R16: a sensor falls silent. -/
def execSensorSilent (dt : Nat) (position : Position) (s : State) : Host.Outcome State Fault Refusal :=
  .next (s.live dt fun s => s.fallSilent position)

/-- R46: an entry whose age has reached 600 s leaves the list. -/
def State.expireCandidate (s : State) (id : SensorId) : State :=
  s.setCandidates (s.intake.candidates.filter fun c => decide (c.bound.id ≠ id) || decide (c.age < 600))

/-- R46: a candidate's expiry. -/
def execCandidateExpiry (dt : Nat) (id : SensorId) (s : State) : Host.Outcome State Fault Refusal :=
  .next (s.live dt fun s => s.expireCandidate id)

end Sys2Proof.Machine
end

