-- ==== Sys2Proof/Machine/LoadCommands.lean ====
section
/-! DEFINITION. The requests of the axle and load-group records (chapter 4 and R165). -/
namespace Sys2Proof.Machine

/-- R165: Read Axle. -/
def execReadAxle (dt : Nat) (p : Params) (s : State) : Host.Outcome State Fault Refusal :=
  .next (s.live dt fun s =>
    s.request 0x40 p (exactly 1) fun s =>
      match AxleId.ofNumber (byteAt p 0) with
      | some a => s.tell fun s => s.axleData a
      | none => s.refuse .badParameter unnamed)

/-- R165: Read Load State. -/
def execReadLoadState (dt : Nat) (p : Params) (s : State) : Host.Outcome State Fault Refusal :=
  .next (s.live dt fun s =>
    s.request 0x45 p (exactly 1) fun s =>
      match GroupId.ofNumber (byteAt p 0) with
      | some g => s.tell fun s => s.loadData g
      | none => s.refuse .badParameter unnamed)

/-! ### Write Axle Layout (R64) -/

/-- A requested axle, or the offset of its first field that holds a value outside its set. -/
def axleAt (p : Params) (i : Nat) : Except Nat StoredAxle :=
  let f : Byte := p.bytes.getD i 0
  match sensorOf (byteAt p (i + 1) / 16), sensorOf (byteAt p (i + 1) % 16), liftModeOf (byteAt p (i + 2)) with
  | some l, some r, some m =>
    .ok
      { layout :=
          { present := f.getLsbD 0, dual := f.getLsbD 1, liftable := f.getLsbD 2, valve2 := f.getLsbD 3,
            group := if f.getLsbD 4 then .g2 else .g1, brakeX := f.getLsbD 5, left := l, right := r }
        mode := m }
  | some _, some _, none => .error (i + 2)
  | _, _, _ => .error (i + 1)

/-- The five requested axles, or the offset of the first field outside its set, in byte order (DESIGN CHOICE, notes
49). -/
def axlesAt (p : Params) : Except Nat (PerAxle StoredAxle) := do
  let a1 ← axleAt p 0
  let a2 ← axleAt p 3
  let a3 ← axleAt p 6
  let a4 ← axleAt p 9
  let a5 ← axleAt p 12
  return ⟨a1, a2, a3, a4, a5⟩

/-- R55, R64: what a value of C or N outside its range names. -/
def wheelRefusal (circumference teeth : Nat) : Option Named :=
  if circumference < 2800 then some (limitedAt 15 2800)
  else if 3800 < circumference then some (limitedAt 15 3800)
  else if teeth < 80 then some (limitedAt 17 80)
  else if 120 < teeth then some (limitedAt 17 120)
  else none

/-- R64: two present axles that cannot stand together: they name one wheel-speed input, are both SIDES or both CH-X in
different groups, or are liftable on one valve. -/
def clash (x y : AxleLayout) : Bool :=
  x.present && y.present &&
    ((x.left.toList ++ x.right.toList).any (fun w => (y.left.toList ++ y.right.toList).contains w) ||
      (decide (x.brakeX = y.brakeX) && decide (x.group ≠ y.group)) ||
      (x.liftable && y.liftable && decide (x.valve2 = y.valve2)))

/-- R64: an axle that names one wheel-speed input on both sides. -/
def namesTwice (x : AxleLayout) : Bool := x.present && x.left.isSome && decide (x.left = x.right)

/-- R64: the group of a present axle has a present axle that is not liftable. -/
def groupStands (t : PerAxle StoredAxle) (g : GroupId) : Bool :=
  countAxles (fun a => a.layout.serves g && !a.layout.liftable) t != 0

/-- R64: whether a condition fails at an axle. Of two axles that clash the manual does not say at which the condition
fails: at both where the free value holds, else at the later one (DESIGN CHOICE, notes 18). -/
def failsAt (t : PerAxle StoredAxle) (third : Bool) (a : AxleId) : Bool :=
  let x := t.get a
  namesTwice x.layout ||
    (AxleId.list.any fun b =>
      decide (b ≠ a) && (Config.clashNamesEarlier || decide (b.number < a.number)) && clash (t.get b).layout x.layout) ||
    (x.layout.present && x.layout.brakeX && !third) ||
    (x.layout.present && !groupStands t x.layout.group) ||
    (!x.layout.liftable && decide (x.mode ≠ .heldDown))

/-- R64: the axle an inconsistent layout names: A1 where it is not present, else the first at which a condition
fails. -/
def inconsistentAt (t : PerAxle StoredAxle) (third : Bool) : Option AxleId :=
  if !t.a1.layout.present then some .a1 else AxleId.list.find? (failsAt t third)

/-- R64: Write Axle Layout's own rule. Of several values outside their set or range, Fault Detail names the first in byte
order: the axle fields, then C, then N (DESIGN CHOICE, notes 49). -/
def State.writeAxleLayout (p : Params) (s : State) : State × Answer :=
  s.gated (
    match axlesAt p with
    | .error i => s.refuse .badParameter (namedAt i)
    | .ok t =>
      match wheelRefusal (wordAt p 15) (byteAt p 17) with
      | some n => s.refuse .badParameter n
      | none =>
        match AxleId.list.find? fun a => decide ((s.axle a).lift ≠ .down) with
        | some a => s.refuse .conflict (namedAxle a)
        | none =>
          match inconsistentAt t s.settings.third with
          | some a => s.refuse .conflict (namedAxle a)
          | none => (s.writeLayout t (wordAt p 15) (byteAt p 17)).carry noData)

/-- R64, R65: Write Axle Layout. -/
def execWriteAxleLayout (dt : Nat) (p : Params) (s : State) : Host.Outcome State Fault Refusal :=
  .next (s.live dt fun s => s.request 0x41 p (exactly 18) (State.writeAxleLayout p))

/-! ### Write Group Calibration (R67) -/

/-- R67: the requested calibration keeps the group's R_e. -/
def calibrationAt (p : Params) (re : Nat) : Calibration :=
  { pe := wordAt p 1, pl := wordAt p 3, we := wordAt p 5, wl := wordAt p 7, re := re }

/-- R67: the ranges of a calibration. -/
def Calibration.sound (c : Calibration) : Bool :=
  decide (c.pe < c.pl) && decide (c.pl ≤ 1000) && decide (c.we < c.wl) && decide (c.wl ≤ 3000)

/-- R67: Write Group Calibration's own rule. -/
def State.writeCalibration (p : Params) (s : State) : State × Answer :=
  s.gated (
    match GroupId.ofNumber (byteAt p 0) with
    | none => s.refuse .badParameter unnamed
    | some g =>
      let c := calibrationAt p (s.calibration g).re
      if c.sound then
        ((s.setSettings { s.settings with groups := s.settings.groups.set g c }).recalibrate g).carry noData
      else s.refuse .badParameter unnamed)

/-- R67: Write Group Calibration. -/
def execWriteGroupCalibration (dt : Nat) (p : Params) (s : State) : Host.Outcome State Fault Refusal :=
  .next (s.live dt fun s => s.request 0x42 p (exactly 9) (State.writeCalibration p))

/-! ### Set Lift Mode (R75, R81) -/

/-- R75: HELD DOWN: the raise pending flag clears, and an axle that is RAISING or UP is lowered. -/
def State.holdDown (s : State) (a : AxleId) : State :=
  (s.setAxle a { s.axle a with mode := .heldDown, raisePending := false }).lowerAxle a

/-- R81, R82: an accepted HELD UP by the lift state it finds. An axle that stands DOWN goes to RAISING, or waits with its
raise pending while the part brakes or the STU acts; that the STU makes it wait as braking does is a DESIGN CHOICE,
notes 35. -/
def State.holdUp (s : State) (a : AxleId) : State :=
  let t := s.setAxle a { s.axle a with mode := .heldUp }
  if (s.axle a).lift = .down then
    if s.heldUpMayRise then t.setLift a .raising else t.setAxle a { t.axle a with raisePending := true }
  else t

/-- R75: an accepted lift mode. -/
def State.takeMode (s : State) (a : AxleId) (m : LiftMode) : State :=
  match m with
  | .auto => s.setAxle a { s.axle a with mode := .auto, raisePending := false }
  | .heldDown => s.holdDown a
  | .heldUp => s.holdUp a

/-- R75, R81: Set Lift Mode's own rule. -/
def State.setLiftMode (p : Params) (s : State) : State × Answer :=
  match AxleId.ofNumber (byteAt p 0), liftModeOf (byteAt p 1) with
  | some a, some m =>
    if s.mode.power = .watch then s.refuse .notAwake unnamed
    else if !(s.axle a).layout.present then s.refuse .noSuchRecord unnamed
    else if !(s.axle a).layout.liftable && decide (m ≠ .heldDown) then s.refuse .conflict unnamed
    else
      match m, s.heldUpRefusal a with
      | .heldUp, some n => s.refuse .conflict n
      | _, _ => (s.takeMode a m).carry noData
  | _, _ => s.refuse .badParameter unnamed

/-- R75, R81: Set Lift Mode. -/
def execSetLiftMode (dt : Nat) (p : Params) (s : State) : Host.Outcome State Fault Refusal :=
  .next (s.live dt fun s => s.request 0x44 p (exactly 2) (State.setLiftMode p))

end Sys2Proof.Machine
end

