-- ==== Sys2Proof/Machine/LoadEvents.lean ====
section
/-! DEFINITION. The events of the Load Unit (chapter 4): raises, transitions and holds. -/
namespace Sys2Proof.Machine

/-- R77, R78: a raise becomes due, and its start conditions are tested. -/
def State.raiseFallsDue (s : State) (g : GroupId) : State :=
  if s.raiseRuns g && !(s.group g).raiseDue && s.reached (s.group g).raiseSince (seconds 5) then
    ((s.setGroup g { s.group g with raiseDue := true }).testRaise g).settle
  else s

/-- R77: the raise measurement of a group has held for 5 s. -/
def execRaiseDue (dt : Nat) (group : GroupId) (s : State) : Host.Outcome State Fault Refusal :=
  .next (s.live dt fun s => s.raiseFallsDue group)

/-- R74: an axle has been in a transition for its duration. -/
def State.transitionOver (s : State) (a : AxleId) (x : LiftState) : Bool :=
  decide ((s.axle a).lift = x) &&
    match x.duration with
    | some d => decide ((s.axle a).liftSince + d ≤ s.now)
    | none => false

/-- R74: 3 s in RAISING. -/
def execRaiseComplete (dt : Nat) (axle : AxleId) (s : State) : Host.Outcome State Fault Refusal :=
  .next (s.live dt fun s => if s.transitionOver axle .raising then (s.setLift axle .up).settle else s)

/-- R74: 2 s in LOWERING. -/
def execLowerComplete (dt : Nat) (axle : AxleId) (s : State) : Host.Outcome State Fault Refusal :=
  .next (s.live dt fun s => if s.transitionOver axle .lowering then (s.setLift axle .down).settle else s)

/-- R70: the transition hold of a group ends. -/
def State.endTransition (s : State) (g : GroupId) : State :=
  if (s.group g).holdTransition && s.reached (s.group g).transitionEndSince (seconds 1) then
    ((s.setGroup g { s.group g with holdTransition := false, transitionEndSince := none }).releaseGroup g).settle
  else s

/-- R70: 1 s after the last transition of a group. -/
def execTransitionHoldEnd (dt : Nat) (group : GroupId) (s : State) : Host.Outcome State Fault Refusal :=
  .next (s.live dt fun s => s.endTransition group)

/-- R69, R72: the group takes the laden load. -/
def State.substitute (s : State) (g : GroupId) : State :=
  if (s.group g).holdSensor && s.reached (s.group g).sensorSince (seconds 10) then
    ((s.setGroup g { s.group g with status := .substituted, w := (s.calibration g).wl, l := 1000 }).boundGroup g).settle
  else s

/-- R72: a bellows input has been invalid for 10 s. -/
def execLoadSubstitution (dt : Nat) (group : GroupId) (s : State) : Host.Outcome State Fault Refusal :=
  .next (s.live dt fun s => s.substitute group)

/-- R80: an UP axle whose lower condition has held for 1 s. -/
def State.lowerDue (s : State) (a : AxleId) : Bool := s.reached (s.axle a).lowerSince (seconds 1)

/-- R80: the due axles of a group are lowered together. -/
def State.lowerGroup (s : State) (g : GroupId) : State :=
  let due := (s.groupAxles g).filter s.lowerDue
  if due = [] then s else (due.foldl State.lowerAxle s).settle

/-- R80: the lower condition has held for 1 s. -/
def execAutoLower (dt : Nat) (group : GroupId) (s : State) : Host.Outcome State Fault Refusal :=
  .next (s.live dt fun s => s.lowerGroup group)

end Sys2Proof.Machine
end

