-- ==== Sys2Proof/Machine/PortCommands.lean ====
section
/-! DEFINITION. The commands of the port and of the notices (R157 to R163): frame errors, unknown requests, identity, fault
detail, reset policy, fetching and enabling notices, and the batch reads. -/
namespace Sys2Proof.Machine

/-- R157: an exchange whose frame fails its check or has not 32 bytes. It is no request: the pending reply goes out and
FRAME ERROR takes its place, and nothing else changes. -/
def execFrameError (dt : Nat) (s : State) : Host.Outcome State Fault Refusal :=
  .next (s.live dt fun s =>
    s.clockOut.setPort { s.clockOut.port with reply := { code := 0, status := .frameError, data := [] } })

/-- R157: a valid frame whose request code is unknown. -/
def execUnknownRequest (dt : Nat) (code : Byte) (s : State) : Host.Outcome State Fault Refusal :=
  .next (s.live dt fun s =>
    (s.clockOut.endBatch.ageDetail).reply code.toNat (.refused .unknownRequest unnamed))

/-- R163: No Operation. -/
def execNoOperation (dt : Nat) (p : Params) (s : State) : Host.Outcome State Fault Refusal :=
  .next (s.live dt fun s => s.request 0x01 p (exactly 0) fun s => s.tell noData)

/-- R163: Identify. -/
def execIdentify (dt : Nat) (p : Params) (s : State) : Host.Outcome State Fault Refusal :=
  .next (s.live dt fun s => s.request 0x02 p (exactly 0) fun s => s.tell State.identity)

/-- R158: Fault Detail's own rule: the detail held is returned and discarded. -/
def State.faultDetail (s : State) : State × Answer :=
  match s.port.detail with
  | some d => (s.setPort { s.port with detail := none }, .done d.data)
  | none => s.refuse .badParameter unnamed

/-- R158: the reply of a Fault Detail; one refused with no detail held leaves none of its own. -/
def State.replyDetail (s : State) (held : Bool) (a : Answer) : State :=
  if held then s.reply 0x03 a
  else s.setPort { s.port with reply := { code := 0x03, status := a.status, data := a.data } }

/-- R158: Fault Detail. It does not age the detail it asks for. -/
def execFaultDetail (dt : Nat) (p : Params) (s : State) : Host.Outcome State Fault Refusal :=
  .next (s.live dt fun s =>
    let x := s.clockOut.endBatch.answer p (exactly 0) State.faultDetail
    x.1.replyDetail s.port.detail.isSome x.2)

/-- R173: Set Reset Policy's own rule. -/
def State.setResetPolicy (p : Params) (s : State) : State × Answer :=
  match policyOf (byteAt p 0) with
  | some x => (s.setSettings { s.settings with policy := x }).tell noData
  | none => s.refuse .badParameter unnamed

/-- R163, R173: Set Reset Policy. -/
def execSetResetPolicy (dt : Nat) (p : Params) (s : State) : Host.Outcome State Fault Refusal :=
  .next (s.live dt fun s => s.request 0x05 p (exactly 1) (State.setResetPolicy p))

/-- R161: Fetch Notices: the data and the cleared notices in one change. -/
def execFetchNotices (dt : Nat) (p : Params) (s : State) : Host.Outcome State Fault Refusal :=
  .next (s.live dt fun s =>
    s.request 0x10 p (exactly 0) fun s =>
      (s.setNotices s.port.notices.fetched, .done s.port.notices.fetchData))

/-- R162: Set Notice Enables. -/
def execSetNoticeEnables (dt : Nat) (p : Params) (s : State) : Host.Outcome State Fault Refusal :=
  .next (s.live dt fun s =>
    s.request 0x11 p (exactly 3) fun s => (s.setSettings { s.settings with enables := maskAt p 0 }).tell noData)

/-- R159: Read Positions' own rule. -/
def State.readPositions (p : Params) (s : State) : State × Answer :=
  let start := byteAt p 0
  let count := byteAt p 1
  if 21 < start ∨ 22 < start + count then s.refuse .badParameter unnamed
  else
    let x := s.nextPositions start (if count = 0 then 21 else start + count - 1)
    (x.1, .done x.2)

/-- R159: Read Positions. -/
def execReadPositions (dt : Nat) (p : Params) (s : State) : Host.Outcome State Fault Refusal :=
  .next (s.live dt fun s => s.request 0x22 p (exactly 2) (State.readPositions p))

/-- R159: Set Batch Size's own rule. -/
def State.setBatchSize (p : Params) (s : State) : State × Answer :=
  if byteAt p 0 = 1 ∨ byteAt p 0 = 2 then (s.setPort { s.port with batchSize := byteAt p 0 }).tell noData
  else s.refuse .badParameter unnamed

/-- R159: Set Batch Size. -/
def execSetBatchSize (dt : Nat) (p : Params) (s : State) : Host.Outcome State Fault Refusal :=
  .next (s.live dt fun s => s.request 0x23 p (exactly 1) (State.setBatchSize p))

/-- R159: Continue's own rule: the next batch of the read in flight. -/
def State.continueRead (s : State) : State × Answer :=
  match s.port.batch with
  | .idle => s.refuse .notPermitted unnamed
  | .positions next last => ((s.nextPositions next last).1, .done (s.nextPositions next last).2)
  | .candidates place => ((s.nextCandidates place).1, .done (s.nextCandidates place).2)

/-- R159: Continue, which alone leaves the batch read in flight. -/
def execContinueRead (dt : Nat) (p : Params) (s : State) : Host.Outcome State Fault Refusal :=
  .next (s.live dt fun s =>
    let x := (s.clockOut.ageDetail).answer p (exactly 0) State.continueRead
    x.1.reply 0x24 x.2)

/-- R159: Read Candidates. -/
def execReadCandidates (dt : Nat) (p : Params) (s : State) : Host.Outcome State Fault Refusal :=
  .next (s.live dt fun s =>
    s.request 0x32 p (exactly 0) fun s => ((s.nextCandidates 1).1, .done (s.nextCandidates 1).2))

end Sys2Proof.Machine
end

