-- ==== Sys2Proof/Machine/StabilityCommands.lean ====
section
/-! DEFINITION. The requests and events of the Stability Unit (chapter 8 and R165). -/
namespace Sys2Proof.Machine

/-- R129: the range of a parameter at an offset. -/
def rangeRefusal (offset lo hi v : Nat) : Option Named :=
  if v < lo then some (limitedAt offset lo) else if hi < v then some (limitedAt offset hi) else none

/-- R129: the range checks in order, with what the first failing one names. -/
def stabilityRefusal (p : Params) : Option Named :=
  (rangeRefusal 0 800 1100 (wordAt p 0)).orElse fun _ =>
    (rangeRefusal 2 1000 2500 (wordAt p 2)).orElse fun _ =>
      (rangeRefusal 4 (wordAt p 2) 2800 (wordAt p 4)).orElse fun _ => rangeRefusal 6 500 900 (wordAt p 6)

/-- R129: Write Stability Parameters' own rule. -/
def State.writeStability (p : Params) (s : State) : State × Answer :=
  s.gated (
    match stabilityRefusal p with
    | some n => s.refuse .badParameter n
    | none =>
      match enableOf (byteAt p 8) with
      | none => s.refuse .badParameter (namedAt 8)
      | some e =>
        (s.setSettings { s.settings with
          stability :=
            { halfTrack := wordAt p 0, heightEmpty := wordAt p 2, heightLaden := wordAt p 4, margin := wordAt p 6,
              enable := e } }).carry noData)

/-- R129: Write Stability Parameters. -/
def execWriteStabilityParameters (dt : Nat) (p : Params) (s : State) : Host.Outcome State Fault Refusal :=
  .next (s.live dt fun s => s.request 0x58 p (exactly 9) (State.writeStability p))

/-- R141, R165: Read Stability State's own rule. -/
def State.readStability (p : Params) (s : State) : State × Answer :=
  match byteAt p 0 with
  | 0 => s.tell State.stabilityData
  | 1 => s.tell State.parameterData
  | _ => s.refuse .badParameter unnamed

/-- R141, R165: Read Stability State. -/
def execReadStabilityState (dt : Nat) (p : Params) (s : State) : Host.Outcome State Fault Refusal :=
  .next (s.live dt fun s => s.request 0x59 p (exactly 1) (State.readStability p))

/-- R136: a negative probe. -/
def State.negativeProbe (s : State) : State :=
  s.stuArmed.setStability { s.stuArmed.stability with lastNegative := some s.now }

/-- R136: the 300 ms probe timer expires. -/
def State.expireProbe (s : State) : State :=
  if s.stability.state = .probing ∧ s.reached s.stability.probeSince (millis 300) then s.negativeProbe.settle else s

/-- R136: the expiry of the probe timer. -/
def execProbeTimerExpiry (dt : Nat) (s : State) : Host.Outcome State Fault Refusal :=
  .next (s.live dt State.expireProbe)

/-- R138: the stability pressure moves to `v` and is posted for all three channels. -/
def State.movePressure (s : State) (v : Nat) : State :=
  if v = s.stability.pressure then s
  else (s.setStability { s.stability with pressure := v }).postStability (evenly v)

/-- R138 to R140: one step of a running ramp; it is paused while LAT is measured invalid, and the step that reaches 0 in
RECOVERING ends the intervention. -/
def State.stepRamp (s : State) : State :=
  match s.stability.ramp, s.stability.latSince with
  | some r, none =>
    let v := r.pressureAt (s.stability.pInt.getD 0) s.now
    if s.stability.state = .recovering ∧ v = 0 then s.stuArmed.settle else (s.movePressure v).settle
  | _, _ => s

/-- R138: the 10 ms step of a ramp. -/
def execRampStep (dt : Nat) (s : State) : Host.Outcome State Fault Refusal :=
  .next (s.live dt State.stepRamp)

/-- R139: |a| has been below the exit threshold for 1 s. -/
def execExitMeasurement (dt : Nat) (s : State) : Host.Outcome State Fault Refusal :=
  .next (s.live dt fun s =>
    if s.stability.state = .intervening ∧ s.reached s.stability.exitSince (millis 1000) then
      s.enterRecovering.settle
    else s)

/-- R139: LAT has been invalid for 1 s. -/
def execLatInvalidityMeasurement (dt : Nat) (s : State) : Host.Outcome State Fault Refusal :=
  .next (s.live dt fun s =>
    if s.stability.state = .intervening ∧ s.reached s.stability.latSince (millis 1000) then
      s.enterRecovering.settle
    else s)

end Sys2Proof.Machine
end

