-- ==== Sys2Proof/Machine/StoreCommands.lean ====
section
/-! DEFINITION. The commands of the store and of the resets (chapter 11): power-on, loss of supply, Restart, saving and
restoring. -/
namespace Sys2Proof.Machine

/-- R172: supply is applied, at any moment and from any state: the part starts on its image or on the defaults. The wake
line and the wires are as the part finds them. -/
def execPowerOn (dt : Nat) (wakeHigh : Bool) (wires : PerWheel Bool) (s : State) : Host.Outcome State Fault Refusal :=
  .next ((s.elapse dt).start wakeHigh wires)

/-- R170: supply is removed: operation ends, and a save in progress is left unfinished with its image invalid. -/
def execLossOfSupply (dt : Nat) (s : State) : Host.Outcome State Fault Refusal :=
  .next (s.live dt fun s => { s.setStore { s.store with saving := none } with powered := false })

/-- R173: an accepted Restart answers with the next exchange's NONE; one refused in SAVING leaves BUSY as its reply. Like
every exchange it clocks the pending reply out, whatever request that answers (R156). R103 calls the reply to a Post Demand
lost "with the port state (chapter 10)": what chapter 10 has the Restart discard is the pending reply as it stands after its
own exchange (DEDUCED, notes 28). -/
def execRestart (dt : Nat) (p : Params) (s : State) : Host.Outcome State Fault Refusal :=
  .next (s.live dt fun s =>
    if p.count = 0 ∧ s.store.saving = none then s.clockOut.restart
    else s.request 0x04 p (exactly 0) fun s => s.refuse .busy unnamed)

/-- R169: Save Tables' own rule. -/
def State.saveTables (s : State) : State × Answer :=
  if s.store.saving.isSome then s.refuse .busy unnamed else s.beginSave.tell noData

/-- R169: Save Tables. -/
def execSaveTables (dt : Nat) (p : Params) (s : State) : Host.Outcome State Fault Refusal :=
  .next (s.live dt fun s => s.request 0x70 p (exactly 0) State.saveTables)

/-- R170: the read-back ends the save. -/
def State.endSave (s : State) (equal : Bool) : State :=
  match s.store.saving with
  | none => s
  | some x =>
    if x.since + millis 400 ≤ s.now then
      (s.setStore
        { image := if equal then some (programmed x.snapshot) else none, valid := equal, saving := none }).noteStoreResult
          equal
    else s

/-- R170: the end of a save, 400 ms after its acceptance. -/
def execSaveEnd (dt : Nat) (readBackEqual : Bool) (s : State) : Host.Outcome State Fault Refusal :=
  .next (s.live dt fun s => s.endSave readBackEqual)

/-- R171: Restore Tables' own rule. -/
def State.restoreTables (s : State) : State × Answer :=
  s.gated (
    match s.store.valid, s.store.image with
    | true, some x => (s.cancelWindow.reload x.contents).carry noData
    | _, _ => s.refuse .conflict unnamed)

/-- R171: Restore Tables. -/
def execRestoreTables (dt : Nat) (p : Params) (s : State) : Host.Outcome State Fault Refusal :=
  .next (s.live dt fun s => s.request 0x71 p (exactly 0) State.restoreTables)

end Sys2Proof.Machine
end

