-- ==== Sys2Proof/Machine/TyreCommands.lean ====
section
/-! DEFINITION. The requests of the wheel position table (chapter 1 and R164). -/
namespace Sys2Proof.Machine

/-- R164: the data of Read Position. -/
def State.positionData (s : State) (p : Position) : List Byte :=
  s.positionSummary p ++ bytes2 (s.position p).pl ++ opt2 (s.position p).pe ++ opt2 (s.position p).expected

/-- R3, R164: Read Position. -/
def execReadPosition (dt : Nat) (p : Params) (s : State) : Host.Outcome State Fault Refusal :=
  .next (s.live dt fun s =>
    s.request 0x20 p (exactly 1) fun s =>
      s.withPosition (byteAt p 0) unnamed unnamed fun q => s.tell fun s => s.positionData q)

/-- R164: what Find Sensor answers: the index where the ID is bound, or the list place of a candidate. -/
def State.found (s : State) (id : SensorId) : List Byte :=
  match s.boundPosition id with
  | some q => [1, byte q.index]
  | none =>
    match candidateIndex s.intake.candidates id with
    | some i => [2, byte (i + 1)]
    | none => [0, 0xFF#8]

/-- R164: Find Sensor. -/
def execFindSensor (dt : Nat) (p : Params) (s : State) : Host.Outcome State Fault Refusal :=
  .next (s.live dt fun s =>
    s.request 0x21 p (exactly 4) fun s =>
      if reservedId (idAt p 0) then s.refuse .badParameter unnamed else s.tell fun s => s.found (idAt p 0))

/-! ### Setpoints -/

/-- R19: a spare position. -/
def isSpare : Position → Bool
  | .road _ _ => false
  | .sp1 => true
  | .sp2 => true

/-- R19: the light setpoint of a Set Position Setpoints; none where the request carries none. -/
def lightSetpoint (p : Params) : Option Nat := if p.count = 5 then some (wordAt p 3) else none

/-- R19: the checks on the values, in order: what a failing one names. -/
def setpointRefusal (q : Position) (pl : Nat) (pe : Option Nat) : Option Named :=
  if pl < 300 then some (positionAt 1 q.index (some 300))
  else if 1200 < pl then some (positionAt 1 q.index (some 1200))
  else
    match pe with
    | none => none
    | some e =>
      if isSpare q then some (positionAt 3 q.index none)
      else if e < 300 then some (positionAt 3 q.index (some 300))
      else if pl < e then some (positionAt 3 q.index (some pl))
      else none

/-- R19: Set Position Setpoints' own rule. -/
def State.setSetpoints (p : Params) (s : State) : State × Answer :=
  let i := byteAt p 0
  s.withPosition i (positionAt 0 i (some 21)) (positionAt 0 i none) fun q =>
    match setpointRefusal q (wordAt p 1) (lightSetpoint p) with
    | some n => s.refuse .badParameter n
    | none =>
      ((s.setPosition q { s.position q with pl := wordAt p 1, pe := lightSetpoint p }).evaluate q).carry noData

/-- R19: Set Position Setpoints. -/
def execSetPositionSetpoints (dt : Nat) (p : Params) (s : State) : Host.Outcome State Fault Refusal :=
  .next (s.live dt fun s =>
    s.request 0x25 p (fun n => exactly 3 n || exactly 5 n) (State.setSetpoints p))

/-- R20: a list with its repeats resolved: a 0 takes the value before it. -/
def resolved (before : Nat) : List Nat → List Nat
  | [] => []
  | v :: rest =>
    let x := if v = 0 then before else v
    x :: resolved x rest

/-- R20: the values of a Write Setpoints. -/
def sentValues (p : Params) : List Nat := (List.range (byteAt p 1)).map fun k => wordAt p (2 + 2 * k)

/-- R21: the check of one value before its position is written: none where it passes, else the limiting value, if any. Of
several checks that fail the first in R21's list names the value (DESIGN CHOICE, notes 60). -/
def State.writeRefusal (s : State) (q : Position) (v : Nat) : Option (Option Nat) :=
  if !s.positionExists q then some none
  else if v < 300 then some (some 300)
  else if 1200 < v then some (some 1200)
  else
    match (s.position q).pe with
    | some e => if v < e then some (some e) else none
    | none => none

/-- R21, R83: the write from an index on, of the values from a place of the list on; with a stop, its index, its place
and the limiting value. Each position is evaluated as it is written, and the LDU takes its changed level before the next
position is written. -/
def State.writeValues (s : State) (index place : Nat) : List Nat → State × Option (Nat × Nat × Option Nat)
  | [] => (s, none)
  | v :: rest =>
    match Position.ofIndex index with
    | none => (s, some (index, place, none))
    | some q =>
      match s.writeRefusal q v with
      | some limit => (s, some (index, place, limit))
      | none =>
        ((s.setPosition q { s.position q with pl := v }).evaluateOffering q).writeValues (index + 1) (place + 1) rest

/-- R20: the whole-request refusals, with what each names (DEDUCED, notes 17). -/
def writeSetpointsRefusal (p : Params) : Option Named :=
  let start := byteAt p 0
  let count := byteAt p 1
  if p.count < 2 then some unnamed
  else if count = 0 ∨ 13 < count then some (namedAt 1)
  else if p.count ≠ 2 + 2 * count then some unnamed
  else if 21 < start then some (positionAt 0 start none)
  else if 22 < start + count then some (positionAt 1 start none)
  else if wordAt p 2 = 0 then some (positionAt 2 start none)
  else none

/-- R20, R21: Write Setpoints' own rule. -/
def State.writeSetpoints (p : Params) (s : State) : State × Answer :=
  match writeSetpointsRefusal p with
  | some n => s.refuse .badParameter n
  | none =>
    let x := s.writeValues (byteAt p 0) 1 (resolved 0 (sentValues p))
    match x.2 with
    | none => x.1.carry noData
    | some (index, place, limit) =>
      (x.1.settle,
        .stopped [byte index, byte (byteAt p 0 + byteAt p 1 - index)] (positionAt (2 + 2 * (place - 1)) index limit))

/-- R20, R21: Write Setpoints. -/
def execWriteSetpoints (dt : Nat) (p : Params) (s : State) : Host.Outcome State Fault Refusal :=
  .next (s.live dt fun s => s.request 0x26 p anyCount (State.writeSetpoints p))

/-! ### Swap -/

/-- R23: the record of a position with what belongs to the sensor taken from another record; the setpoints and P_exp
stay. -/
def PositionRecord.withSensorOf (r other : PositionRecord) : PositionRecord :=
  { other with pl := r.pl, pe := r.pe, expected := r.expected }

/-- R23 step 1: a bound record is evaluated, an EMPTY one has its live fields cleared. -/
def State.judgeSwapped (s : State) (p : Position) : State :=
  if (s.position p).state.isBound then s.setPosition p (s.evaluatedRecord p)
  else s.setPosition p (s.position p).cleared

/-- R23: the exchange of two records with the steps after it. -/
def State.swap (s : State) (a b : Position) : State :=
  let ra := s.position a
  let rb := s.position b
  let t := (s.setPosition a (ra.withSensorOf rb)).setPosition b (rb.withSensorOf ra)
  let t := (t.judgeSwapped a).judgeSwapped b
  let t := (t.noteLevels a ra).noteLevels b rb
  (t.comparePairOf a).comparePairOf b

/-- R22: what a swap of a position with itself names (DESIGN CHOICE, notes 4). -/
def sameSwapNamed (i : Nat) : Named := positionAt (if Config.swapNamesSecond then 1 else 0) i none

/-- R22, R23: Swap Positions' own rule. Where both positions fail one check, a is named (DESIGN CHOICE, notes 45). -/
def State.swapPositions (p : Params) (s : State) : State × Answer :=
  let i := byteAt p 0
  let j := byteAt p 1
  match Position.ofIndex i, Position.ofIndex j with
  | none, _ => s.refuse .badParameter (positionAt 0 i none)
  | _, none => s.refuse .badParameter (positionAt 1 j none)
  | some a, some b =>
    if a = b then s.refuse .badParameter (sameSwapNamed i)
    else if !s.positionExists a then s.refuse .noSuchRecord (positionAt 0 i none)
    else if !s.positionExists b then s.refuse .noSuchRecord (positionAt 1 j none)
    else if (s.position a).state = .learning then s.refuse .conflict (positionAt 0 i none)
    else if (s.position b).state = .learning then s.refuse .conflict (positionAt 1 j none)
    else (s.swap a b).carry noData

/-- R22, R23: Swap Positions. -/
def execSwapPositions (dt : Nat) (p : Params) (s : State) : Host.Outcome State Fault Refusal :=
  .next (s.live dt fun s => s.request 0x27 p (exactly 2) (State.swapPositions p))

/-! ### Retiring, adopting, parameters -/

/-- R24: Retire Sensor's own rule. That an index above 21 names no limiting value here, as in R22 and R26, is a DESIGN
CHOICE, notes 44. -/
def State.retireSensor (p : Params) (s : State) : State × Answer :=
  let i := byteAt p 0
  s.withPosition i (positionAt 0 i none) (positionAt 0 i none) fun q => (s.retirePosition q).carry noData

/-- R24: Retire Sensor. -/
def execRetireSensor (dt : Nat) (p : Params) (s : State) : Host.Outcome State Fault Refusal :=
  .next (s.live dt fun s => s.request 0x28 p (exactly 1) (State.retireSensor p))

/-- R26: the record of a position that takes a candidate. -/
def PositionRecord.adopting (r : PositionRecord) (c : Candidate) : PositionRecord :=
  { r with
    bound := some c.bound, pressure := c.pressure, age := some c.age, temperature := none, fastLoss := false,
    batteryLow := false, silenceDue := false, state := if c.pressure.isSome then .live else .awaiting }

/-- R26: Adopt Candidate's own rule. -/
def State.adoptCandidate (p : Params) (s : State) : State × Answer :=
  let i := byteAt p 4
  s.withPosition i (positionAt 4 i none) (positionAt 4 i none) fun q =>
    if (s.position q).state ≠ .empty then s.refuse .conflict (positionAt 4 i none)
    else
      match s.intake.candidates.find? fun c => decide (c.bound.id = idAt p 0) with
      | none => s.refuse .noSuchRecord (positionAt 0 i none)
      | some c =>
        (((s.setPosition q ((s.position q).adopting c)).dropCandidate c.bound.id).evaluate q).carry noData

/-- R26: Adopt Candidate. -/
def execAdoptCandidate (dt : Nat) (p : Params) (s : State) : Host.Outcome State Fault Refusal :=
  .next (s.live dt fun s => s.request 0x33 p (exactly 5) (State.adoptCandidate p))

/-- R9: the data of Write Tyre Parameters: the values in force. -/
def State.tyreParameters (s : State) : List Byte := bytes2 s.settings.pairDelta ++ [byte s.settings.hotLimit]

/-- R9: Write Tyre Parameters' own rule. -/
def State.writeTyreParameters (p : Params) (s : State) : State × Answer :=
  if p.count = 0 then s.tell State.tyreParameters
  else if 30 ≤ wordAt p 0 ∧ wordAt p 0 ≤ 300 ∧ 70 ≤ byteAt p 2 ∧ byteAt p 2 ≤ 120 then
    (s.setSettings { s.settings with pairDelta := wordAt p 0, hotLimit := byteAt p 2 }).tell State.tyreParameters
  else s.refuse .badParameter unnamed

/-- R9: Write Tyre Parameters. -/
def execWriteTyreParameters (dt : Nat) (p : Params) (s : State) : Host.Outcome State Fault Refusal :=
  .next (s.live dt fun s =>
    s.request 0x34 p (fun n => exactly 0 n || exactly 3 n) (State.writeTyreParameters p))

end Sys2Proof.Machine
end

