-- ==== Sys2Proof/Machine/WorkshopCommands.lean ====
section
/-! DEFINITION. The requests and events of the workshop record and of the power state (chapter 9 and R166). -/
namespace Sys2Proof.Machine

/-! ### Entering and leaving -/

/-- R145: Enter Workshop's own rule. The passage into READY follows as the change is settled. -/
def State.enterWorkshop (s : State) : State × Answer :=
  if s.mode.power = .watch then s.refuse .notAwake unnamed
  else if s.mode.workshop ≠ .off then s.refuse .conflict unnamed
  else if 30 < s.inputs.reference then s.refuse .conflict unnamed
  else
    (s.enterWorkshopState { s.mode with workshop := .pending, staged := none, result := .none, cause := none }).carry
      State.workshopData

/-- R145: Enter Workshop. -/
def execEnterWorkshop (dt : Nat) (p : Params) (s : State) : Host.Outcome State Fault Refusal :=
  .next (s.live dt fun s => s.request 0x60 p (exactly 0) State.enterWorkshop)

/-- R146: Leave Workshop's own rule; in OFF it changes nothing. -/
def State.leaveWorkshop (s : State) : State × Answer :=
  if s.mode.workshop = .off then s.tell State.workshopData else s.workshopOff.carry State.workshopData

/-- R146: Leave Workshop. -/
def execLeaveWorkshop (dt : Nat) (p : Params) (s : State) : Host.Outcome State Fault Refusal :=
  .next (s.live dt fun s => s.request 0x61 p (exactly 0) State.leaveWorkshop)

/-! ### Staging -/

/-- R147: a code outside the range of its codes is named with the end of the range that it passes (DESIGN CHOICE,
notes 38). -/
def outsideCodes (offset low high code : Nat) : Named := limitedAt offset (if code < low then low else high)

/-- R147: a CHANNEL PRESSURE step of a request, or what its refusal names. -/
def pressureStep (p : Params) : Except Named Step :=
  match stepChannelOf (byteAt p 1) with
  | none => .error (outsideCodes 1 1 4 (byteAt p 1))
  | some c =>
    if 1000 < wordAt p 2 then .error (limitedAt 2 1000)
    else if byteAt p 4 < 1 then .error (limitedAt 4 1)
    else if 10 < byteAt p 4 then .error (limitedAt 4 10)
    else .ok (.channelPressure c (wordAt p 2) (byteAt p 4))

/-- R147: a LIFT step of a request, or what its refusal names. -/
def liftStep (p : Params) : Except Named Step :=
  match AxleId.ofNumber (byteAt p 1), byteAt p 2 with
  | none, _ => .error (outsideCodes 1 1 5 (byteAt p 1))
  | some a, 0 => .ok (.lift a false)
  | some a, 1 => .ok (.lift a true)
  | some _, _ => .error (limitedAt 2 1)

/-- R147: a SENSOR LISTEN step of a request, or what its refusal names. -/
def listenStep (p : Params) : Except Named Step :=
  match Position.ofIndex (byteAt p 1) with
  | some q => .ok (.sensorListen q)
  | none => .error (limitedAt 1 21)

/-- R147: a count that does not fit the kind is named with the count that does; the parameter is open (DESIGN CHOICE,
notes 38). -/
def unfitCount (p : Params) (fit : Nat) : Named := limitedAt (Config.stepCountParameter p.count) fit

/-- R147: a request without parameters has no kind that its count could fit (DESIGN CHOICE, notes 38). -/
def missingKind : Named := ⟨some (Config.stepCountParameter 0), none, Config.missingKindLimit⟩

/-- R147, R166: the step of a request, or what its refusal names. -/
def stepOf (p : Params) : Except Named Step :=
  if p.count = 0 then .error missingKind
  else
    match byteAt p 0 with
    | 1 => if p.count = 5 then pressureStep p else .error (unfitCount p 5)
    | 2 => if p.count = 3 then liftStep p else .error (unfitCount p 3)
    | 3 => if p.count = 2 then listenStep p else .error (unfitCount p 2)
    | n => .error (outsideCodes 0 1 3 n)

/-- R147: what a Stage Step names that R157 refuses for a count no kind has: as for any other count that does not fit. -/
def unfitNamed (p : Params) : Named :=
  match stepOf p with
  | .error n => n
  | .ok _ => unnamed

/-- R147: the counts that some step kind has. -/
def stepCount (n : Nat) : Bool := exactly 2 n || exactly 3 n || exactly 5 n

/-- R147: Stage Step's own rule. -/
def State.stageStep (p : Params) (s : State) : State × Answer :=
  if s.mode.workshop = .off ∨ s.mode.workshop = .stepFault then s.refuse .notPermitted unnamed
  else
    match stepOf p with
    | .error n => s.refuse .badParameter n
    | .ok x => (s.setMode { s.mode with staged := some x }).tell State.workshopData

/-- R147: Stage Step. A count that no kind has is refused before the state is checked (DEDUCED, notes 26). -/
def execStageStep (dt : Nat) (p : Params) (s : State) : Host.Outcome State Fault Refusal :=
  .next (s.live dt fun s => s.request 0x62 p stepCount (State.stageStep p) (unfitNamed p))

/-! ### Running -/

/-- R149, R150: the check of a step kind at Run Step: the code and what the refusal names. -/
def State.stepRefusal (s : State) : Step → Option (RefusalCode × Named)
  | .channelPressure _ _ _ => if s.channels.mode = .fallback then some (.conflict, unnamed) else none
  | .lift a raise =>
    if !(s.axle a).layout.present then some (.noSuchRecord, unnamed)
    else if raise && s.refusesRaiseStep a then some (.conflict, namedAxle a)
    else none
  | .sensorListen _ => none

/-- R149: the list of the TEST entry. -/
def testList (c : Option ChannelId) (kPa : Nat) : PerChannel Nat :=
  match c with
  | some c => (evenly 0).set c kPa
  | none => evenly kPa

/-- R150: a LIFT step starts. -/
def State.startLift (s : State) (a : AxleId) (raise : Bool) : State :=
  if raise then
    if (s.axle a).lift = .up then s.stepDone else s.setLift a .raising
  else if (s.axle a).lift = .down then s.stepDone
  else s.lowerAxle a

/-- R149 to R151: the running step starts as its kind's rule says. -/
def State.startStep (s : State) (x : Step) : State :=
  match x with
  | .channelPressure c kPa _ => s.postEntry .test (.channels (testList c kPa))
  | .lift a raise => s.startLift a raise
  | .sensorListen q => if (s.position q).state.isBound then s else s.stepFaults .notBound

/-- R149: whether a step is in band as it starts. -/
def State.startsInBand (s : State) : Step → Bool
  | .channelPressure c kPa _ => s.stepInBand c kPa
  | .lift _ _ => false
  | .sensorListen _ => false

/-- R148: an accepted Run Step. -/
def State.runStaged (s : State) (x : Step) : State :=
  (s.enterWorkshopState { s.mode with
    workshop := .stepRunning, staged := none, result := .none, cause := none
    running := some { step := x, startedAt := s.now, inBand := s.startsInBand x, bandSince := s.now } }).startStep x

/-- R148: Run Step's own rule. -/
def State.runStep (s : State) : State × Answer :=
  if s.mode.workshop = .stepRunning then s.refuse .busy unnamed
  else if s.mode.workshop ≠ .ready then s.refuse .notPermitted unnamed
  else
    match s.mode.staged with
    | none => s.refuse .notPermitted unnamed
    | some x =>
      match s.stepRefusal x with
      | some (c, n) => s.refuse c n
      | none => (s.runStaged x).carry State.workshopData

/-- R148: Run Step. -/
def execRunStep (dt : Nat) (p : Params) (s : State) : Host.Outcome State Fault Refusal :=
  .next (s.live dt fun s => s.request 0x63 p (exactly 0) State.runStep)

/-! ### Measurements of a running step -/

/-- R149: out of band for 2 s: OUT OF BAND. -/
def State.endBand (s : State) : State :=
  match s.mode.running with
  | none => s
  | some r =>
    match r.step with
    | .channelPressure _ _ _ =>
      if !r.inBand && decide (r.bandSince + seconds 2 ≤ s.now) then (s.stepFaults .outOfBand).settle else s
    | .lift _ _ => s
    | .sensorListen _ => s

/-- R149: the band measurement reaches 2 s. -/
def execBandMeasurement (dt : Nat) (s : State) : Host.Outcome State Fault Refusal :=
  .next (s.live dt State.endBand)

/-- R149: in band for the hold time: DONE. -/
def State.endHeld (s : State) : State :=
  match s.mode.running with
  | none => s
  | some r =>
    match r.step with
    | .channelPressure _ _ hold =>
      if r.inBand && decide (r.bandSince + seconds hold ≤ s.now) then s.stepDone.settle else s
    | .lift _ _ => s
    | .sensorListen _ => s

/-- R149: the hold measurement reaches the hold time. -/
def execHoldMeasurement (dt : Nat) (s : State) : Host.Outcome State Fault Refusal :=
  .next (s.live dt State.endHeld)

/-- R151: no report for 60 s: NO TELEGRAM. -/
def State.endListen (s : State) : State :=
  match s.mode.running with
  | none => s
  | some r =>
    match r.step with
    | .sensorListen _ => if r.startedAt + seconds 60 ≤ s.now then (s.stepFaults .noTelegram).settle else s
    | .channelPressure _ _ _ => s
    | .lift _ _ => s

/-- R151: the listen measurement reaches 60 s. -/
def execListenTimeout (dt : Nat) (s : State) : Host.Outcome State Fault Refusal :=
  .next (s.live dt State.endListen)

/-! ### The power state -/

/-- R152: the raw wake line changes level; its 50 ms are measured from the change. -/
def State.wakeLineMoves (s : State) (high : Bool) : State :=
  if high = s.mode.wakeRaw then s else s.setMode { s.mode with wakeRaw := high, wakeRawSince := s.now }

/-- R152: a change of the raw wake line. -/
def execWakeLineChange (dt : Nat) (high : Bool) (s : State) : Host.Outcome State Fault Refusal :=
  .next (s.live dt fun s => s.wakeLineMoves high)

/-- R152, R154: a taken level acts on the power state. -/
def State.takeWake (s : State) : State :=
  let t := s.setMode { s.mode with wakeTaken := s.mode.wakeRaw }
  match t.mode.power, t.mode.wakeRaw with
  | .awake, true => t.setMode { t.mode with awaited := false }
  | .awake, false =>
    if t.inputs.motion = .standstill then t.enterRunOn else t.setMode { t.mode with awaited := true }
  | .runOn, true => t.setMode { t.mode with power := .awake, runOnSince := none }
  | .runOn, false => t
  | .watch, true => t.wake
  | .watch, false => t

/-- R152: a new level that the line has held for 50 ms is taken. -/
def State.wakeLevelDue (s : State) : State :=
  if s.mode.wakeRaw ≠ s.mode.wakeTaken ∧ s.mode.wakeRawSince + millis 50 ≤ s.now then s.takeWake.settle else s

/-- R152: the wake line's level is taken. -/
def execWakeLineLevel (dt : Nat) (s : State) : Host.Outcome State Fault Refusal :=
  .next (s.live dt State.wakeLevelDue)

/-- R152, R153: the run-on timer reaches 60 s and the part enters WATCH. -/
def execRunOnExpiry (dt : Nat) (s : State) : Host.Outcome State Fault Refusal :=
  .next (s.live dt fun s =>
    if s.mode.power = .runOn ∧ s.reached s.mode.runOnSince (seconds 60) then s.enterWatch.settle else s)

end Sys2Proof.Machine
end

