-- ==== Sys2Proof/Machine/Dispatch.lean ====
section
/-! DEFINITION. One arm for each command: the call of its meaning. -/
namespace Sys2Proof.Machine

/-- The effect of a command on everything but the queue. -/
def exec (i : Instr) (s : State) : Host.Outcome State Fault Refusal :=
  match i with
  | .powerOn dt wakeHigh wires => Sys2Proof.Machine.execPowerOn dt wakeHigh wires s
  | .frameError dt => Sys2Proof.Machine.execFrameError dt s
  | .unknownRequest dt code => Sys2Proof.Machine.execUnknownRequest dt code s
  | .noOperation dt p => Sys2Proof.Machine.execNoOperation dt p s
  | .identify dt p => Sys2Proof.Machine.execIdentify dt p s
  | .faultDetail dt p => Sys2Proof.Machine.execFaultDetail dt p s
  | .restart dt p => Sys2Proof.Machine.execRestart dt p s
  | .setResetPolicy dt p => Sys2Proof.Machine.execSetResetPolicy dt p s
  | .fetchNotices dt p => Sys2Proof.Machine.execFetchNotices dt p s
  | .setNoticeEnables dt p => Sys2Proof.Machine.execSetNoticeEnables dt p s
  | .readPosition dt p => Sys2Proof.Machine.execReadPosition dt p s
  | .findSensor dt p => Sys2Proof.Machine.execFindSensor dt p s
  | .readPositions dt p => Sys2Proof.Machine.execReadPositions dt p s
  | .setBatchSize dt p => Sys2Proof.Machine.execSetBatchSize dt p s
  | .continueRead dt p => Sys2Proof.Machine.execContinueRead dt p s
  | .readCandidates dt p => Sys2Proof.Machine.execReadCandidates dt p s
  | .setPositionSetpoints dt p => Sys2Proof.Machine.execSetPositionSetpoints dt p s
  | .writeSetpoints dt p => Sys2Proof.Machine.execWriteSetpoints dt p s
  | .swapPositions dt p => Sys2Proof.Machine.execSwapPositions dt p s
  | .retireSensor dt p => Sys2Proof.Machine.execRetireSensor dt p s
  | .adoptCandidate dt p => Sys2Proof.Machine.execAdoptCandidate dt p s
  | .writeTyreParameters dt p => Sys2Proof.Machine.execWriteTyreParameters dt p s
  | .beginLearn dt p => Sys2Proof.Machine.execBeginLearn dt p s
  | .cancelLearn dt p => Sys2Proof.Machine.execCancelLearn dt p s
  | .readAxle dt p => Sys2Proof.Machine.execReadAxle dt p s
  | .writeAxleLayout dt p => Sys2Proof.Machine.execWriteAxleLayout dt p s
  | .writeGroupCalibration dt p => Sys2Proof.Machine.execWriteGroupCalibration dt p s
  | .writeBrakeCharacteristic dt p => Sys2Proof.Machine.execWriteBrakeCharacteristic dt p s
  | .setLiftMode dt p => Sys2Proof.Machine.execSetLiftMode dt p s
  | .readLoadState dt p => Sys2Proof.Machine.execReadLoadState dt p s
  | .postDemand dt p => Sys2Proof.Machine.execPostDemand dt p s
  | .readBrakeState dt p => Sys2Proof.Machine.execReadBrakeState dt p s
  | .writeStabilityParameters dt p => Sys2Proof.Machine.execWriteStabilityParameters dt p s
  | .readStabilityState dt p => Sys2Proof.Machine.execReadStabilityState dt p s
  | .enterWorkshop dt p => Sys2Proof.Machine.execEnterWorkshop dt p s
  | .leaveWorkshop dt p => Sys2Proof.Machine.execLeaveWorkshop dt p s
  | .stageStep dt p => Sys2Proof.Machine.execStageStep dt p s
  | .runStep dt p => Sys2Proof.Machine.execRunStep dt p s
  | .clearBrakeFault dt p => Sys2Proof.Machine.execClearBrakeFault dt p s
  | .saveTables dt p => Sys2Proof.Machine.execSaveTables dt p s
  | .restoreTables dt p => Sys2Proof.Machine.execRestoreTables dt p s
  | .saveEnd dt readBackEqual => Sys2Proof.Machine.execSaveEnd dt readBackEqual s
  | .telegramArrival dt => Sys2Proof.Machine.execTelegramArrival dt s
  | .learnConfirmation dt => Sys2Proof.Machine.execLearnConfirmation dt s
  | .learnWindowExpiry dt => Sys2Proof.Machine.execLearnWindowExpiry dt s
  | .ageCount dt => Sys2Proof.Machine.execAgeCount dt s
  | .sensorSilent dt position => Sys2Proof.Machine.execSensorSilent dt position s
  | .candidateExpiry dt id => Sys2Proof.Machine.execCandidateExpiry dt id s
  | .conversion dt input millivolts => Sys2Proof.Machine.execConversion dt input millivolts s
  | .wheelEdge dt wheel => Sys2Proof.Machine.execWheelEdge dt wheel s
  | .speedDecay dt wheel => Sys2Proof.Machine.execSpeedDecay dt wheel s
  | .wheelStop dt wheel => Sys2Proof.Machine.execWheelStop dt wheel s
  | .wireStateChange dt wheel sound => Sys2Proof.Machine.execWireStateChange dt wheel sound s
  | .wheelInputInvalid dt wheel => Sys2Proof.Machine.execWheelInputInvalid dt wheel s
  | .wheelInputValid dt wheel => Sys2Proof.Machine.execWheelInputValid dt wheel s
  | .standstillMeasurement dt => Sys2Proof.Machine.execStandstillMeasurement dt s
  | .wakeLineLevel dt => Sys2Proof.Machine.execWakeLineLevel dt s
  | .runOnExpiry dt => Sys2Proof.Machine.execRunOnExpiry dt s
  | .raiseDue dt group => Sys2Proof.Machine.execRaiseDue dt group s
  | .raiseComplete dt axle => Sys2Proof.Machine.execRaiseComplete dt axle s
  | .lowerComplete dt axle => Sys2Proof.Machine.execLowerComplete dt axle s
  | .transitionHoldEnd dt group => Sys2Proof.Machine.execTransitionHoldEnd dt group s
  | .loadSubstitution dt group => Sys2Proof.Machine.execLoadSubstitution dt group s
  | .autoLower dt group => Sys2Proof.Machine.execAutoLower dt group s
  | .digitalTimeout dt => Sys2Proof.Machine.execDigitalTimeout dt s
  | .mismatchTimerExpiry dt => Sys2Proof.Machine.execMismatchTimerExpiry dt s
  | .lockTimeout dt channel => Sys2Proof.Machine.execLockTimeout dt channel s
  | .holdTimerExpiry dt channel => Sys2Proof.Machine.execHoldTimerExpiry dt channel s
  | .inletNoRise dt channel => Sys2Proof.Machine.execInletNoRise dt channel s
  | .exhaustNoFall dt channel => Sys2Proof.Machine.execExhaustNoFall dt channel s
  | .deliveredInvalid dt channel => Sys2Proof.Machine.execDeliveredInvalid dt channel s
  | .controlInvalid dt => Sys2Proof.Machine.execControlInvalid dt s
  | .probeTimerExpiry dt => Sys2Proof.Machine.execProbeTimerExpiry dt s
  | .rampStep dt => Sys2Proof.Machine.execRampStep dt s
  | .exitMeasurement dt => Sys2Proof.Machine.execExitMeasurement dt s
  | .latInvalidityMeasurement dt => Sys2Proof.Machine.execLatInvalidityMeasurement dt s
  | .bandMeasurement dt => Sys2Proof.Machine.execBandMeasurement dt s
  | .holdMeasurement dt => Sys2Proof.Machine.execHoldMeasurement dt s
  | .listenTimeout dt => Sys2Proof.Machine.execListenTimeout dt s
  | .wakeLineChange dt high => Sys2Proof.Machine.execWakeLineChange dt high s
  | .characterReception dt char stopBit => Sys2Proof.Machine.execCharacterReception dt char stopBit s
  | .lossOfSupply dt => Sys2Proof.Machine.execLossOfSupply dt s

end Sys2Proof.Machine
end

