-- ==== Sys2Proof/Safety.lean ====
section
/-! DEFINITION. The terms of claims: the laws the manual says the part keeps, as properties of a state; the exchange on the
port; and what the offers of a change never touch, as relations between the states before and after. -/
namespace Sys2Proof.Machine

/-! ### Laws of a state -/

/-- R131: every rollover limit lies between 200 and 700 mg, the frozen one too. -/
def State.limitLaw (s : State) : Prop :=
  (200 ≤ s.stability.liveLimit ∧ s.stability.liveLimit ≤ 700) ∧
    ∀ x, s.stability.frozen = some x → 200 ≤ x ∧ x ≤ 700

/-- R68: every group's load ratio L lies between 0 and 1000. -/
def State.loadLaw (s : State) : Prop := ∀ g, (s.group g).l ≤ 1000

/-- R45: the candidate list holds no more than 16 entries, and no two entries with the same ID. -/
def State.candidateLaw (s : State) : Prop :=
  s.intake.candidates.length ≤ 16 ∧ (s.intake.candidates.map fun c => c.bound.id).Nodup

/-- R87: the demand table holds at most one entry for each source. -/
def State.entryLaw (s : State) : Prop := (s.demands.table.map Entry.source).Nodup

/-- R123: in FALLBACK every inlet, exhaust and redundancy valve is de-energised and the STU is IDLE. -/
def State.fallbackLaw (s : State) : Prop :=
  s.channels.mode = .fallback →
    (∀ c, (s.channel c).inlet = false ∧ (s.channel c).exhaust = false) ∧ s.channels.redundancy = false ∧
      s.stability.state = .idle

/-- R94, R144: a step is held, and a TEST entry stands, only while the workshop state is STEP RUNNING. -/
def State.workshopLaw (s : State) : Prop :=
  s.mode.workshop ≠ .stepRunning → s.mode.running = none ∧ s.hasEntry .test = false

/-- R40, R47, R101, R115, R133, R146, R153: in WATCH the demand table holds no DIGITAL, STABILITY or TEST entry, no learn
window is open, the candidate list is empty, the valves are off, the STU is IDLE and the workshop state is OFF. -/
def State.watchLaw (s : State) : Prop :=
  s.mode.power = .watch →
    (s.hasEntry .digital = false ∧ s.hasEntry .stability = false) ∧
      (s.intake.window = none ∧ s.intake.candidates = []) ∧
      ((∀ c, (s.channel c).inlet = false ∧ (s.channel c).exhaust = false) ∧ s.channels.redundancy = false) ∧
      s.stability.state = .idle ∧ s.mode.workshop = .off

/-- R4: a record holds a binding exactly in the bound states. -/
def State.bindingLaw (s : State) : Prop := ∀ p, (s.position p).bound.isSome = (s.position p).state.isBound

/-- R35: a position is LEARNING exactly while the learn window is open on it. -/
def State.learnLaw (s : State) : Prop :=
  ∀ p, (s.position p).state = .learning ↔ ∃ w, s.intake.window = some w ∧ w.target = p

/-- R6: no sensor ID is bound to two positions, and no bound ID is in the candidate list. -/
def State.idLaw (s : State) : Prop :=
  (∀ p q b, (s.position p).bound = some b → (s.position q).bound.map Binding.id = some b.id → p = q) ∧
    ∀ p b c, (s.position p).bound = some b → c ∈ s.intake.candidates → c.bound.id ≠ b.id

/-- R92, R95, R106: P_d is as the entries and the mismatch record give it, every brake ratio as its group's load ratio and
empty ratio give it, and the pressure of an EMERGENCY entry is 1000. -/
def State.formedLaw (s : State) : Prop :=
  s.demands.driver = s.formedDriver ∧
    (∀ g, (s.group g).ratio = brakeRatio (s.calibration g).re (s.group g).l) ∧
    ∀ e, s.entry .emergency = some e → e.demand = .whole 1000

/-- R51: what an analog input holds stays within 1000, and its window within four values: as many as are counted until
the input is VALID. -/
structure AnalogInput.Within (x : AnalogInput) : Prop where
  values : ∀ v ∈ x.window, v ≤ 1000
  average : ∀ v, x.average = some v → v ≤ 1000
  length : x.window.length ≤ 4
  counted : x.validity ≠ .valid → x.window.length = x.count ∧ x.count ≤ 3

/-- R87, R92, R111: the entries of DIGITAL, PNEUMATIC and EMERGENCY hold one pressure and those of STABILITY and TEST one
for each channel, none above 1000; nor is anything above 1000 that an entry is posted from: the averages of CTL, the staged
step, and the STU's pressures and load ratio. -/
structure State.pressureLaw (s : State) : Prop where
  driver : ∀ x e, s.entry x = some e → x = .digital ∨ x = .pneumatic → ∃ v, e.demand = .whole v ∧ v ≤ 1000
  emergency : ∀ e, s.entry .emergency = some e → ∃ v, e.demand = .whole v ∧ v ≤ 1000
  listed : ∀ x e, s.entry x = some e → x = .stability ∨ x = .test → ∃ t, e.demand = .channels t ∧ ∀ c, t.get c ≤ 1000
  control : (s.analog .ctl).Within
  staged : ∀ c v hold, s.mode.staged = some (.channelPressure c v hold) → v ≤ 1000
  ratio : s.stability.lr ≤ 1000
  pressure : s.stability.pressure ≤ 1000
  target : ∀ v, s.stability.pInt = some v → v ≤ 1000
  ramp : ∀ r, s.stability.ramp = some r → r.start ≤ 1000

/-- R159: the batch size is 1 or 2. -/
def State.batchLaw (s : State) : Prop := s.port.batchSize = 1 ∨ s.port.batchSize = 2

/-- R3: a position that does not exist is EMPTY. -/
def State.existLaw (s : State) : Prop := ∀ p, s.positionExists p = false → (s.position p).state = .empty

/-- R3: whether a position exists under the layout of an image. -/
def Image.hasPosition (x : Image) : Position → Bool
  | .road a sl =>
    (x.axles.get a).layout.present && ((x.axles.get a).layout.dual || decide (sl = .lo) || decide (sl = .ro))
  | .sp1 => true
  | .sp2 => true

/-- R6: an image, saved from a table that keeps the laws, binds existing positions only, and no ID twice. -/
def Image.tableLaw (x : Image) : Prop :=
  (∀ p, (x.positions.get p).bound.isSome = true → x.hasPosition p = true) ∧
    ∀ p q b, (x.positions.get p).bound = some b → (x.positions.get q).bound.map Binding.id = some b.id → p = q

/-- R3, R4, R6, R35: the laws of the wheel position table, with the images that a reload or a power-on may load into it. -/
structure State.TableLaws (s : State) : Prop where
  binding : s.bindingLaw
  learn : s.learnLaw
  exist : s.existLaw
  id : s.idLaw
  image : ∀ x, s.store.image = some x → x.contents.tableLaw
  snapshot : ∀ x, s.store.saving = some x → x.snapshot.tableLaw

/-- What rests in FALLBACK, outside a workshop step, and in WATCH. -/
structure State.RestLaws (s : State) : Prop where
  fallback : s.fallbackLaw
  workshop : s.workshopLaw
  watch : s.watchLaw

/-- R82: while a STABILITY entry is in the demand table, no liftable axle is UP or RAISING. -/
def State.loweredLaw (s : State) : Prop :=
  s.hasEntry .stability = true →
    ∀ a, (s.axle a).layout.liftable = true → (s.axle a).lift ≠ .up ∧ (s.axle a).lift ≠ .raising

/-- R82, R93, R133, R138: the STU posts an entry and runs a ramp only while it acts, in PROBING, INTERVENING or
RECOVERING; no axle, liftable or not, is RAISING or UP while it acts; and it is IDLE while the workshop record is not
OFF. The law of R82 follows from the first and the third. -/
structure State.ActingLaws (s : State) : Prop where
  entry : s.hasEntry .stability = true → s.stuActing = true
  ramp : s.stability.ramp.isSome = true → s.stuActing = true
  lowered : s.stuActing = true → ∀ a, (s.axle a).lift.lifted = false
  workshop : s.mode.workshop ≠ .off → s.stability.state = .idle

/-- R76, R82: in WATCH no raise is pending or due. -/
def State.asleepLaw (s : State) : Prop :=
  s.mode.power = .watch → (∀ a, (s.axle a).raisePending = false) ∧ ∀ g, (s.group g).raiseDue = false

/-- The laws that tie the modes of several units together. -/
structure State.ModeLaws (s : State) : Prop where
  rest : s.RestLaws
  asleep : s.asleepLaw
  acting : s.ActingLaws
  lowered : s.loweredLaw

/-- The ranges of R9, R55, R67, R104 and R129. -/
structure Settings.InRange (x : Settings) : Prop where
  circumference : 2800 ≤ x.circumference ∧ x.circumference ≤ 3800
  teeth : 80 ≤ x.teeth ∧ x.teeth ≤ 120
  pressures : ∀ g, (x.groups.get g).pe < (x.groups.get g).pl ∧ (x.groups.get g).pl ≤ 1000
  weights : ∀ g, (x.groups.get g).we < (x.groups.get g).wl ∧ (x.groups.get g).wl ≤ 3000
  ratios : ∀ g, 200 ≤ (x.groups.get g).re ∧ (x.groups.get g).re ≤ 1000
  knee : x.knee ≤ 150
  halfTrack : 800 ≤ x.stability.halfTrack ∧ x.stability.halfTrack ≤ 1100
  heightEmpty : 1000 ≤ x.stability.heightEmpty ∧ x.stability.heightEmpty ≤ 2500
  heightLaden : x.stability.heightEmpty ≤ x.stability.heightLaden ∧ x.stability.heightLaden ≤ 2800
  margin : 500 ≤ x.stability.margin ∧ x.stability.margin ≤ 900
  pairDelta : 30 ≤ x.pairDelta ∧ x.pairDelta ≤ 300
  hotLimit : 70 ≤ x.hotLimit ∧ x.hotLimit ≤ 120

/-- R2: the ranges of a position's setpoints; a spare position has no light one. -/
def setpointsInRange (p : Position) (pl : Nat) (pe : Option Nat) : Prop :=
  (300 ≤ pl ∧ pl ≤ 1200) ∧ ∀ e, pe = some e → isSpare p = false ∧ 300 ≤ e ∧ e ≤ pl

/-- The ranges of what an image holds. -/
def Image.InRange (x : Image) : Prop :=
  x.settings.InRange ∧ ∀ p, setpointsInRange p (x.positions.get p).pl (x.positions.get p).pe

/-- The ranges of the configuration, of the image and of the snapshot of a running save, and of the batch size. -/
structure State.RangeLaws (s : State) : Prop where
  settings : s.settings.InRange
  setpoints : ∀ p, setpointsInRange p (s.position p).pl (s.position p).pe
  image : ∀ x, s.store.image = some x → x.contents.InRange
  snapshot : ∀ x, s.store.saving = some x → x.snapshot.InRange
  batch : s.batchLaw

/-! ### Which commands change what -/

/-- The commands that write the parameters of the part. -/
def writesSettings : Instr → Bool
  | .powerOn _ _ _ => true
  | .restart _ _ => true
  | .setResetPolicy _ _ => true
  | .setNoticeEnables _ _ => true
  | .writeTyreParameters _ _ => true
  | .writeAxleLayout _ _ => true
  | .writeGroupCalibration _ _ => true
  | .writeBrakeCharacteristic _ _ => true
  | .writeStabilityParameters _ _ => true
  | .restoreTables _ _ => true
  | _ => false

/-- R64, R65: the commands that replace the axle layout. -/
def writesLayout : Instr → Bool
  | .powerOn _ _ _ => true
  | .restart _ _ => true
  | .writeAxleLayout _ _ => true
  | .restoreTables _ _ => true
  | _ => false

/-- R19 to R21, R171: the commands that write setpoints. -/
def writesSetpoints : Instr → Bool
  | .powerOn _ _ _ => true
  | .restart _ _ => true
  | .setPositionSetpoints _ _ => true
  | .writeSetpoints _ _ => true
  | .restoreTables _ _ => true
  | _ => false

/-- R6, R24, R25: the commands by which a sensor is bound, moved or dropped. -/
def writesBindings : Instr → Bool
  | .powerOn _ _ _ => true
  | .restart _ _ => true
  | .swapPositions _ _ => true
  | .retireSensor _ _ => true
  | .adoptCandidate _ _ => true
  | .learnConfirmation _ => true
  | .writeAxleLayout _ _ => true
  | .restoreTables _ _ => true
  | _ => false

/-- R168 to R172: the commands that change the image, its validity or the save state. -/
def writesStore : Instr → Bool
  | .powerOn _ _ _ => true
  | .lossOfSupply _ => true
  | .saveTables _ _ => true
  | .saveEnd _ _ => true
  | _ => false

/-- R89 to R92, R101, R102: the commands that change the entry of a source of the driver or of the supply. -/
def writesEntry (x : Source) : Instr → Bool
  | .powerOn _ _ _ => true
  | .restart _ _ => true
  | .postDemand _ _ => decide (x = .digital)
  | .digitalTimeout _ => decide (x = .digital)
  | .runOnExpiry _ => decide (x = .digital)
  | .conversion _ .ctl _ => decide (x = .pneumatic)
  | .conversion _ .sup _ => decide (x = .emergency)
  | _ => false

/-- R123: the cause of FALLBACK a command reports. -/
def causeOf : Instr → Option FallbackCause
  | .inletNoRise _ c => some (.inletNoRise c)
  | .exhaustNoFall _ c => some (.exhaustNoFall c)
  | .deliveredInvalid _ c => some (.deliveredInvalid c)
  | .controlInvalid _ => some .controlInvalid
  | _ => none

/-- R123, R124: the commands that bring the brake mode back to ELECTRONIC. -/
def restoresBrakes : Instr → Bool
  | .powerOn _ _ _ => true
  | .clearBrakeFault _ _ => true
  | _ => false

/-- R157: the parameter counts a request accepts, where a fixed list of them holds for every request of its code and a
refusal is all that another count brings. -/
def requestCounts : Instr → Option (List Nat)
  | .noOperation _ _ => some [0]
  | .identify _ _ => some [0]
  | .restart _ _ => some [0]
  | .setResetPolicy _ _ => some [1]
  | .fetchNotices _ _ => some [0]
  | .setNoticeEnables _ _ => some [3]
  | .readPosition _ _ => some [1]
  | .findSensor _ _ => some [4]
  | .readPositions _ _ => some [2]
  | .setBatchSize _ _ => some [1]
  | .setPositionSetpoints _ _ => some [3, 5]
  | .swapPositions _ _ => some [2]
  | .retireSensor _ _ => some [1]
  | .beginLearn _ _ => some [1]
  | .cancelLearn _ _ => some [0]
  | .readCandidates _ _ => some [0]
  | .adoptCandidate _ _ => some [5]
  | .writeTyreParameters _ _ => some [0, 3]
  | .readAxle _ _ => some [1]
  | .writeAxleLayout _ _ => some [18]
  | .writeGroupCalibration _ _ => some [9]
  | .writeBrakeCharacteristic _ _ => some [7]
  | .setLiftMode _ _ => some [2]
  | .readLoadState _ _ => some [1]
  | .postDemand _ _ => some [2]
  | .readBrakeState _ _ => some [1]
  | .writeStabilityParameters _ _ => some [9]
  | .readStabilityState _ _ => some [1]
  | .enterWorkshop _ _ => some [0]
  | .leaveWorkshop _ _ => some [0]
  | .stageStep _ _ => some [2, 3, 5]
  | .runStep _ _ => some [0]
  | .clearBrakeFault _ _ => some [0]
  | .saveTables _ _ => some [0]
  | .restoreTables _ _ => some [0]
  | _ => none

/-- R145: the requests that are taken in READY only. -/
def isGated : Instr → Bool
  | .writeAxleLayout _ _ => true
  | .writeGroupCalibration _ _ => true
  | .writeBrakeCharacteristic _ _ => true
  | .writeStabilityParameters _ _ => true
  | .clearBrakeFault _ _ => true
  | .restoreTables _ _ => true
  | _ => false

/-! ### Commands and exchanges -/

/-- The time a command carries: the microseconds since the command before it. -/
def commandTime : Instr → Nat
  | .powerOn dt _ _ => dt
  | .frameError dt => dt
  | .unknownRequest dt _ => dt
  | .noOperation dt _ => dt
  | .identify dt _ => dt
  | .faultDetail dt _ => dt
  | .restart dt _ => dt
  | .setResetPolicy dt _ => dt
  | .fetchNotices dt _ => dt
  | .setNoticeEnables dt _ => dt
  | .readPosition dt _ => dt
  | .findSensor dt _ => dt
  | .readPositions dt _ => dt
  | .setBatchSize dt _ => dt
  | .continueRead dt _ => dt
  | .readCandidates dt _ => dt
  | .setPositionSetpoints dt _ => dt
  | .writeSetpoints dt _ => dt
  | .swapPositions dt _ => dt
  | .retireSensor dt _ => dt
  | .adoptCandidate dt _ => dt
  | .writeTyreParameters dt _ => dt
  | .beginLearn dt _ => dt
  | .cancelLearn dt _ => dt
  | .readAxle dt _ => dt
  | .writeAxleLayout dt _ => dt
  | .writeGroupCalibration dt _ => dt
  | .writeBrakeCharacteristic dt _ => dt
  | .setLiftMode dt _ => dt
  | .readLoadState dt _ => dt
  | .postDemand dt _ => dt
  | .readBrakeState dt _ => dt
  | .writeStabilityParameters dt _ => dt
  | .readStabilityState dt _ => dt
  | .enterWorkshop dt _ => dt
  | .leaveWorkshop dt _ => dt
  | .stageStep dt _ => dt
  | .runStep dt _ => dt
  | .clearBrakeFault dt _ => dt
  | .saveTables dt _ => dt
  | .restoreTables dt _ => dt
  | .saveEnd dt _ => dt
  | .telegramArrival dt => dt
  | .learnConfirmation dt => dt
  | .learnWindowExpiry dt => dt
  | .ageCount dt => dt
  | .sensorSilent dt _ => dt
  | .candidateExpiry dt _ => dt
  | .conversion dt _ _ => dt
  | .wheelEdge dt _ => dt
  | .speedDecay dt _ => dt
  | .wheelStop dt _ => dt
  | .wireStateChange dt _ _ => dt
  | .wheelInputInvalid dt _ => dt
  | .wheelInputValid dt _ => dt
  | .standstillMeasurement dt => dt
  | .wakeLineLevel dt => dt
  | .runOnExpiry dt => dt
  | .raiseDue dt _ => dt
  | .raiseComplete dt _ => dt
  | .lowerComplete dt _ => dt
  | .transitionHoldEnd dt _ => dt
  | .loadSubstitution dt _ => dt
  | .autoLower dt _ => dt
  | .digitalTimeout dt => dt
  | .mismatchTimerExpiry dt => dt
  | .lockTimeout dt _ => dt
  | .holdTimerExpiry dt _ => dt
  | .inletNoRise dt _ => dt
  | .exhaustNoFall dt _ => dt
  | .deliveredInvalid dt _ => dt
  | .controlInvalid dt => dt
  | .probeTimerExpiry dt => dt
  | .rampStep dt => dt
  | .exitMeasurement dt => dt
  | .latInvalidityMeasurement dt => dt
  | .bandMeasurement dt => dt
  | .holdMeasurement dt => dt
  | .listenTimeout dt => dt
  | .wakeLineChange dt _ => dt
  | .characterReception dt _ _ => dt
  | .lossOfSupply dt => dt

/-- R156 to R159: what a request's own rule finds: the clock advanced, the pending reply clocked out, a batch read in
flight ended, and the fault detail held one request older. -/
def State.taken (s : State) (dt : Nat) : State := (s.elapse dt).clockOut.endBatch.ageDetail

/-- R157: the state with the DONE reply of a request. -/
def State.answered (s : State) (code : Nat) (data : List Byte) : State :=
  s.setPort { s.port with reply := { code := code, status := .done, data := data } }

/-- R157, R158: the state with the REFUSED or BUSY reply of a request and the fault detail it leaves. -/
def State.turnedAway (s : State) (code : Nat) (c : RefusalCode) (n : Named) : State :=
  s.setPort { s.port with
    reply := { code := code, status := if c = .busy then .busy else .refused, data := [byte c.code] }
    detail := some { request := code, refusal := some c, named := n, later := false } }

/-- The commands that are an exchange on the port (R156). -/
def isExchange (i : Instr) : Bool :=
  match i with
  | .frameError _ => true
  | .unknownRequest _ _ => true
  | i => (requestParts i).isSome

/-! ### What the offers of a change never touch -/

/-- What a position record holds of its sensor and its setpoints: everything but P_exp and the two levels. -/
structure PositionRecord.SameSensor (r x : PositionRecord) : Prop where
  state : x.state = r.state
  bound : x.bound = r.bound
  pl : x.pl = r.pl
  pe : x.pe = r.pe
  pressure : x.pressure = r.pressure
  temperature : x.temperature = r.temperature
  age : x.age = r.age
  batteryLow : x.batteryLow = r.batteryLow
  fastLoss : x.fastLoss = r.fastLoss
  silenceDue : x.silenceDue = r.silenceDue

/-- The notices that the offers of a change leave as they stand, and those they add to. -/
structure Notices.Grown (x y : Notices) : Prop where
  sensorSilent : y.sensorSilent = x.sensorSilent
  positionsRetired : y.positionsRetired = x.positionsRetired
  learnResult : y.learnResult = x.learnResult
  candidateReady : y.candidateReady = x.candidateReady
  digitalTimeout : y.digitalTimeout = x.digitalTimeout
  lockTimeout : y.lockTimeout = x.lockTimeout
  storeResult : y.storeResult = x.storeResult
  storeInvalid : y.storeInvalid = x.storeInvalid
  tyreLevel : y.tyreLevel &&& x.tyreLevel = x.tyreLevel
  pairMismatch : y.pairMismatch &&& x.pairMismatch = x.pairMismatch
  liftChange : y.liftChange &&& x.liftChange = x.liftChange
  liftConflict : y.liftConflict &&& x.liftConflict = x.liftConflict
  liftFault : y.liftFault &&& x.liftFault = x.liftFault
  stabilityAction : x.stabilityAction.isSome → y.stabilityAction.isSome
  workshopChange : x.workshopChange.isSome → y.workshopChange.isSome

/-- What the offers of a change leave as the change itself left it: the supply and the clock, the settings and the image,
the queue, the measured inputs, what the positions hold of their sensors, the learn window and the candidate list, the axle
layout, the driver's and the EMERGENCY entries, the brake mode with its cause and measurements, the last negative probe,
the wake line, the reply and the batch read, and the notices of other units. -/
structure Offers (s t : State) : Prop where
  powered : t.powered = s.powered
  now : t.now = s.now
  startedAt : t.startedAt = s.startedAt
  settings : t.settings = s.settings
  store : t.store = s.store
  pending : t.pending = s.pending
  intake : t.intake = s.intake
  analog : t.inputs.analog = s.inputs.analog
  wheels : t.inputs.wheels = s.inputs.wheels
  sensor : ∀ p, (s.position p).SameSensor (t.position p)
  layout : ∀ a, (t.axle a).layout = (s.axle a).layout
  entries : ∀ x, x ≠ .stability → x ≠ .test → t.entry x = s.entry x
  brakeMode : t.channels.mode = s.channels.mode
  cause : t.channels.cause = s.channels.cause
  controlSince : t.channels.controlSince = s.channels.controlSince
  deliveredSince : ∀ c, (t.channel c).deliveredSince = (s.channel c).deliveredSince
  lastNegative : t.stability.lastNegative = s.stability.lastNegative
  wakeRaw : t.mode.wakeRaw = s.mode.wakeRaw
  wakeRawSince : t.mode.wakeRawSince = s.mode.wakeRawSince
  wakeTaken : t.mode.wakeTaken = s.mode.wakeTaken
  reply : t.port.reply = s.port.reply
  sent : t.port.sent = s.port.sent
  detail : t.port.detail = s.port.detail
  batchSize : t.port.batchSize = s.port.batchSize
  batch : t.port.batch = s.port.batch
  notices : s.port.notices.Grown t.port.notices

/-! ### What an evaluation leaves -/

/-- R10 steps 1 to 3: a record is judged, at its readings and setpoint as they stand, from the levels of `r`. -/
structure State.JudgedFrom (u : State) (q : Position) (r : PositionRecord) : Prop where
  expected : (u.position q).expected = some (expectedPressure (u.setpointAt q) (u.position q).temperature)
  pressure : (u.position q).pressureLevel = pressureLevel r.pressureLevel (u.position q).fastLoss
    (u.position q).pressure (expectedPressure (u.setpointAt q) (u.position q).temperature)
  temperature : (u.position q).temperatureLevel =
    temperatureLevel u.settings.hotLimit r.temperatureLevel (u.position q).temperature

/-- R15: what a position joins to the TYRE LEVEL set where its levels differ from those of `r`. -/
def State.levelBit (u : State) (q : Position) (r : PositionRecord) : Mask :=
  if (u.position q).levels = r.levels then 0 else bit q.index

/-- R18: from `s` to `u` the pairs of the positions of `l` are compared, each from its state in `s` and on its members in
`u`, and no other pair changes; PAIR MISMATCH takes those that enter MISMATCHED. -/
structure State.PairsCompared (s u : State) (l : List Position) : Prop where
  compared : ∀ a sl, .road a sl ∈ l → s.pair a sl.side ≠ .notAPair →
    u.pair a sl.side = (u.setPair a sl.side (s.pair a sl.side)).comparedPair a sl.side
  kept : ∀ a sd, s.pair a sd = .notAPair ∨ (∀ sl, sl.side = sd → .road a sl ∉ l) → u.pair a sd = s.pair a sd
  notice : ∀ i, u.port.notices.pairMismatch.getLsbD i = true ↔ s.port.notices.pairMismatch.getLsbD i = true ∨
    ∃ a sd, i = pairNumber a sd ∧ u.pair a sd = .mismatched ∧ s.pair a sd ≠ .mismatched

/-- R10, R15, R18: from `s` to `u` one record is evaluated, from the levels of `r`: it is judged, a changed level sets
TYRE LEVEL, and its pair is compared. -/
structure State.Evaluated (s u : State) (q : Position) (r : PositionRecord) : Prop where
  judged : u.JudgedFrom q r
  level : u.port.notices.tyreLevel = s.port.notices.tyreLevel ||| u.levelBit q r
  pairs : s.PairsCompared u [q]

/-! ### Frames of a change before it is settled -/

/-- Only the wheel position table and the notices differ. -/
def State.OnlyTyres (s u : State) : Prop := u = (s.setTyres u.tyres).setNotices u.port.notices

/-- Only the wheel position table, the records of the LDU, the workshop record and the notices differ. -/
def State.OnlyTyresAndLifts (s u : State) : Prop :=
  u = (((s.setTyres u.tyres).setLoads u.loads).setMode u.mode).setNotices u.port.notices

/-- Only the wheel position table, the Telegram Intake and the notices differ. -/
def State.OnlyTyresAndIntake (s u : State) : Prop :=
  u = ((s.setTyres u.tyres).setIntake u.intake).setNotices u.port.notices

/-- R21: whether an index accepts a laden setpoint. -/
def State.acceptsSetpoint (s : State) (index v : Nat) : Bool :=
  match Position.ofIndex index with
  | none => false
  | some q =>
    s.positionExists q && decide (300 ≤ v) && decide (v ≤ 1200) &&
      match (s.position q).pe with
      | none => true
      | some e => decide (e ≤ v)

end Sys2Proof.Machine
end

