-- ==== Sys2Proof/WellFormed.lean ====
section
/-! DEFINITION. Which terms of `Instr` stand for a command the outside can give: the parameter part of a frame is one byte
of count and 28 bytes (R167), a reading is 0 to 5000 mV (3.1), an unknown request has a code no request has (R157). -/
namespace Sys2Proof

/-- R167: a count of one byte, and 28 parameter bytes. -/
def Params.wf (p : Params) : Bool := decide (p.count < 256) && decide (p.bytes.length = 28)

/-- The check of a command. -/
def Instr.wf (i : Instr) : Bool :=
  match i with
  | .unknownRequest dt code => (requestOfCode code.toNat dt ⟨0, []⟩).isNone
  | .conversion _ _ mv => decide (mv ≤ 5000)
  | i =>
    match requestParts i with
    | some (_, p) => p.wf
    | none => true

end Sys2Proof
end

