-- ==== Sys2Proof/Certificates/Slice0/Obligations.lean ====
section
/-! DEFINITION. The statements for the provers: what the frames spell, the laws every step keeps, the formulas of the
manual, and what each command does to the state. A request finds the state `s.taken dt` (R156 to R159); `s.settle` makes
the offers of a change to the other units (notes 5), and what those never touch is a statement of its own. -/
open Sys2Proof Sys2Proof.Machine

/-! ### The step -/

/-- A step carries out the command at the front of the queue on the state with the queue's rest. On an empty queue the part
idles: that is the model's choice, notes 8. -/
def Obligations.StepTakesTheFrontCommand : Prop :=
  (∀ (c : Instr) (rest : List Instr) (s : State), step (s.setPending (c :: rest)) = exec c (s.setPending rest)) ∧
    ∀ s : State, s.pending = [] → step s = .next s

/-- The reset state is what a power-on gives on an erased image, with the wake line HIGH and every wire SOUND; these
three are the model's choice, notes 6, and so is the lift-valve bit of the default axles, notes 55. -/
def Obligations.ResetIsAPowerOn : Prop := exec (.powerOn 0 true (.all true)) State.reset = .next State.reset

/-- Every law that the statements below say a step keeps holds in the reset state. -/
def Obligations.LawsHoldAtReset : Prop :=
  State.reset.limitLaw ∧ State.reset.loadLaw ∧ State.reset.entryLaw ∧ State.reset.candidateLaw ∧
    State.reset.ModeLaws ∧ State.reset.TableLaws ∧ State.reset.RangeLaws ∧ State.reset.formedLaw ∧
    State.reset.pressureLaw

/-! ### Frames and telegrams -/

/-- R167, R29: frames and a telegram written out from the layouts spell their commands and fields. -/
def Obligations.WrittenFramesAndTelegramSpellTheirFields : Prop :=
  (∀ dt, commandOfExchange dt ([0x50#8, 0x02#8, 0x01#8, 0x3E#8] ++ List.replicate 26 0#8 ++ [0x17#8, 0xE9#8]) =
      .postDemand dt ⟨2, [0x01#8, 0x3E#8] ++ List.replicate 26 0#8⟩) ∧
    (∀ dt, commandOfExchange dt ([0x27#8, 0x02#8, 0x01#8, 0x02#8] ++ List.replicate 26 0#8 ++ [0xD9#8, 0x6C#8]) =
      .swapPositions dt ⟨2, [0x01#8, 0x02#8] ++ List.replicate 26 0#8⟩) ∧
    (∀ dt, commandOfExchange dt ([0x77#8] ++ List.replicate 29 0#8 ++ [0xD0#8, 0xAB#8]) = .unknownRequest dt 0x77#8) ∧
    telegramOf [0x5A#8, 0x01#8, 0xC3#8, 0xE7#8, 0x01#8, 0x03#8, 0x0C#8, 0x44#8, 0x80#8, 0x4C#8] =
      some
        { id := 0x5A01C3E7#32, kind := .sensor .valve, pressure := some 780, temperature := some 18, triggered := true,
          fastLoss := false, batteryLow := false, rotating := false }

/-- R157, R167: the frame of a request spells that request, with every parameter byte, and a frame that spells a request
is that request's frame. -/
def Obligations.FramesSpellTheirRequests : Prop :=
  (∀ (code dt : Nat) (p : Params) (i : Instr), p.wf = true → requestOfCode code dt p = some i →
      encode i = some (requestFrame code p) ∧ commandOfExchange dt (requestFrame code p) = i) ∧
    ∀ (dt : Nat) (frame : List Byte), (requestParts (commandOfExchange dt frame)).isSome = true →
      encode (commandOfExchange dt frame) = some frame

/-- R156, R157, R167: an exchange is a frame error exactly when its frame has not 32 bytes or fails its check; every other
exchange spells a well-formed request, whose code, count and parameters are those of the frame, or the unknown request
of its first byte. A reply has 32 bytes: the code answered, the status in its codes 0 to 5, the data count, the data,
unused bytes zero (the model's choice, notes 59), and the check over the first thirty. -/
def Obligations.FramesAreJudgedAndFormed : Prop :=
  (∀ (dt : Nat) (frame : List Byte),
    (commandOfExchange dt frame = .frameError dt ↔
      frame.length ≠ 32 ∨ frame.drop 30 ≠ frameCheck (frame.take 30)) ∧
    (commandOfExchange dt frame).wf = true ∧ isExchange (commandOfExchange dt frame) = true ∧
    commandTime (commandOfExchange dt frame) = dt ∧
    (∀ code p, requestParts (commandOfExchange dt frame) = some (code, p) →
      frame.take 2 = [byte code, byte p.count] ∧ code < 256 ∧ p.count < 256 ∧ p.bytes = (frame.take 30).drop 2) ∧
    (∀ k c, commandOfExchange dt frame = .unknownRequest k c →
      frame.head? = some c ∧ ∀ p, requestOfCode c.toNat dt p = none)) ∧
  [Status.none, .done, .stopped, .refused, .busy, .frameError].map Status.code = [0, 1, 2, 3, 4, 5] ∧
  ∀ (code : Nat) (st : Status) (data : List Byte), data.length ≤ 27 →
    (Reply.frame ⟨code, st, data⟩).take 30 =
        [byte code, byte st.code, byte data.length] ++ data ++ List.replicate (27 - data.length) 0#8 ∧
      (Reply.frame ⟨code, st, data⟩).drop 30 = frameCheck ((Reply.frame ⟨code, st, data⟩).take 30) ∧
      (Reply.frame ⟨code, st, data⟩).length = 32

/-! ### Laws that every step keeps -/

/-- R131, R68: every step keeps the live and the frozen rollover limit between 200 and 700 mg, and every group's load ratio
between 0 and 1000. -/
def Obligations.LimitsAndLoadRatiosStayInRange : Prop :=
  (∀ s t : State, s.limitLaw → step s = .next t → t.limitLaw) ∧
    ∀ s t : State, s.loadLaw → step s = .next t → t.loadLaw

/-- R45, R87, R92, R111: every step keeps at most one entry per source in the demand table, the candidate list within 16
entries, no two of them with one ID, and every pressure that an entry of any of the five sources holds within 1000. -/
def Obligations.TableAndCandidatesStayWithinBounds : Prop :=
  (∀ s t : State, s.entryLaw → step s = .next t → t.entryLaw) ∧
    (∀ s t : State, s.candidateLaw → step s = .next t → t.candidateLaw) ∧
    ∀ s t : State, s.pressureLaw → s.loadLaw → step s = .next t → t.pressureLaw

/-- R123, R94, R101, R153, R82: every step keeps, all of them together, the laws of FALLBACK, of the workshop and of WATCH, in
which no raise is pending or due; the law that no liftable axle is UP or RAISING while a STABILITY entry stands in the
demand table; and what these rest on: the entry stands, and a ramp runs, only in PROBING, INTERVENING or RECOVERING, in
which no axle is lifted, and the STU is IDLE while the workshop record is not OFF. -/
def Obligations.ModesStayLawful : Prop := ∀ s t : State, s.ModeLaws → step s = .next t → t.ModeLaws

/-- R3, R4, R6, R35: every step keeps the laws of the wheel position table: a position that does not exist is EMPTY, a
binding stands exactly in the bound states, no ID is bound twice or is a candidate too, and a position is LEARNING exactly
while the learn window is open on it. -/
def Obligations.TableStaysLawful : Prop := ∀ s t : State, s.TableLaws → step s = .next t → t.TableLaws

/-- R2, R9, R55, R67, R104, R129, R159: every step keeps the parameters, the setpoints and the batch size in their
ranges. -/
def Obligations.ParametersStayInRange : Prop := ∀ s t : State, s.RangeLaws → step s = .next t → t.RangeLaws

/-- R92, R95, R106: every step keeps P_d and the brake ratios as the entries, the mismatch record and the loads give them,
and the pressure of an EMERGENCY entry at 1000. -/
def Obligations.DriverDemandAndRatiosStayFormed : Prop := ∀ s t : State, s.formedLaw → step s = .next t → t.formedLaw

/-! ### The whole part -/

/-- Every command ends in a next state; the clock has gone on by the command's time and the queue is as it was. R170: without
supply there is no operation, and only the clock goes on: the model's reading, notes 9. -/
def Obligations.EveryCommandEnds : Prop :=
  (∀ (i : Instr) (s : State), ∃ t, exec i s = .next t ∧ t.now = s.now + commandTime i ∧ t.pending = s.pending) ∧
    ∀ (i : Instr) (s : State), s.powered = false → (∀ dt w x, i ≠ .powerOn dt w x) →
      exec i s = .next (s.elapse (commandTime i))

/-- The offers of a change leave what `Offers` lists as the change itself left it. The order of the offers and the number
of their rounds are the model's choice, notes 5. -/
def Obligations.SettlingTouchesOnlyWhatFollows : Prop := ∀ s : State, Offers s s.settle

/-- R60, R95 to R98, R111, R54, R69, R123: a settled change has the reference speed, P_d, the braking condition, and every
channel's target and driver-derived part formed from what they follow, the mismatch record taken on with the difference
and the watch, and the level notices set where their conditions hold. That the end of a change forms these values once more
is part of the model's choice of rounds, notes 5. -/
def Obligations.SettlingFormsTheDriverDemand : Prop :=
  ∀ s : State,
    s.settle.inputs.reference = s.settle.formedReference ∧
    s.settle.demands.driver = s.settle.formedDriver ∧
    s.settle.demands.braking = s.settle.formedBraking ∧
    (s.settle.formedBraking = true ↔ 20 ≤ s.settle.demands.driver ∨ s.settle.hasEntry .emergency = true ∨
      s.settle.hasEntry .stability = true ∨ s.settle.hasEntry .test = true) ∧
    (∀ c, (s.settle.channel c).target = s.settle.formedTarget c ∧
      (s.settle.channel c).driverPart = s.settle.formedDriverPart c) ∧
    (s.mismatchWatched = false → s.settle.demands.mismatch = .agreed) ∧
    (s.mismatchWatched = true → 80 < s.demandGap →
      s.settle.demands.mismatch =
        (if s.demands.mismatch = .agreed ∨ s.demands.mismatch = .diverging then .diverging else .inForce)) ∧
    (s.mismatchWatched = true → s.demandGap ≤ 80 →
      s.settle.demands.mismatch =
        (if s.demands.mismatch = .agreed ∨ s.demands.mismatch = .diverging then .agreed else .converging)) ∧
    s.settle.port.notices.demandMismatch = s.settle.mismatchInForce ∧
    s.settle.port.notices.supplyLow = s.settle.supplyBelow ∧
    s.settle.port.notices.inputFault = s.settle.anyInputFault ∧
    s.settle.port.notices.loadHeld = s.settle.anyLoadHeld ∧
    s.settle.port.notices.brakeFallback = decide (s.settle.channels.mode = .fallback)

/-- The parameters, the axle layout, the setpoints and the stored image change by the commands that write them and by no
other. -/
def Obligations.OnlyWritesChangeTheConfiguration : Prop :=
  ∀ (i : Instr) (s t : State), exec i s = .next t →
    (writesSettings i = false → t.settings = s.settings) ∧
    (writesLayout i = false → ∀ a, (t.axle a).layout = (s.axle a).layout) ∧
    (writesSetpoints i = false → ∀ p, (t.position p).pl = (s.position p).pl ∧ (t.position p).pe = (s.position p).pe) ∧
    (writesStore i = false → t.store = s.store)

/-- R6: a sensor is bound, moved or dropped by the ways the manual lists and by no other. -/
def Obligations.OnlyBindingCommandsBind : Prop :=
  ∀ (i : Instr) (s t : State), s.bindingLaw → s.learnLaw → exec i s = .next t → writesBindings i = false →
    ∀ p, (t.position p).bound = (s.position p).bound

/-- R61, R123, R124, R152, R154: the brake mode goes to FALLBACK on its four causes alone, with the cause in the record;
in FALLBACK the record keeps the first cause; the return is by Clear Brake Fault or a power-on. The part enters WATCH by
the expiry of the run-on timer alone, and, where no raise is pending or due in WATCH (a law that every step keeps,
ModesStayLawful), leaves it by a wake line taken as HIGH, by an entry into MOVING, by a Restart or by a power-on alone. -/
def Obligations.ModesChangeByTheirCauses : Prop :=
  ∀ (i : Instr) (s t : State), exec i s = .next t →
    (s.channels.mode = .electronic → t.channels.mode = .fallback →
      (causeOf i).isSome = true ∧ t.channels.cause = causeOf i) ∧
    (s.channels.mode = .fallback → t.channels.mode = .fallback → t.channels.cause = s.channels.cause) ∧
    (s.channels.mode = .fallback → t.channels.mode = .electronic → restoresBrakes i = true) ∧
    (s.mode.power ≠ .watch → t.mode.power = .watch → ∃ dt, i = .runOnExpiry dt) ∧
    (s.asleepLaw → s.mode.power = .watch → t.mode.power ≠ .watch →
      ((∃ dt, i = .wakeLineLevel dt) ∧ t.mode.wakeTaken = true) ∨
      (s.inputs.motion ≠ .moving ∧ t.inputs.motion = .moving) ∨
      (∃ dt p, i = .restart dt p) ∨ ∃ dt high wires, i = .powerOn dt high wires)

/-- R156, R159: every exchange clocks the pending reply out, the exchange of a Restart among them, and an accepted Restart
leaves NONE as the reply; a command that is no exchange leaves the reply, the fault detail and the batch read as they
stand. The field `sent` is the model's own (notes 28); that R103, which calls the reply to a Post Demand lost in a Restart,
leaves R156 as it stands is the model's reading (notes 28). -/
def Obligations.ExchangesClockTheReplyOut : Prop :=
  ∀ (i : Instr) (s t : State), s.powered = true → exec i s = .next t →
    (isExchange i = true → t.port.sent = s.port.reply) ∧
    (∀ dt p, i = .restart dt p → p.count = 0 → s.store.saving = none → t.port.reply = .empty) ∧
    (isExchange i = false → (∀ dt w x, i ≠ .powerOn dt w x) →
      t.port.reply = s.port.reply ∧ t.port.sent = s.port.sent ∧ t.port.detail = s.port.detail ∧
        t.port.batch = s.port.batch ∧ t.port.batchSize = s.port.batchSize)

/-- R87: the DIGITAL, PNEUMATIC and EMERGENCY entries are never changed by an event of another source. -/
def Obligations.EntriesFollowTheirOwnSource : Prop :=
  ∀ (i : Instr) (s t : State) (x : Source), exec i s = .next t → x ≠ .stability → x ≠ .test →
    writesEntry x i = false → t.entry x = s.entry x

/-! ### Formulas -/

/-- R11, R12: the effective setpoint of a spare, of a position without a light setpoint, and of one with it; the expected
pressure over its whole range, with T 20 where no temperature is held, and the ratio q. -/
def Obligations.ExpectedPressureIsFormed : Prop :=
  (∀ (s : State) (p : Position),
    (isSpare p = true → s.setpointAt p = (s.position p).pl) ∧
    (isSpare p = false → (s.position p).pe = none → s.setpointAt p = (s.position p).pl) ∧
    (∀ a sl e, p = .road a sl → (s.position p).pe = some e →
      s.setpointAt p = e + ((s.position p).pl - e) *
        (if (s.axle a).lift = .down then (s.group (s.axle a).layout.group).l else 0) / 1000) ∧
    (s.loadLaw → ∀ e, isSpare p = false → (s.position p).pe = some e → e ≤ (s.position p).pl →
      e ≤ s.setpointAt p ∧ s.setpointAt p ≤ (s.position p).pl)) ∧
  ∀ (pSet : Nat) (T : Int), 300 ≤ pSet → pSet ≤ 1200 → -40 ≤ T → T ≤ 150 →
    ((expectedPressure pSet (some T) : Nat) : Int) = (((pSet : Int) + 100) * (T + 273)) / 293 - 100 ∧
    218 ≤ expectedPressure pSet (some T) ∧ expectedPressure pSet (some T) ≤ 1776 ∧
    expectedPressure pSet none = expectedPressure pSet (some 20) ∧ expectedPressure pSet none = pSet ∧
    ∀ last, pressureRatio last (expectedPressure pSet (some T)) = last * 1000 / expectedPressure pSet (some T)

/-- R13, R14: the temperature level for every level before, and the pressure level for every level before and every
ratio q. -/
def Obligations.TyreLevelTables : Prop :=
  (∀ (hot : Nat) (T : Int),
    (temperatureLevel hot .normal (some T) = .hot ↔ (hot : Int) ≤ T) ∧
    (temperatureLevel hot .normal (some T) = .normal ↔ T < (hot : Int)) ∧
    (temperatureLevel hot .hot (some T) = .normal ↔ T ≤ (hot : Int) - 5) ∧
    (temperatureLevel hot .hot (some T) = .hot ↔ (hot : Int) - 5 < T) ∧
    ∀ now, temperatureLevel hot now none = now) ∧
  ∀ (now : PressureLevel) (last : Option Nat) (expected q : Nat),
    pressureLevel now true last expected = .lowAlarm ∧
    pressureLevel now false none expected = now ∧
    (∀ v, pressureRatio v expected = q → pressureLevel now false (some v) expected =
      if q < 700 then .lowAlarm
      else if q < 730 then (if now = .lowAlarm then .lowAlarm else .lowWarning)
      else if q < 800 then .lowWarning
      else if q < 830 then (if now = .lowAlarm ∨ now = .lowWarning then .lowWarning else .lowAdvisory)
      else if q < 900 then .lowAdvisory
      else if q < 930 then
        (if now = .lowAlarm ∨ now = .lowWarning ∨ now = .lowAdvisory then .lowAdvisory else .none)
      else if q ≤ 1220 then .none
      else if q ≤ 1250 then (if now = .highAdvisory then .highAdvisory else .none)
      else .highAdvisory)

/-- R18: a pair is UNORDERED where either member is not LIVE, holds no pressure or is older than half the silence timeout;
a judged pair follows the difference, and an entry into MISMATCHED sets its notice. -/
def Obligations.PairComparisonTable : Prop :=
  ∀ (s : State) (a : AxleId) (sd : Side),
    (∀ sl, sl = sd.inner ∨ sl = sd.outer →
      (s.position (.road a sl)).state ≠ .live ∨ (s.position (.road a sl)).pressure = none ∨
        s.silenceTimeout / 2 < (s.position (.road a sl)).age.getD 0 →
      s.comparedPair a sd = .unordered) ∧
    (∀ i o, (s.position (.road a sd.inner)).state = .live → (s.position (.road a sd.outer)).state = .live →
      (s.position (.road a sd.inner)).pressure = some i → (s.position (.road a sd.outer)).pressure = some o →
      (s.position (.road a sd.inner)).age.getD 0 ≤ s.silenceTimeout / 2 →
      (s.position (.road a sd.outer)).age.getD 0 ≤ s.silenceTimeout / 2 →
      s.comparedPair a sd =
        if s.settings.pairDelta < absDiff i o then .mismatched
        else if s.pair a sd = .mismatched ∧ s.settings.pairDelta < absDiff i o + 20 then .mismatched
        else .matched) ∧
    (s.pair a sd ≠ .notAPair →
      (s.comparePair a sd).pair a sd = s.comparedPair a sd ∧
      ((s.comparePair a sd).port.notices.pairMismatch =
        if s.comparedPair a sd = .mismatched ∧ s.pair a sd ≠ .mismatched then
          s.port.notices.pairMismatch ||| bit (pairNumber a sd)
        else s.port.notices.pairMismatch)) ∧
    (s.pair a sd = .notAPair → s.comparePair a sd = s)

/-- R50: the converted value and the band of a reading. -/
def Obligations.ConversionsAreFormed : Prop :=
  ∀ (i : AnalogId) (mv : Nat), i ≠ .lat →
    (mv ≤ 500 → convertedValue i mv = 0) ∧
    (500 ≤ mv → mv ≤ 4500 → convertedValue i mv = (((mv - 500) * 1000 / 4000 : Nat) : Int)) ∧
    (4500 ≤ mv → convertedValue i mv = 1000) ∧
    (inBandReading i mv = true ↔ 250 ≤ mv ∧ mv ≤ 4750) ∧
    (mv ≤ 500 → convertedValue .lat mv = -2000) ∧
    (500 ≤ mv → mv ≤ 4500 → convertedValue .lat mv = (mv : Int) - 2500) ∧
    (4500 ≤ mv → convertedValue .lat mv = 2000) ∧
    (inBandReading .lat mv = true ↔ 300 ≤ mv ∧ mv ≤ 4700)

/-- R68, R106: the load and the load ratio of a bellows average, their clamps, their ends and their growth; the brake ratio,
between the empty ratio and 1000, which never falls as the load ratio rises. -/
def Obligations.LoadsAndRatiosAreFormed : Prop :=
  (∀ (c : Calibration) (p p' : Int), c.pe < c.pl → c.we < c.wl → c.wl ≤ 3000 →
    ((loadW c p : Nat) : Int) =
        max 0 (min 3000 ((c.we : Int) + Int.tdiv ((p - c.pe) * ((c.wl : Int) - c.we)) ((c.pl : Int) - c.pe))) ∧
    ((loadL c (loadW c p) : Nat) : Int) =
        max 0 (min 1000 (Int.tdiv (1000 * (((loadW c p : Nat) : Int) - c.we)) ((c.wl : Int) - c.we))) ∧
    loadW c p ≤ 3000 ∧ loadL c (loadW c p) ≤ 1000 ∧
    loadW c c.pe = c.we ∧ loadL c (loadW c c.pe) = 0 ∧ loadW c c.pl = c.wl ∧ loadL c (loadW c c.pl) = 1000 ∧
    (p ≤ p' → loadW c p ≤ loadW c p' ∧ loadL c (loadW c p) ≤ loadL c (loadW c p'))) ∧
  ∀ (re l l' : Nat), re ≤ 1000 → l ≤ 1000 →
    brakeRatio re l = re + (1000 - re) * l / 1000 ∧ re ≤ brakeRatio re l ∧ brakeRatio re l ≤ 1000 ∧
    brakeRatio re 0 = re ∧ brakeRatio re 1000 = 1000 ∧ (l ≤ l' → brakeRatio re l ≤ brakeRatio re l')

/-- R107: the load-dependent pressure, with every consequence the manual draws from it. -/
def Obligations.LoadDependentPressureIsFormed : Prop :=
  ∀ (knee ratio p : Nat), ratio ≤ 1000 → p ≤ 1000 →
    (p ≤ knee → loadDependent knee ratio p = p) ∧
    (knee < p → loadDependent knee ratio p = knee + ((p - knee) * ratio + 500) / 1000) ∧
    loadDependent knee ratio p ≤ p ∧ loadDependent knee ratio p ≤ 1000 ∧ loadDependent knee 1000 p = p ∧
    (knee < p → knee ≤ loadDependent knee ratio p) ∧
    loadDependent knee ratio knee = knee ∧
    loadDependent knee ratio (knee + 1) = (if ratio < 500 then knee else knee + 1) ∧
    (∀ p', p ≤ p' → loadDependent knee ratio p ≤ loadDependent knee ratio p') ∧
    (∀ ratio', ratio ≤ ratio' → loadDependent knee ratio p ≤ loadDependent knee ratio' p) ∧
    loadDependent 0 ratio p = (p * ratio + 500) / 1000

/-- R108 to R111: a target is the largest candidate under the supply bound, 0 without serving axles; the candidates are the
load-dependent pressures of P_d and of a standing EMERGENCY entry, and what the STABILITY and TEST entries hold for the
channel. A target never exceeds 1000, nor the largest pressure that an entry of the table holds for that channel, and with
an empty table it is 0. -/
def Obligations.TargetsStayWithinTheEntries : Prop :=
  ∀ (s : State) (c : ChannelId),
    (s.servingAxles c = [] → s.formedTarget c = 0 ∧ s.formedDriverPart c = 0) ∧
    (∀ a rest g, s.servingAxles c = a :: rest → g = (s.axle a).layout.group →
      s.formedTarget c = min (s.largestCandidate c g) s.supplyBound ∧
      s.formedDriverPart c = min (s.ldp g s.demands.driver) s.supplyBound) ∧
    (∀ g, s.largestCandidate c g =
      max (max (loadDependent s.settings.knee (s.group g).ratio s.demands.driver)
          (if (s.entry .emergency).isSome then loadDependent s.settings.knee (s.group g).ratio 1000 else 0))
        (max (((s.entry .stability).map fun e => e.demand.forChannel c).getD 0)
          (((s.entry .test).map fun e => e.demand.forChannel c).getD 0))) ∧
    (∀ v, s.pressureOf .sup = some v → s.supplyBound = v - 20) ∧
    (s.pressureOf .sup = none → s.supplyBound = 1000) ∧
    s.formedTarget c ≤ s.supplyBound ∧
    (s.RangeLaws → s.loadLaw → s.formedLaw →
      (s.demands.table = [] → s.formedTarget c = 0) ∧
      (s.demands.table ≠ [] → ∃ e ∈ s.demands.table, s.formedTarget c ≤ e.demand.largest) ∧
      (s.pressureLaw → s.formedTarget c ≤ 1000 ∧
        (s.demands.table ≠ [] → ∃ e ∈ s.demands.table, s.formedTarget c ≤ e.demand.forChannel c)))

/-- R131: the limit, its thresholds and its clamps; more load or a derate never raises it. -/
def Obligations.RolloverLimitIsFormed : Prop :=
  ∀ (x : Settings) (lr lr' d d' : Nat), x.InRange → lr ≤ 1000 → lr' ≤ 1000 →
    x.stability.heightEmpty ≤ heightInUse x.stability lr ∧ heightInUse x.stability lr ≤ x.stability.heightLaden ∧
    1000 ≤ heightInUse x.stability lr ∧
    staticThreshold x.stability lr = 1000 * x.stability.halfTrack /
      (x.stability.heightEmpty + (x.stability.heightLaden - x.stability.heightEmpty) * lr / 1000) ∧
    rolloverLimit x.stability lr d =
      max 200 (min 700 (staticThreshold x.stability lr * x.stability.margin / 1000 - d)) ∧
    (lr ≤ lr' → d ≤ d' → rolloverLimit x.stability lr' d' ≤ rolloverLimit x.stability lr d) ∧
    exitThreshold (rolloverLimit x.stability lr d) < probeThreshold (rolloverLimit x.stability lr d) ∧
    probeThreshold (rolloverLimit x.stability lr d) < rolloverLimit x.stability lr d

/-! ### The port and the notices -/

/-- R157, R163, R173, R162, R159: a frame error leaves FRAME ERROR as the reply and nothing else; an unknown request is
refused; No Operation, Identify, Set Reset Policy, Set Notice Enables and Set Batch Size answer and write what they name. -/
def Obligations.PortRequestsAreAnswered : Prop :=
  ∀ (dt : Nat) (p : Params) (s : State), s.powered = true →
    (exec (.frameError dt) s =
      .next ((s.elapse dt).setPort
        { s.port with sent := s.port.reply, reply := { code := 0, status := .frameError, data := [] } })) ∧
    (∀ code, exec (.unknownRequest dt code) s =
      .next ((s.taken dt).turnedAway code.toNat .unknownRequest unnamed)) ∧
    (p.count = 0 → exec (.noOperation dt p) s = .next ((s.taken dt).answered 0x01 [])) ∧
    (p.count = 0 → exec (.identify dt p) s =
      .next ((s.taken dt).answered 0x02
        ([Config.familyCode, 0x02, 0x08, Config.revision, 22, 16, 5, 2, 3, 6, Config.storeFormat,
          if s.settings.third then 1 else 0, if s.settings.policy = .keep then 0 else 1] ++
          bytes3 s.settings.enables.toNat))) ∧
    (p.count = 1 → byteAt p 0 = 0 → exec (.setResetPolicy dt p) s =
      .next (((s.taken dt).setSettings { s.settings with policy := .keep }).answered 0x05 [])) ∧
    (p.count = 1 → byteAt p 0 = 1 → exec (.setResetPolicy dt p) s =
      .next (((s.taken dt).setSettings { s.settings with policy := .restore }).answered 0x05 [])) ∧
    (p.count = 1 → 1 < byteAt p 0 → exec (.setResetPolicy dt p) s =
      .next ((s.taken dt).turnedAway 0x05 .badParameter unnamed)) ∧
    (p.count = 3 → ∃ m : BitVec 20,
      m.toNat = (byteAt p 0 * 65536 + byteAt p 1 * 256 + byteAt p 2) % 1048576 ∧
      exec (.setNoticeEnables dt p) s =
        .next (((s.taken dt).setSettings { s.settings with enables := m }).answered 0x11 [])) ∧
    (p.count = 1 → byteAt p 0 = 1 ∨ byteAt p 0 = 2 → exec (.setBatchSize dt p) s =
      .next (((s.taken dt).setPort { (s.taken dt).port with batchSize := byteAt p 0 }).answered 0x23 [])) ∧
    (p.count = 1 → ¬(byteAt p 0 = 1 ∨ byteAt p 0 = 2) → exec (.setBatchSize dt p) s =
      .next ((s.taken dt).turnedAway 0x23 .badParameter unnamed))

/-- R158, R167: Fault Detail gives the detail held and discards it, in seven bytes: the request code, the refusal code
or 0 for PARTIAL, the parameter's offset, the object's type and number, and the limiting value, each FF where there is
none (for the object number that is the model's choice, notes 20); where none is held it is refused and leaves none. Any
other request but Restart leaves its own detail where it is refused or PARTIAL; carried out, it makes the detail held
one request older and discards one that was older already. A frame error is no request and leaves the detail. -/
def Obligations.FaultDetailIsKeptForOneRequest : Prop :=
  ∀ (dt : Nat) (p : Params) (s : State), s.powered = true → p.count = 0 →
    (∀ d, s.port.detail = some d → exec (.faultDetail dt p) s =
      .next (((s.elapse dt).setPort
        { s.port with sent := s.port.reply, batch := .idle, detail := none }).answered 0x03 d.data)) ∧
    (s.port.detail = none → exec (.faultDetail dt p) s =
      .next ((s.elapse dt).setPort
        { s.port with
          sent := s.port.reply, batch := .idle,
          reply := { code := 0x03, status := .refused, data := [2] } })) ∧
    [RefusalCode.unknownRequest, .badParameter, .notPermitted, .busy, .notAwake, .noSuchRecord, .conflict].map
      RefusalCode.code = [1, 2, 3, 4, 5, 6, 7] ∧
    (∀ d : FaultDetail, ∃ refusal parameter kind number high low : Byte,
      d.data = [byte d.request, refusal, parameter, kind, number, high, low] ∧
      (d.refusal = none → refusal = 0x00#8) ∧ (∀ c, d.refusal = some c → refusal = byte c.code) ∧
      (d.named.parameter = none → parameter = 0xFF#8) ∧ (∀ o, d.named.parameter = some o → parameter = byte o) ∧
      (d.named.object = none → kind = 0x00#8 ∧ number = 0xFF#8) ∧
      (∀ n, d.named.object = some (.position n) → kind = 0x01#8 ∧ number = byte n) ∧
      (∀ n, d.named.object = some (.axle n) → kind = 0x03#8 ∧ number = byte n) ∧
      (∀ n, d.named.object = some (.input n) → kind = 0x06#8 ∧ number = byte n) ∧
      (d.named.limit = none → high = 0xFF#8 ∧ low = 0xFF#8) ∧
      (∀ v, d.named.limit = some v → high = byte (v / 256) ∧ low = byte v)) ∧
    (∀ d, s.port.detail = some d → d.later = false →
      ∃ t, exec (.noOperation dt p) s = .next t ∧ t.port.detail = some { d with later := true }) ∧
    (∀ d, s.port.detail = some d → d.later = true →
      ∃ t, exec (.noOperation dt p) s = .next t ∧ t.port.detail = none) ∧
    (∀ (i : Instr) (t : State), isExchange i = true → (∀ k q, i ≠ .faultDetail k q) → (∀ k q, i ≠ .restart k q) →
      (∀ k, i ≠ .frameError k) → exec i s = .next t →
      (∀ code q, requestParts i = some (code, q) → t.port.reply.code = code) ∧
      (∀ k code, i = .unknownRequest k code → t.port.reply.code = code.toNat) ∧
      (t.port.reply.status = .done →
        (s.port.detail = none → t.port.detail = none) ∧
        (∀ d, s.port.detail = some d → d.later = false → t.port.detail = some { d with later := true }) ∧
        ∀ d, s.port.detail = some d → d.later = true → t.port.detail = none) ∧
      (t.port.reply.status ≠ .done →
        ∃ d, t.port.detail = some d ∧ d.request = t.port.reply.code ∧ d.later = false)) ∧
    ∃ t, exec (.frameError dt) s = .next t ∧ t.port.detail = s.port.detail ∧ t.port.batch = s.port.batch

/-- R159, R167: Read Positions, Read Candidates and Continue answer with one batch and the number of summaries still to
come, and leave the place of the next one; any batch read ends with its last summary. The summaries of a position, in 13
bytes, and of a candidate, in 10, hold their fields in their codes, FF where a value is absent; that the time left in
LEARNING is truncated is the model's choice, notes 7. -/
def Obligations.BatchReadsAreFormed : Prop :=
  ([PositionState.empty, .learning, .awaiting, .live, .silent, .faulted].map PositionState.code = [0, 1, 2, 3, 4, 5] ∧
    [SensorKind.valve, .rim, .tread].map SensorKind.code = [1, 2, 3] ∧
    [PressureLevel.none, .lowAdvisory, .lowWarning, .lowAlarm, .highAdvisory].map PressureLevel.code =
      [0, 1, 2, 3, 4] ∧
    [PairState.notAPair, .matched, .mismatched, .unordered].map PairState.code = [0, 1, 2, 3]) ∧
  (∀ (c : Candidate) (id : Nat), c.bound.id.toNat = id → ∃ high low : Byte, c.summary =
      [byte (id / 16777216), byte (id / 65536), byte (id / 256), byte id, byte c.bound.kind.code, byte c.sightings,
        byte (c.age / 256), byte c.age, high, low] ∧
      (c.pressure = none → high = 0xFF#8 ∧ low = 0xFF#8) ∧
      (∀ v, c.pressure = some v → high = byte (v / 256) ∧ low = byte v)) ∧
  (∀ (s : State) (q : Position) (r : PositionRecord), s.position q = r →
    ∃ (state kind temperature flags : Byte) (id pressure age : List Byte),
      s.positionSummary q = [byte q.index, state] ++ id ++ [kind] ++ pressure ++ [temperature] ++ age ++ [flags] ∧
      (s.positionSummary q).length = 13 ∧
      (s.positionExists q = true → state = byte r.state.code) ∧ (s.positionExists q = false → state = 0xFF#8) ∧
      (r.bound = none → id = [0, 0, 0, 0] ∧ kind = 0x00#8) ∧
      (∀ b n, r.bound = some b → b.id.toNat = n →
        id = [byte (n / 16777216), byte (n / 65536), byte (n / 256), byte n] ∧ kind = byte b.kind.code) ∧
      (r.pressure = none → pressure = [0xFF, 0xFF]) ∧
      (∀ v, r.pressure = some v → pressure = [byte (v / 256), byte v]) ∧
      (r.temperature = none → temperature = 0xFF#8) ∧
      (∀ t, r.temperature = some t → temperature = byte (t + 50).toNat) ∧
      (∀ w left, r.state = .learning → s.intake.window = some w → left = (w.openedAt + 120000000 - s.now) / 1000000 →
        age = [byte (left / 256), byte left]) ∧
      (r.state ≠ .learning ∨ s.intake.window = none →
        (r.age = none → age = [0xFF, 0xFF]) ∧ (∀ v, r.age = some v → age = [byte (v / 256), byte v])) ∧
      flags = byte (r.pressureLevel.code + (if r.temperatureLevel = .hot then 8 else 0) +
        (if r.batteryLow then 16 else 0) + (if r.fastLoss then 32 else 0) +
        64 * (match q with | .road a sl => (s.pair a sl.side).code | .sp1 => 0 | .sp2 => 0))) ∧
  ∀ (dt : Nat) (p : Params) (s : State), s.powered = true →
    (∀ start count last k, p.count = 2 → byteAt p 0 = start → byteAt p 1 = count → start ≤ 21 → start + count ≤ 22 →
      last = (if count = 0 then 21 else start + count - 1) → k = min s.port.batchSize (last + 1 - start) →
      exec (.readPositions dt p) s =
        .next (((s.taken dt).setPort
          { (s.taken dt).port with
            batch := if last + 1 - start = k then .idle else .positions (start + k) last }).answered 0x22
          (byte (last + 1 - (start + k)) ::
            ((Position.list.drop start).take k).flatMap (s.taken dt).positionSummary))) ∧
    (p.count = 2 → 21 < byteAt p 0 ∨ 22 < byteAt p 0 + byteAt p 1 →
      exec (.readPositions dt p) s = .next ((s.taken dt).turnedAway 0x22 .badParameter unnamed)) ∧
    (∀ k, p.count = 0 → k = min 2 s.intake.candidates.length → exec (.readCandidates dt p) s =
      .next (((s.taken dt).setPort
        { (s.taken dt).port with
          batch := if s.intake.candidates.length = k then .idle else .candidates (1 + k) }).answered 0x32
        (byte (s.intake.candidates.length - k) ::
          (s.intake.candidates.take k).flatMap Candidate.summary))) ∧
    (∀ next last k, p.count = 0 → s.port.batch = .positions next last → next ≤ last → last ≤ 21 →
      k = min s.port.batchSize (last + 1 - next) →
      exec (.continueRead dt p) s =
        .next (((s.taken dt).setPort
          { (s.taken dt).port with
            batch := if last + 1 - next = k then .idle else .positions (next + k) last }).answered 0x24
          (byte (last + 1 - (next + k)) ::
            ((Position.list.drop next).take k).flatMap (s.taken dt).positionSummary))) ∧
    (∀ place left k, p.count = 0 → s.port.batch = .candidates place →
      left = s.intake.candidates.drop (place - 1) → k = min 2 left.length →
      exec (.continueRead dt p) s =
        .next (((s.taken dt).setPort
          { (s.taken dt).port with
            batch := if left.length = k then .idle else .candidates (place + k) }).answered 0x24
          (byte (left.length - k) :: (left.take k).flatMap Candidate.summary))) ∧
    (p.count = 0 → s.port.batch = .idle →
      exec (.continueRead dt p) s = .next ((s.taken dt).turnedAway 0x24 .notPermitted unnamed))

/-- R160 to R162, R167: a kind, by its number from 1 to 20, is pending while its set holds a member, its value is there
or its flag is set, and its detail takes three bytes: the set, the LEARN RESULT and the position, the limit in mg, the
workshop state with its result and cause, or DONE or FAILED. Fetch Notices answers with the mask of every pending kind
and the first six pending latched kinds with their details, and clears those six and no other; ATTN is asserted while a
kind is both pending and enabled. Where a set stands in the three detail bytes, its bit 0 in the last of them, is the
model's choice, notes 42. -/
def Obligations.FetchNoticesClearsTheFirstSix : Prop :=
  ([NoticeKind.tyreLevel, .pairMismatch, .sensorSilent, .positionsRetired, .learnResult, .candidateReady, .liftChange,
      .liftConflict, .liftFault, .loadHeld, .demandMismatch, .digitalTimeout, .supplyLow, .inputFault, .brakeFallback,
      .lockTimeout, .stabilityAction, .workshopChange, .storeResult, .storeInvalid].map NoticeKind.number =
      [1, 2, 3, 4, 5, 6, 7, 8, 9, 10, 11, 12, 13, 14, 15, 16, 17, 18, 19, 20] ∧
    (∀ k : NoticeKind, k.latched = false ↔
      k = .loadHeld ∨ k = .demandMismatch ∨ k = .supplyLow ∨ k = .inputFault ∨ k = .brakeFallback) ∧
    [LearnResult.done, .collision, .duplicate, .timeout, .cancelled].map LearnResult.code = [1, 2, 3, 4, 5] ∧
    [WorkshopState.off, .pending, .ready, .stepRunning, .stepFault].map WorkshopState.code = [0, 1, 2, 3, 4] ∧
    [StepResult.none, .done, .fault, .aborted].map StepResult.code = [0, 1, 2, 3] ∧
    [StepFault.outOfBand, .brakeFallback, .liftInterrupted, .liftFault, .noTelegram, .notBound].map StepFault.code =
      [1, 2, 3, 4, 5, 6] ∧
    (∀ n, bytes3 n = [byte (n / 65536), byte (n / 256), byte n]) ∧
    ∀ n j, n < 24 → ((bit n).getLsbD j = true ↔ j = n)) ∧
  (∀ (x : Notices) (sets : List (NoticeKind × Mask)),
    sets = [(.tyreLevel, x.tyreLevel), (.pairMismatch, x.pairMismatch), (.sensorSilent, x.sensorSilent),
      (.positionsRetired, x.positionsRetired), (.liftChange, x.liftChange), (.liftConflict, x.liftConflict),
      (.liftFault, x.liftFault), (.lockTimeout, x.lockTimeout)] →
    (∀ y ∈ sets, (x.pendingOf y.1 = true ↔ y.2 ≠ 0) ∧
      x.detailBytes y.1 = [byte (y.2.toNat / 65536), byte (y.2.toNat / 256), byte y.2.toNat]) ∧
    ((x.pendingOf .learnResult = true ↔ ∃ d, x.learnResult = some d) ∧
      ∀ r q, x.learnResult = some (r, q) → x.detailBytes .learnResult = [byte r.code, byte q.index, 0]) ∧
    ((x.pendingOf .stabilityAction = true ↔ ∃ v, x.stabilityAction = some v) ∧
      ∀ v, x.stabilityAction = some v → x.detailBytes .stabilityAction = [byte (v / 256), byte v, 0]) ∧
    ((x.pendingOf .workshopChange = true ↔ ∃ d, x.workshopChange = some d) ∧
      ∀ d, x.workshopChange = some d → ∃ cause : Byte,
        x.detailBytes .workshopChange = [byte d.state.code, byte d.result.code, cause] ∧
        (d.cause = none → cause = 0xFF#8) ∧ ∀ c, d.cause = some c → cause = byte c.code) ∧
    ((x.pendingOf .storeResult = true ↔ ∃ d, x.storeResult = some d) ∧
      (x.storeResult = some true → x.detailBytes .storeResult = [1, 0, 0]) ∧
      (x.storeResult = some false → x.detailBytes .storeResult = [2, 0, 0])) ∧
    (x.pendingOf .candidateReady = x.candidateReady ∧ x.detailBytes .candidateReady = [0, 0, 0]) ∧
    (x.pendingOf .digitalTimeout = x.digitalTimeout ∧ x.detailBytes .digitalTimeout = [0, 0, 0]) ∧
    (x.pendingOf .storeInvalid = x.storeInvalid ∧ x.detailBytes .storeInvalid = [0, 0, 0]) ∧
    x.pendingOf .loadHeld = x.loadHeld ∧ x.pendingOf .demandMismatch = x.demandMismatch ∧
    x.pendingOf .supplyLow = x.supplyLow ∧ x.pendingOf .inputFault = x.inputFault ∧
    x.pendingOf .brakeFallback = x.brakeFallback) ∧
  ∀ (dt : Nat) (p : Params) (s : State), s.powered = true → p.count = 0 → ∃ x : Notices,
    exec (.fetchNotices dt p) s =
      .next (((s.taken dt).setNotices x).answered 0x10
        (bytes3 s.port.notices.mask.toNat ++
          s.port.notices.firstSix.flatMap fun k => byte k.number :: s.port.notices.detailBytes k)) ∧
    (∀ k, x.pendingOf k = (s.port.notices.pendingOf k && !s.port.notices.firstSix.contains k)) ∧
    (∀ k, k ∉ s.port.notices.firstSix → x.detailBytes k = s.port.notices.detailBytes k) ∧
    s.port.notices.firstSix.length ≤ 6 ∧
    (∀ k, k ∈ s.port.notices.firstSix → k.latched = true ∧ s.port.notices.pendingOf k = true) ∧
    (∀ k, k.latched = true → s.port.notices.pendingOf k = true → k ∉ s.port.notices.firstSix →
      s.port.notices.firstSix.length = 6 ∧ ∀ j ∈ s.port.notices.firstSix, j.number < k.number) ∧
    (∀ k, s.port.notices.mask.getLsbD (k.number - 1) = s.port.notices.pendingOf k) ∧
    (s.attn = true ↔
      ∃ k, s.port.notices.pendingOf k = true ∧ s.settings.enables.getLsbD (k.number - 1) = true)

/-- R3, R127, R141, R164, R165, R167: the requests that read a record answer with its data, field by field in their
codes and lengths, and change nothing; an index or a selector that names no record is refused. The model's readings and
choices: a bad axle, group or selector gives BAD PARAMETER (notes 19); FFh for a sensor that is not found (notes 20);
times left (notes 7) and times since (notes 57) are truncated; flags stand from the least significant bit and an absent
acceleration is 8000h (notes 16). p_m reads FFFFh and a 8000h once their records have followed an input that is not VALID
or not in use, whose last average has no bytes of its own (notes 36), and Read Axle has seven bytes, none of them for the
conflict-found flag (notes 37). -/
def Obligations.StateReadsAnswer : Prop :=
  ([PositionState.empty, .learning, .awaiting, .live, .silent, .faulted].map PositionState.code = [0, 1, 2, 3, 4, 5] ∧
    [SensorKind.valve, .rim, .tread].map SensorKind.code = [1, 2, 3] ∧
    [PressureLevel.none, .lowAdvisory, .lowWarning, .lowAlarm, .highAdvisory].map PressureLevel.code =
      [0, 1, 2, 3, 4] ∧
    [PairState.notAPair, .matched, .mismatched, .unordered].map PairState.code = [0, 1, 2, 3] ∧
    [LiftState.down, .raising, .up, .lowering].map LiftState.code = [0, 1, 2, 3] ∧
    [LiftMode.auto, .heldDown, .heldUp].map LiftMode.code = [0, 1, 2] ∧
    [GroupStatus.valid, .held, .substituted].map GroupStatus.code = [0, 1, 2] ∧
    [Mismatch.agreed, .diverging, .inForce, .converging].map Mismatch.code = [0, 1, 2, 3] ∧
    [Source.digital, .pneumatic, .emergency, .stability, .test].map Source.code = [1, 2, 3, 4, 5] ∧
    [Lock.free, .release, .hold, .reapply].map Lock.code = [0, 1, 2, 3] ∧
    [BrakeMode.electronic, .fallback].map BrakeMode.code = [0, 1] ∧
    (∀ c, fallbackBytes (some (.inletNoRise c)) = [1, byte c.number] ∧
      fallbackBytes (some (.exhaustNoFall c)) = [2, byte c.number] ∧
      fallbackBytes (some (.deliveredInvalid c)) = [3, byte c.number]) ∧
    fallbackBytes (some .controlInvalid) = [4, 0xFF] ∧ fallbackBytes none = [0xFF, 0xFF] ∧
    [StuState.idle, .armed, .probing, .intervening, .recovering].map StuState.code = [0, 1, 2, 3, 4] ∧
    [Pulse.notPosted, .posted, .lifted].map Pulse.code = [0, 1, 2] ∧
    [ChannelId.chL, .chR, .chX].map ChannelId.number = [1, 2, 3] ∧
    (∀ n, bytes2 n = [byte (n / 256), byte n] ∧ opt2 (some n) = bytes2 n ∧ opt1 (some n) = byte n ∧
      bytes4 n = [byte (n / 16777216), byte (n / 65536), byte (n / 256), byte n]) ∧
    opt2 none = [0xFF, 0xFF] ∧ opt1 none = 0xFF ∧ acceleration none = [0x80, 0x00] ∧
    ∀ v : Int, acceleration (some v) = bytes2 (v % 65536).toNat) ∧
  (∀ s : State,
    (∀ q r, s.position q = r → s.positionData q =
      [byte q.index, if s.positionExists q = true then byte r.state.code else 0xFF] ++
        bytes4 ((r.bound.map fun b => b.id.toNat).getD 0) ++ [byte ((r.bound.map fun b => b.kind.code).getD 0)] ++
        opt2 r.pressure ++ [opt1 (r.temperature.map fun t => (t + 50).toNat)] ++
        opt2 (if r.state = .learning ∧ s.intake.window.isSome = true then
          s.intake.window.map (fun w => (w.openedAt + 120000000 - s.now) / 1000000) else r.age) ++
        [byte (r.pressureLevel.code + (if r.temperatureLevel = .hot then 8 else 0) + (if r.batteryLow then 16 else 0) +
          (if r.fastLoss then 32 else 0) + 64 * (s.pairOf q).code)] ++
        bytes2 r.pl ++ opt2 r.pe ++ opt2 r.expected) ∧
    (∀ a sl, s.pairOf (.road a sl) = s.pair a sl.side) ∧ s.pairOf .sp1 = .notAPair ∧ s.pairOf .sp2 = .notAPair ∧
    (∀ a r, s.axle a = r → s.axleData a =
      [byte (r.layout.present.toNat + 2 * r.layout.dual.toNat + 4 * r.layout.liftable.toNat +
          8 * r.layout.valve2.toNat + (if r.layout.group = .g2 then 16 else 0) + 32 * r.layout.brakeX.toNat),
        byte ((r.layout.left.map WheelId.number).getD 0 * 16 + (r.layout.right.map WheelId.number).getD 0),
        byte r.mode.code, byte r.lift.code, if r.raisePending then 1 else 0] ++
        opt2 (if r.lift = .raising then some ((r.liftSince + 3000000 - s.now) / 1000)
          else if r.lift = .lowering then some ((r.liftSince + 2000000 - s.now) / 1000) else none)) ∧
    (∀ g r k, s.group g = r → s.calibration g = k → s.loadData g =
      [byte r.status.code, byte (r.holdStart.toNat + 2 * r.holdTransition.toNat + 4 * r.holdRoll.toNat +
          8 * r.holdSensor.toNat)] ++
        bytes2 r.w ++ bytes2 r.l ++ [byte r.n] ++ bytes2 r.ratio ++ bytes2 k.pe ++ bytes2 k.pl ++ bytes2 k.we ++
        bytes2 k.wl ++ bytes2 k.re ++
        [byte ((s.axle .a1).raisePending.toNat + 2 * (s.axle .a2).raisePending.toNat +
          4 * (s.axle .a3).raisePending.toNat + 8 * (s.axle .a4).raisePending.toNat +
          16 * (s.axle .a5).raisePending.toNat)] ++
        bytes2 s.settings.knee ++ bytes2 s.settings.circumference ++ [byte s.settings.teeth]) ∧
    s.tableData = bytes2 s.demands.driver ++ [byte s.demands.mismatch.code, byte s.demands.table.length] ++
      s.demands.table.flatMap s.entryData ∧
    (∀ x d c, (∀ v, d = .whole v → s.entryData ⟨x, d, c, none⟩ =
        [byte x.code, byte (min 255 ((s.now - c) / 1000000))] ++ bytes2 v) ∧
      (∀ l, d = .channels l → s.entryData ⟨x, d, c, none⟩ =
        [byte x.code, byte (min 255 ((s.now - c) / 1000000))] ++ bytes2 l.chL ++ bytes2 l.chR ++ bytes2 l.chX) ∧
      ∀ r, s.entryData ⟨x, d, c, some r⟩ = s.entryData ⟨x, d, c, none⟩ ++ [byte ((s.now - r) / 1000)]) ∧
    (∀ i, (s.analogInUse i = false ∨ (s.analog i).validity ≠ .valid) → s.offered i = none) ∧
    (∀ c, s.offered c.delivered = none → ∃ head tail, head.length = 8 ∧
      (s.followValves c).channelData c = head ++ [0xFF, 0xFF] ++ tail) ∧
    (s.offered .lat = none → ∃ tail, s.takeAccel.stabilityData = [byte s.stability.state.code, 0x80, 0x00] ++ tail) ∧
    (∀ c r, s.channel c = r → s.channelData c =
      bytes2 r.target ++ bytes2 r.driverPart ++ bytes2 r.cap ++ bytes2 (min r.target r.cap) ++
        opt2 r.delivered ++
        [byte r.lock.code, byte (r.inlet.toNat + 2 * r.exhaust.toNat)] ++ opt2 r.wheelSpeed ++ opt2 r.slip ++
        [byte (r.wheelSpeed.isNone.toNat + 2 * r.suspended.toNat + 4 * r.suppressed.toNat +
          8 * r.inletMonitor.isSome.toNat + 16 * r.exhaustMonitor.isSome.toNat)]) ∧
    s.modeData = [byte s.channels.mode.code] ++ fallbackBytes s.channels.cause ++
      [if s.channels.redundancy then 1 else 0] ++ bytes2 s.inputFaultSet ∧
    (∀ i, s.inputFaultSet.testBit i.number = (s.analogInUse i && decide ((s.analog i).validity = .invalid))) ∧
    (∀ w, s.inputFaultSet.testBit (7 + w.number) = (s.wheelInUse w && !(s.wheel w).valid)) ∧
    s.inputFaultSet < 16384 ∧
    (∀ x limit, s.stability = x → limit = x.frozen.getD x.liveLimit → s.stabilityData =
      [byte x.state.code] ++ acceleration x.accel ++
        bytes2 x.liveLimit ++ bytes2 x.lr ++ [byte x.derate] ++ opt2 x.frozen ++ bytes2 (600 * limit / 1000) ++
        bytes2 (500 * limit / 1000) ++ opt2 x.pInt ++ bytes2 x.pressure ++
        [opt1 (x.ramp.map fun r => if r.up then 1 else 2), opt1 (x.inner.map ChannelId.number),
          opt1 (x.pulse.map Pulse.code)] ++
        opt2 (x.probeSince.map fun t => (t + 300000 - s.now) / 1000) ++
        opt2 (x.lastNegative.map fun t => min 65535 ((s.now - t) / 1000)) ++
        [byte ((if (s.analog .lat).validity = .valid then 1 else 0) + 2 * x.exitSince.isSome.toNat +
          4 * x.latSince.isSome.toNat)]) ∧
    ∀ k, s.settings.stability = k → s.parameterData =
      bytes2 k.halfTrack ++ bytes2 k.heightEmpty ++ bytes2 k.heightLaden ++ bytes2 k.margin ++
        [if k.enable then 1 else 0] ++ bytes2 (heightInUse k s.stability.lr) ++
        bytes2 (staticThreshold k s.stability.lr)) ∧
  ∀ (dt : Nat) (p : Params) (s : State), s.powered = true →
    (∀ q, p.count = 1 → Position.ofIndex (byteAt p 0) = some q → s.positionExists q = true →
      exec (.readPosition dt p) s = .next ((s.taken dt).answered 0x20 ((s.taken dt).positionData q)) ∧
        ((s.taken dt).positionData q).length = 19) ∧
    (∀ q, p.count = 1 → Position.ofIndex (byteAt p 0) = some q → s.positionExists q = false →
      exec (.readPosition dt p) s = .next ((s.taken dt).turnedAway 0x20 .noSuchRecord unnamed)) ∧
    (p.count = 1 → 21 < byteAt p 0 →
      exec (.readPosition dt p) s = .next ((s.taken dt).turnedAway 0x20 .badParameter unnamed)) ∧
    (p.count = 4 → idAt p 0 = 0#32 ∨ idAt p 0 = 0xFFFFFFFF#32 →
      exec (.findSensor dt p) s = .next ((s.taken dt).turnedAway 0x21 .badParameter unnamed)) ∧
    (p.count = 4 → idAt p 0 ≠ 0#32 → idAt p 0 ≠ 0xFFFFFFFF#32 →
      (∀ q b, s.idLaw → (s.position q).bound = some b → b.id = idAt p 0 →
        exec (.findSensor dt p) s = .next ((s.taken dt).answered 0x21 [1, byte q.index])) ∧
      ((∀ q b, (s.position q).bound = some b → b.id ≠ idAt p 0) →
        (∀ i c, s.candidateLaw → s.intake.candidates[i]? = some c → c.bound.id = idAt p 0 →
          exec (.findSensor dt p) s = .next ((s.taken dt).answered 0x21 [2, byte (i + 1)])) ∧
        ((∀ c ∈ s.intake.candidates, c.bound.id ≠ idAt p 0) →
          exec (.findSensor dt p) s = .next ((s.taken dt).answered 0x21 [0, 0xFF])))) ∧
    (∀ a, p.count = 1 → AxleId.ofNumber (byteAt p 0) = some a →
      exec (.readAxle dt p) s = .next ((s.taken dt).answered 0x40 ((s.taken dt).axleData a)) ∧
        ((s.taken dt).axleData a).length = 7) ∧
    (p.count = 1 → AxleId.ofNumber (byteAt p 0) = none →
      exec (.readAxle dt p) s = .next ((s.taken dt).turnedAway 0x40 .badParameter unnamed)) ∧
    (∀ g, p.count = 1 → GroupId.ofNumber (byteAt p 0) = some g →
      exec (.readLoadState dt p) s = .next ((s.taken dt).answered 0x45 ((s.taken dt).loadData g)) ∧
        ((s.taken dt).loadData g).length = 25) ∧
    (p.count = 1 → GroupId.ofNumber (byteAt p 0) = none →
      exec (.readLoadState dt p) s = .next ((s.taken dt).turnedAway 0x45 .badParameter unnamed)) ∧
    (p.count = 1 → byteAt p 0 = 0 →
      exec (.readBrakeState dt p) s = .next ((s.taken dt).answered 0x51 (s.taken dt).tableData)) ∧
    (∀ c, p.count = 1 → ChannelId.ofNumber (byteAt p 0) = some c →
      exec (.readBrakeState dt p) s = .next ((s.taken dt).answered 0x51 ((s.taken dt).channelData c)) ∧
        ((s.taken dt).channelData c).length = 17) ∧
    (p.count = 1 → byteAt p 0 = 4 →
      exec (.readBrakeState dt p) s = .next ((s.taken dt).answered 0x51 (s.taken dt).modeData) ∧
        (s.taken dt).modeData.length = 6) ∧
    (p.count = 1 → 4 < byteAt p 0 →
      exec (.readBrakeState dt p) s = .next ((s.taken dt).turnedAway 0x51 .badParameter unnamed)) ∧
    (p.count = 1 → byteAt p 0 = 0 →
      exec (.readStabilityState dt p) s = .next ((s.taken dt).answered 0x59 (s.taken dt).stabilityData) ∧
        (s.taken dt).stabilityData.length = 26) ∧
    (p.count = 1 → byteAt p 0 = 1 →
      exec (.readStabilityState dt p) s = .next ((s.taken dt).answered 0x59 (s.taken dt).parameterData) ∧
        (s.taken dt).parameterData.length = 13) ∧
    (p.count = 1 → 1 < byteAt p 0 →
      exec (.readStabilityState dt p) s = .next ((s.taken dt).turnedAway 0x59 .badParameter unnamed))

/-- R20, R147, R157, R158: a request whose parameter count does not fit is refused with BAD PARAMETER and changes
nothing: Continue leaves its batch read in flight, and Fault Detail leaves a detail of its own only where one is held.
The count of Write Setpoints goes by the length of its list, and a list of no value or of more than 13 is what its
refusal names, as the model reads R20 (notes 17). A Stage Step with a count that no kind has names what R147 has it
name, but is refused before its state is checked; that and the detail of Fault Detail are the model's reading (notes
26). -/
def Obligations.BadCountsAreRefused : Prop :=
  (∀ (i : Instr) (s : State) (code : Nat) (p : Params) (l : List Nat), s.powered = true →
    requestParts i = some (code, p) → requestCounts i = some l → p.count ∉ l →
    ((∀ dt, i ≠ .stageStep dt p) →
      exec i s = .next ((s.taken (commandTime i)).turnedAway code .badParameter unnamed)) ∧
    (∀ dt, i = .stageStep dt p → ∃ n, stepOf p = .error n ∧
      exec i s = .next ((s.taken dt).turnedAway 0x62 .badParameter n))) ∧
  (∀ (dt : Nat) (p : Params) (s : State), s.powered = true → p.count ≠ 2 + 2 * byteAt p 1 ∨ 28 < p.count →
    exec (.writeSetpoints dt p) s = .next ((s.taken dt).turnedAway 0x26 .badParameter
      (if p.count ≤ 28 ∧ 2 ≤ p.count ∧ (byteAt p 1 = 0 ∨ 13 < byteAt p 1) then namedAt 1 else unnamed))) ∧
  ∀ (dt : Nat) (p : Params) (s c : State), s.powered = true → p.count ≠ 0 → c = (s.elapse dt).clockOut →
    exec (.continueRead dt p) s = .next (c.ageDetail.turnedAway 0x24 .badParameter unnamed) ∧
    (s.port.detail ≠ none →
      exec (.faultDetail dt p) s = .next (c.endBatch.turnedAway 0x03 .badParameter unnamed)) ∧
    (s.port.detail = none → exec (.faultDetail dt p) s =
      .next (c.setPort { c.port with batch := .idle, reply := ⟨0x03, .refused, [byte RefusalCode.badParameter.code]⟩ }))

/-- R145, R153: the gated writes are refused outside READY, and Begin Learn, Set Lift Mode, Post Demand and Enter Workshop
in WATCH; a refused request changes nothing. -/
def Obligations.GatedAndSleepingRequestsAreRefused : Prop :=
  (∀ (i : Instr) (s : State) (code : Nat) (p : Params) (l : List Nat), s.powered = true →
    requestParts i = some (code, p) → requestCounts i = some l → p.count ∈ l → isGated i = true →
    s.mode.workshop ≠ .ready →
    exec i s = .next ((s.taken (commandTime i)).turnedAway code .notPermitted unnamed)) ∧
  ∀ (dt : Nat) (p : Params) (s : State), s.powered = true → s.mode.power = .watch →
    (p.count = 1 → byteAt p 0 ≤ 21 →
      exec (.beginLearn dt p) s = .next ((s.taken dt).turnedAway 0x30 .notAwake unnamed)) ∧
    (p.count = 2 → (AxleId.ofNumber (byteAt p 0)).isSome = true → byteAt p 1 ≤ 2 →
      exec (.setLiftMode dt p) s = .next ((s.taken dt).turnedAway 0x44 .notAwake unnamed)) ∧
    (p.count = 2 → exec (.postDemand dt p) s = .next ((s.taken dt).turnedAway 0x50 .notAwake unnamed)) ∧
    (p.count = 0 → exec (.enterWorkshop dt p) s = .next ((s.taken dt).turnedAway 0x60 .notAwake unnamed))

/-! ### The wheel position table -/

/-- R9, R10, R15, R18, R19: an accepted Set Position Setpoints writes the two setpoints of its position and has the record
evaluated: a bound record takes its expected pressure and its two levels, TYRE LEVEL is set with the position where a
level has changed, and its pair is compared, with PAIR MISMATCH set where it enters MISMATCHED. An accepted Write Tyre Parameters writes the two parameters; refused ones name what fails first. -/
def Obligations.SetpointsAreWritten : Prop :=
  ∀ (dt : Nat) (p : Params) (s : State), s.powered = true →
    (∀ q pl pe, (p.count = 3 ∧ pe = none) ∨ (p.count = 5 ∧ pe = some (wordAt p 3)) →
      Position.ofIndex (byteAt p 0) = some q → s.positionExists q = true → wordAt p 1 = pl → setpointsInRange q pl pe →
      ∃ u : State, exec (.setPositionSetpoints dt p) s = .next (u.settle.answered 0x25 []) ∧
        (s.taken dt).OnlyTyres u ∧ (u.position q).pl = pl ∧ (u.position q).pe = pe ∧
        (∀ r, r ≠ q → u.position r = s.position r) ∧
        (u.position q).bound = (s.position q).bound ∧ (u.position q).state = (s.position q).state ∧
        (u.position q).pressure = (s.position q).pressure ∧ (u.position q).age = (s.position q).age ∧
        (u.position q).temperature = (s.position q).temperature ∧
        (u.position q).fastLoss = (s.position q).fastLoss ∧ (u.position q).batteryLow = (s.position q).batteryLow ∧
        ((s.position q).state.isBound = false → u.position q = { s.position q with pl := pl, pe := pe } ∧
          u.tyres.pairs = s.tyres.pairs ∧ u.port.notices = s.port.notices) ∧
        ((s.position q).state.isBound = true → s.Evaluated u q (s.position q))) ∧
    (p.count = 3 ∨ p.count = 5 →
      (21 < byteAt p 0 → exec (.setPositionSetpoints dt p) s =
        .next ((s.taken dt).turnedAway 0x25 .badParameter (positionAt 0 (byteAt p 0) (some 21)))) ∧
      ∀ q, Position.ofIndex (byteAt p 0) = some q →
        (s.positionExists q = false → exec (.setPositionSetpoints dt p) s =
          .next ((s.taken dt).turnedAway 0x25 .noSuchRecord (positionAt 0 q.index none))) ∧
        (s.positionExists q = true → wordAt p 1 < 300 → exec (.setPositionSetpoints dt p) s =
          .next ((s.taken dt).turnedAway 0x25 .badParameter (positionAt 1 q.index (some 300)))) ∧
        (s.positionExists q = true → 1200 < wordAt p 1 → exec (.setPositionSetpoints dt p) s =
          .next ((s.taken dt).turnedAway 0x25 .badParameter (positionAt 1 q.index (some 1200)))) ∧
        (s.positionExists q = true → 300 ≤ wordAt p 1 → wordAt p 1 ≤ 1200 → p.count = 5 →
          ¬setpointsInRange q (wordAt p 1) (some (wordAt p 3)) → exec (.setPositionSetpoints dt p) s =
            .next ((s.taken dt).turnedAway 0x25 .badParameter (positionAt 3 q.index
              (if isSpare q then none else if wordAt p 3 < 300 then some 300 else some (wordAt p 1)))))) ∧
    (p.count = 0 → exec (.writeTyreParameters dt p) s =
      .next ((s.taken dt).answered 0x34 (bytes2 s.settings.pairDelta ++ [byte s.settings.hotLimit]))) ∧
    (p.count = 3 → 30 ≤ wordAt p 0 ∧ wordAt p 0 ≤ 300 ∧ 70 ≤ byteAt p 2 ∧ byteAt p 2 ≤ 120 →
      exec (.writeTyreParameters dt p) s =
        .next (((s.taken dt).setSettings
          { s.settings with pairDelta := wordAt p 0, hotLimit := byteAt p 2 }).answered 0x34
            (bytes2 (wordAt p 0) ++ [byte (byteAt p 2)]))) ∧
    (p.count = 3 → ¬(30 ≤ wordAt p 0 ∧ wordAt p 0 ≤ 300 ∧ 70 ≤ byteAt p 2 ∧ byteAt p 2 ≤ 120) →
      exec (.writeTyreParameters dt p) s = .next ((s.taken dt).turnedAway 0x34 .badParameter unnamed))

/-- R10, R15, R20, R21, R83: Write Setpoints resolves the repeats of its list and writes the laden setpoints from the
start index on, up to the first value that its position does not accept; it answers DONE when every one is written, else
PARTIAL with the failed index and the number left, and the fault detail names that index and its place in the list. Each
position is evaluated as it is written, and a level that this changes is a fresh tyre test of every axle before the next
position is written: the positions of a lifted axle that it lowers are evaluated too, and of the other axles a test sets
or clears the conflict flag alone. What a refusal of the whole request names is the model's reading, notes 17, and the
limit that is named where a value fails several checks is the model's choice, notes 60. -/
def Obligations.WriteSetpointsStopsAtTheFirstFailure : Prop :=
  ∀ (dt : Nat) (p : Params) (s : State) (start n : Nat) (vs : List Nat), s.powered = true →
    byteAt p 0 = start → byteAt p 1 = n → resolved 0 (sentValues p) = vs →
    (writeSetpointsRefusal p = none ↔
      2 ≤ p.count ∧ 1 ≤ n ∧ n ≤ 13 ∧ p.count = 2 + 2 * n ∧ start ≤ 21 ∧ start + n ≤ 22 ∧ wordAt p 2 ≠ 0) ∧
    (28 < p.count →
      exec (.writeSetpoints dt p) s = .next ((s.taken dt).turnedAway 0x26 .badParameter unnamed)) ∧
    (∀ x, p.count ≤ 28 → writeSetpointsRefusal p = some x →
      exec (.writeSetpoints dt p) s = .next ((s.taken dt).turnedAway 0x26 .badParameter x)) ∧
    (writeSetpointsRefusal p = none →
      (vs.length = n ∧ vs.getD 0 0 = wordAt p 2 ∧ ∀ k, k + 1 < n → vs.getD (k + 1) 0 =
        if wordAt p (2 + 2 * (k + 1)) = 0 then vs.getD k 0 else wordAt p (2 + 2 * (k + 1))) ∧
      ∃ (m : Nat) (u : State), m ≤ n ∧ (s.taken dt).OnlyTyresAndLifts u ∧
        (∃ c : Nat → State, c 0 = s.taken dt ∧ c m = u ∧ ∀ k q v, k < m → Position.ofIndex (start + k) = some q →
          v = (c k).setPosition q { (c k).position q with pl := vs.getD k 0 } →
          c (k + 1) = if ((v.evaluate q).position q).levels = (v.position q).levels then v.evaluate q
            else (v.evaluate q).testAllTyres) ∧
        ((∀ a, (s.axle a).layout.present = false ∨ (s.axle a).layout.liftable = false ∨ (s.axle a).lift = .down ∨
          (s.axle a).lift = .lowering) → (s.taken dt).OnlyTyres u) ∧
        (∀ a, (∃ b, u.axle a = { s.axle a with conflict := b }) ∨
          (((s.axle a).lift = .raising ∨ (s.axle a).lift = .up) ∧ u.axle a = { s.axle a with
            lift := .lowering, liftSince := s.now + dt, conflict := false
            mode := if (s.axle a).mode = .heldUp then .auto else (s.axle a).mode })) ∧
        (∀ g, (u.group g).w = (s.group g).w ∧ (u.group g).l = (s.group g).l) ∧
        ((∀ a, s.liftStepOn a = true → (u.axle a).lift = (s.axle a).lift) → u.mode = s.mode) ∧
        (∀ k, k < m → s.acceptsSetpoint (start + k) (vs.getD k 0) = true) ∧
        (∀ q, start ≤ q.index → q.index < start + m →
          (u.position q).pl = vs.getD (q.index - start) 0 ∧ (u.position q).pe = (s.position q).pe ∧
            (u.position q).bound = (s.position q).bound ∧ (u.position q).state = (s.position q).state) ∧
        (∀ q, q.index < start ∨ start + m ≤ q.index → (s.position q).SameSensor (u.position q) ∧
          ((∀ a sl, q = .road a sl → (u.axle a).lift = (s.axle a).lift) → u.position q = s.position q)) ∧
        (m = n → exec (.writeSetpoints dt p) s = .next (u.settle.answered 0x26 [])) ∧
        (m < n → s.acceptsSetpoint (start + m) (vs.getD m 0) = false ∧ ∃ limit,
          (∀ q, Position.ofIndex (start + m) = some q → limit =
            if s.positionExists q = false then none
            else if vs.getD m 0 < 300 then some 300
            else if 1200 < vs.getD m 0 then some 1200
            else (s.position q).pe) ∧
          exec (.writeSetpoints dt p) s = .next (u.settle.setPort
            { u.settle.port with
              reply := { code := 0x26, status := .stopped, data := [byte (start + m), byte (n - m)] }
              detail := some
                { request := 0x26, refusal := none, named := positionAt (2 + 2 * m) (start + m) limit,
                  later := false } })))

/-- R10, R15, R18, R22, R23: an accepted Swap Positions exchanges what two positions hold of their sensors; the setpoints
stay, a position that receives a sensor is evaluated from the levels it receives, and one that receives nothing has its
live fields absent. TYRE LEVEL is set with each of the two whose levels differ from those it showed before, and the pairs
of both are compared. The refusals come in the manual's order; which of the two
equal indices a swap of a position with itself names is left open (notes 4). That a is named where both fail one check
(notes 45), and that an index above 21 names no limiting value (notes 44), are the model's choices. -/
def Obligations.SwapExchangesTheSensors : Prop :=
  ∀ (dt : Nat) (p : Params) (s : State) (i j : Nat), s.powered = true → p.count = 2 → byteAt p 0 = i → byteAt p 1 = j →
    (∀ a b, Position.ofIndex i = some a → Position.ofIndex j = some b → a ≠ b → s.positionExists a = true →
      s.positionExists b = true → (s.position a).state ≠ .learning → (s.position b).state ≠ .learning →
      ∃ u : State, exec (.swapPositions dt p) s = .next (u.settle.answered 0x27 []) ∧ (s.taken dt).OnlyTyres u ∧
        (∀ q, q ≠ a → q ≠ b → u.position q = s.position q) ∧
        u.port.notices.tyreLevel =
          s.port.notices.tyreLevel ||| u.levelBit a (s.position a) ||| u.levelBit b (s.position b) ∧
        s.PairsCompared u [a, b] ∧
        ∀ x y, (x = a ∧ y = b) ∨ (x = b ∧ y = a) →
          (u.position x).pl = (s.position x).pl ∧ (u.position x).pe = (s.position x).pe ∧
          (u.position x).state = (s.position y).state ∧ (u.position x).bound = (s.position y).bound ∧
          ((s.position y).state = .empty →
            (u.position x).pressure = none ∧ (u.position x).temperature = none ∧ (u.position x).age = none ∧
              (u.position x).pressureLevel = .none ∧ (u.position x).temperatureLevel = .normal ∧
              (u.position x).batteryLow = false ∧ (u.position x).fastLoss = false ∧
              (u.position x).expected = none) ∧
          ((s.position y).state ≠ .empty →
            (u.position x).pressure = (s.position y).pressure ∧
              (u.position x).temperature = (s.position y).temperature ∧ (u.position x).age = (s.position y).age ∧
              (u.position x).batteryLow = (s.position y).batteryLow ∧
              (u.position x).fastLoss = (s.position y).fastLoss ∧ u.JudgedFrom x (s.position y))) ∧
    (21 < i → exec (.swapPositions dt p) s =
      .next ((s.taken dt).turnedAway 0x27 .badParameter (positionAt 0 i none))) ∧
    (i ≤ 21 → 21 < j → exec (.swapPositions dt p) s =
      .next ((s.taken dt).turnedAway 0x27 .badParameter (positionAt 1 j none))) ∧
    (i ≤ 21 → i = j → exec (.swapPositions dt p) s =
      .next ((s.taken dt).turnedAway 0x27 .badParameter (sameSwapNamed i))) ∧
    (∀ a b, Position.ofIndex i = some a → Position.ofIndex j = some b → a ≠ b →
      (s.positionExists a = false → exec (.swapPositions dt p) s =
        .next ((s.taken dt).turnedAway 0x27 .noSuchRecord (positionAt 0 i none))) ∧
      (s.positionExists a = true → s.positionExists b = false → exec (.swapPositions dt p) s =
        .next ((s.taken dt).turnedAway 0x27 .noSuchRecord (positionAt 1 j none))) ∧
      (s.positionExists a = true → s.positionExists b = true → (s.position a).state = .learning →
        exec (.swapPositions dt p) s = .next ((s.taken dt).turnedAway 0x27 .conflict (positionAt 0 i none))) ∧
      (s.positionExists a = true → s.positionExists b = true → (s.position a).state ≠ .learning →
        (s.position b).state = .learning →
        exec (.swapPositions dt p) s = .next ((s.taken dt).turnedAway 0x27 .conflict (positionAt 1 j none))))

/-- R10, R15, R18, R24, R26, R40: Retire Sensor leaves an EMPTY record with its setpoints kept; TYRE LEVEL is set where a
level of a bound record was not NONE or NORMAL, and its pair becomes UNORDERED; on a LEARNING position it cancels the
window. Adopt Candidate binds the candidate's sensor with the pressure and the age the list holds, has the record evaluated
with its pair compared, and takes its entry off the list. That an index above 21 names no limiting value is the model's choice, notes 44. -/
def Obligations.SensorsAreRetiredAndAdopted : Prop :=
  ∀ (dt : Nat) (p : Params) (s : State), s.powered = true →
    (∀ q, p.count = 1 → Position.ofIndex (byteAt p 0) = some q → s.positionExists q = true → s.learnLaw →
      ∃ u : State, exec (.retireSensor dt p) s = .next (u.settle.answered 0x28 []) ∧
        (s.taken dt).OnlyTyresAndIntake u ∧ (∀ r, r ≠ q → u.position r = s.position r) ∧
        u.intake.candidates = s.intake.candidates ∧
        (u.position q).state = .empty ∧ (u.position q).pl = (s.position q).pl ∧
        (u.position q).pe = (s.position q).pe ∧
        ((s.position q).state.isBound = true → u.position q = (s.position q).emptied ∧ u.intake = s.intake ∧
          u.port.notices.tyreLevel = (if (s.position q).levels = (.none, .normal) then s.port.notices.tyreLevel
            else s.port.notices.tyreLevel ||| bit q.index) ∧
          s.PairsCompared u [q] ∧
          ∀ a sl, q = .road a sl → s.pair a sl.side ≠ .notAPair → u.pair a sl.side = .unordered) ∧
        ((s.position q).state = .learning → u.intake.window = none ∧ u.tyres.pairs = s.tyres.pairs ∧
          u.port.notices = { s.port.notices with learnResult := some (.cancelled, q) }) ∧
        ((s.position q).state = .empty → u = s.taken dt)) ∧
    (p.count = 1 → 21 < byteAt p 0 → exec (.retireSensor dt p) s =
      .next ((s.taken dt).turnedAway 0x28 .badParameter (positionAt 0 (byteAt p 0) none))) ∧
    (∀ q, p.count = 1 → Position.ofIndex (byteAt p 0) = some q → s.positionExists q = false →
      exec (.retireSensor dt p) s =
        .next ((s.taken dt).turnedAway 0x28 .noSuchRecord (positionAt 0 (byteAt p 0) none))) ∧
    (∀ q c, p.count = 5 → Position.ofIndex (byteAt p 4) = some q → s.positionExists q = true →
      (s.position q).state = .empty → s.candidateLaw → c ∈ s.intake.candidates → c.bound.id = idAt p 0 →
      ∃ u : State, exec (.adoptCandidate dt p) s = .next (u.settle.answered 0x33 []) ∧
        (s.taken dt).OnlyTyresAndIntake u ∧ (∀ r, r ≠ q → u.position r = s.position r) ∧
        (u.position q).bound = some c.bound ∧ (u.position q).pressure = c.pressure ∧
        (u.position q).age = some c.age ∧ (u.position q).temperature = none ∧
        (u.position q).fastLoss = false ∧ (u.position q).batteryLow = false ∧
        (u.position q).state = (if c.pressure.isSome then .live else .awaiting) ∧
        (u.position q).pl = (s.position q).pl ∧ (u.position q).pe = (s.position q).pe ∧
        s.Evaluated u q (s.position q) ∧
        u.intake.candidates = s.intake.candidates.filter (fun d => decide (d.bound.id ≠ idAt p 0)) ∧
        u.intake.window = s.intake.window) ∧
    (p.count = 5 → 21 < byteAt p 4 → exec (.adoptCandidate dt p) s =
      .next ((s.taken dt).turnedAway 0x33 .badParameter (positionAt 4 (byteAt p 4) none))) ∧
    (∀ q, p.count = 5 → Position.ofIndex (byteAt p 4) = some q →
      (s.positionExists q = false → exec (.adoptCandidate dt p) s =
        .next ((s.taken dt).turnedAway 0x33 .noSuchRecord (positionAt 4 (byteAt p 4) none))) ∧
      (s.positionExists q = true → (s.position q).state ≠ .empty → exec (.adoptCandidate dt p) s =
        .next ((s.taken dt).turnedAway 0x33 .conflict (positionAt 4 (byteAt p 4) none))) ∧
      (s.positionExists q = true → (s.position q).state = .empty →
        (∀ c ∈ s.intake.candidates, c.bound.id ≠ idAt p 0) → exec (.adoptCandidate dt p) s =
          .next ((s.taken dt).turnedAway 0x33 .noSuchRecord (positionAt 0 (byteAt p 4) none))))

/-- R10, R36, R38 to R41: the learn window opens on an EMPTY position; it is cancelled, expires 120 s after its opening, or
ends with a binding, which is evaluated, 2 s after a trigger, each with its LEARN RESULT; a trigger whose ID has been bound meanwhile is a
duplicate and leaves the window open. That an expiry or a confirmation that is not due only lets the time pass is the
model's choice, notes 1. -/
def Obligations.LearnWindowRuns : Prop :=
  ∀ (dt : Nat) (p : Params) (s : State), s.powered = true →
    (∀ q, p.count = 1 → Position.ofIndex (byteAt p 0) = some q → s.mode.power ≠ .watch →
      (s.positionExists q = true → s.intake.window = none → (s.position q).state = .empty →
        exec (.beginLearn dt p) s =
          .next ((((s.taken dt).setPosition q (s.position q).targeted).setIntake
            { s.intake with window := some ⟨q, s.now + dt, none⟩ }).answered 0x30 [])) ∧
      (s.positionExists q = false → exec (.beginLearn dt p) s =
        .next ((s.taken dt).turnedAway 0x30 .noSuchRecord unnamed)) ∧
      (s.positionExists q = true → s.intake.window.isSome = true ∨ (s.position q).state ≠ .empty →
        exec (.beginLearn dt p) s = .next ((s.taken dt).turnedAway 0x30 .conflict unnamed))) ∧
    (p.count = 1 → 21 < byteAt p 0 → exec (.beginLearn dt p) s =
      .next ((s.taken dt).turnedAway 0x30 .badParameter unnamed)) ∧
    (p.count = 0 → s.intake.window = none → exec (.cancelLearn dt p) s =
      .next ((s.taken dt).turnedAway 0x31 .notPermitted unnamed)) ∧
    (s.intake.window = none → exec (.learnWindowExpiry dt) s = .next (s.elapse dt) ∧
      exec (.learnConfirmation dt) s = .next (s.elapse dt)) ∧
    ∀ w, s.intake.window = some w →
      (p.count = 0 → exec (.cancelLearn dt p) s =
        .next (((((s.taken dt).setIntake { s.intake with window := none }).setPosition w.target
          (s.position w.target).emptied).noteLearnResult .cancelled w.target).answered 0x31 [])) ∧
      (w.openedAt + 120000000 ≤ s.now + dt → exec (.learnWindowExpiry dt) s =
        .next ((((s.elapse dt).setIntake { s.intake with window := none }).setPosition w.target
          (s.position w.target).emptied).noteLearnResult .timeout w.target)) ∧
      (s.now + dt < w.openedAt + 120000000 → exec (.learnWindowExpiry dt) s = .next (s.elapse dt)) ∧
      (w.trigger = none → exec (.learnConfirmation dt) s = .next (s.elapse dt)) ∧
      ∀ x, w.trigger = some x →
        (s.now + dt < x.arrival + 2000000 → exec (.learnConfirmation dt) s = .next (s.elapse dt)) ∧
        (x.arrival + 2000000 ≤ s.now + dt → (∃ q b, (s.position q).bound = some b ∧ b.id = x.bound.id) →
          exec (.learnConfirmation dt) s =
            .next (((s.elapse dt).setIntake { s.intake with window := some { w with trigger := none } }).noteLearnResult
              .duplicate w.target).settle) ∧
        (x.arrival + 2000000 ≤ s.now + dt → (∀ q b, (s.position q).bound = some b → b.id ≠ x.bound.id) →
          ∃ u : State, exec (.learnConfirmation dt) s = .next u.settle ∧
            (∀ r, r ≠ w.target → u.position r = s.position r) ∧
            (u.position w.target).state = .live ∧ (u.position w.target).bound = some x.bound ∧
            (u.position w.target).age = some 0 ∧ (u.position w.target).pressure = x.pressure ∧
            (u.position w.target).temperature = x.temperature ∧ (u.position w.target).fastLoss = x.fastLoss ∧
            (u.position w.target).batteryLow = x.batteryLow ∧
            (u.position w.target).pl = (s.position w.target).pl ∧ (u.position w.target).pe = (s.position w.target).pe ∧
            s.Evaluated u w.target (s.position w.target).cleared ∧ u.intake.window = none ∧ u.port.notices.learnResult = some (.done, w.target) ∧
            u.intake.candidates = s.intake.candidates.filter (fun d => decide (d.bound.id ≠ x.bound.id)) ∧
            ((∀ r, s.mode.running = some r → r.step ≠ .sensorListen w.target) →
              (s.elapse dt).OnlyTyresAndIntake u))

/-- R10, R28 to R34, R37, R43 to R45: a character is collected from the first idle gap on; ten of them that spell a
telegram reach the bound record, which is evaluated, the learn window, the candidate list or nothing, by the telegram's kind and the state. A telegram
counts a sighting in MOVING, from a wheel that rotates, 60 s after the last; a full list first loses the entry with the
fewest sightings, of these the longest heard, of these the first. Ten bytes spell no telegram where their check fails, the
ID is one of the two reserved ones or the kind is unsupported; else their fields are read as the tables of R29 say. That the first character is taken after 30 bit times, its
own ten and a gap of 20, is the model's reading, notes 10. -/
def Obligations.TelegramsReachTheirRoutes : Prop :=
  (crc8 [] = 0 ∧ ∀ (l : List Byte) (b : Byte) (f : Byte → Byte),
    (∀ x, f x = if x.getLsbD 7 = true then (x <<< 1) ^^^ 0x07#8 else x <<< 1) →
    crc8 (l ++ [b]) = f (f (f (f (f (f (f (f (crc8 l ^^^ b))))))))) ∧
  (∀ x : Reception, x.telegram =
    if x.synced = true ∧ x.bad = false ∧ x.chars.length = 10 then telegramOf x.chars else none) ∧
  (∀ (i0 i1 i2 i3 k p0 p1 t f c : Byte) (l : List Byte) (id n : Nat), l = [i0, i1, i2, i3, k, p0, p1, t, f] →
    id = ((i0.toNat * 256 + i1.toNat) * 256 + i2.toNat) * 256 + i3.toNat → n = p0.toNat * 256 + p1.toNat →
    (telegramOf (l ++ [c]) = none ↔
      crc8 l ≠ c ∨ id = 0 ∨ id = 0xFFFFFFFF ∨ (4 ≤ k.toNat ∧ k.toNat ≤ 0xFE)) ∧
    ∀ x, telegramOf (l ++ [c]) = some x → x.id.toNat = id ∧
      (x.kind = .failed ↔ k.toNat = 0) ∧ (x.kind = .sensor .valve ↔ k.toNat = 1) ∧
      (x.kind = .sensor .rim ↔ k.toNat = 2) ∧ (x.kind = .sensor .tread ↔ k.toNat = 3) ∧
      (x.kind = .test ↔ k.toNat = 0xFF) ∧
      (n = 0xFFFF → x.pressure = none) ∧ (n ≤ 1400 → x.pressure = some n) ∧
      (1400 < n → n ≠ 0xFFFF → x.pressure = some 1400) ∧
      (200 < t.toNat → x.temperature = none) ∧ (t.toNat ≤ 9 → x.temperature = some (-40)) ∧
      (10 ≤ t.toNat → t.toNat ≤ 200 → x.temperature = some ((t.toNat : Int) - 50)) ∧
      x.triggered = f.getLsbD 7 ∧ x.fastLoss = f.getLsbD 6 ∧ x.batteryLow = f.getLsbD 5 ∧
      x.rotating = f.getLsbD 4) ∧
  (∀ l : List Candidate, l ≠ [] → ∃ (i : Nat) (c : Candidate), l[i]? = some c ∧ evict l = l.eraseIdx i ∧
    ∀ (j : Nat) (d : Candidate), l[j]? = some d → c.sightings < d.sightings ∨ (c.sightings = d.sightings ∧
      (d.firstHeard < c.firstHeard ∨ (d.firstHeard = c.firstHeard ∧ i ≤ j)))) ∧
  (∀ (s : State) (t : Telegram) (e : Candidate), s.countsSighting t e = true ↔
    s.inputs.motion = .moving ∧ t.rotating = true ∧ ∀ n, e.sinceSighting = some n → 60 ≤ n) ∧
  ∀ (dt : Nat) (s : State), s.powered = true →
    (∀ n, (s.elapse dt).idleBits n = true ↔ n * 1000000 ≤ (s.now + dt - s.intake.rx.lastChar) * 19200) ∧
    (∀ b stop, s.intake.rx.synced = true ∨ (s.elapse dt).idleBits 30 = true → exec (.characterReception dt b stop) s =
      .next ((s.elapse dt).setIntake { s.intake with
        rx := { synced := true, lastChar := s.now + dt, bad := s.intake.rx.bad || !stop,
                chars := if s.intake.rx.chars.length < 11 then s.intake.rx.chars ++ [b] else s.intake.rx.chars } })) ∧
    (∀ b stop, s.intake.rx.synced = false → (s.elapse dt).idleBits 30 = false →
      exec (.characterReception dt b stop) s =
        .next ((s.elapse dt).setIntake { s.intake with rx := { s.intake.rx with lastChar := s.now + dt } })) ∧
    ((s.elapse dt).idleBits 20 = false → exec (.telegramArrival dt) s = .next (s.elapse dt)) ∧
    ∀ c, c = (s.elapse dt).closeSequence → (s.elapse dt).idleBits 20 = true →
      (s.intake.rx.telegram = none → exec (.telegramArrival dt) s = .next c) ∧
      ∀ t, s.intake.rx.telegram = some t →
        (∀ q, t.kind = .failed ∨ (∃ k, t.kind = .sensor k) → s.boundPosition t.id = some q →
          ∃ u : State, exec (.telegramArrival dt) s = .next u.settle ∧
            (∀ r, r ≠ q → u.position r = s.position r) ∧
            (u.position q).bound = (s.position q).bound ∧ (u.position q).age = some 0 ∧
            (u.position q).state = (if t.kind = .failed then .faulted else .live) ∧
            (u.position q).fastLoss = t.fastLoss ∧ (u.position q).batteryLow = t.batteryLow ∧
            (u.position q).pressure = (if t.pressure.isSome then t.pressure else (s.position q).pressure) ∧
            (u.position q).temperature = (if t.temperature.isSome then t.temperature else (s.position q).temperature) ∧
            (u.position q).pl = (s.position q).pl ∧ (u.position q).pe = (s.position q).pe ∧ u.intake = c.intake ∧
            s.Evaluated u q (s.position q) ∧
            (∀ w, s.intake.window = some w → t.triggered = true → t.kind ≠ .failed →
              u.port.notices.learnResult = some (.duplicate, w.target)) ∧
            (∀ r, s.mode.running = some r → r.step = .sensorListen q → u.mode.result = .done ∧
              u.mode.workshop = .ready ∧ u.mode.running = none) ∧
            ((∀ r, s.mode.running = some r → r.step ≠ .sensorListen q) → c.OnlyTyres u)) ∧
        (t.kind = .failed → s.boundPosition t.id = none → exec (.telegramArrival dt) s = .next c.settle) ∧
        (t.kind = .test → (s.mode.workshop ≠ .ready ∧ s.mode.workshop ≠ .stepRunning) ∨ s.boundPosition t.id = none →
          exec (.telegramArrival dt) s = .next c.settle) ∧
        (∀ q v, t.kind = .test → s.mode.workshop = .ready ∨ s.mode.workshop = .stepRunning →
          s.boundPosition t.id = some q →
          v = c.setPosition q { s.position q with age := some 0, silenceDue := false } →
          ∃ u : State, exec (.telegramArrival dt) s = .next u.settle ∧ u.tyres = v.tyres ∧
            (∀ r, s.mode.running = some r → r.step = .sensorListen q → u.mode.result = .done ∧
              u.mode.workshop = .ready ∧ u.mode.running = none) ∧
            ((∀ r, s.mode.running = some r → r.step ≠ .sensorListen q) → u = v)) ∧
        ∀ k, t.kind = .sensor k → s.boundPosition t.id = none →
          (∀ w, s.intake.window = some w → t.triggered = true →
            (w.trigger = none → exec (.telegramArrival dt) s =
              .next (c.setIntake { c.intake with
                window := some ⟨w.target, w.openedAt, some (Trigger.ofTelegram k t (s.now + dt))⟩ }).settle) ∧
            (∀ x, w.trigger = some x → x.bound.id ≠ t.id → exec (.telegramArrival dt) s =
              .next ((c.setIntake { c.intake with window := some { w with trigger := none } }).noteLearnResult
                .collision w.target).settle) ∧
            (∀ x, w.trigger = some x → x.bound.id = t.id → exec (.telegramArrival dt) s =
              .next (c.setIntake { c.intake with
                window := some { w with trigger := some (x.refreshed k t) } }).settle)) ∧
          (s.intake.window = none ∨ t.triggered = false → s.mode.power = .watch →
            exec (.telegramArrival dt) s = .next c.settle) ∧
          (s.intake.window = none ∨ t.triggered = false → s.mode.power ≠ .watch →
            ∃ (u : State) (d : Candidate), exec (.telegramArrival dt) s = .next u.settle ∧ c.OnlyTyresAndIntake u ∧
              u.tyres = s.tyres ∧ d.bound = ⟨t.id, k⟩ ∧ d.age = 0 ∧
              ((∀ e ∈ s.intake.candidates, e.bound.id ≠ t.id) →
                d.firstHeard = 0 ∧ d.pressure = t.pressure ∧
                d.sightings = (if s.inputs.motion = .moving ∧ t.rotating = true then 1 else 0) ∧
                d.sinceSighting = (if s.inputs.motion = .moving ∧ t.rotating = true then some 0 else none) ∧
                u.intake = { c.intake with
                  candidates := (if s.intake.candidates.length < 16 then s.intake.candidates
                    else evict s.intake.candidates) ++ [d] }) ∧
              (∀ (i : Nat) (e : Candidate), s.candidateLaw → s.intake.candidates[i]? = some e → e.bound.id = t.id →
                d.firstHeard = e.firstHeard ∧
                d.pressure = (if t.pressure.isSome then t.pressure else e.pressure) ∧
                d.sightings = (if s.countsSighting t e = true then min 255 (e.sightings + 1) else e.sightings) ∧
                d.sinceSighting = (if s.countsSighting t e = true then some 0 else e.sinceSighting) ∧
                u.intake = { c.intake with candidates := s.intake.candidates.set i d } ∧
                (d.ready = true ↔ e.ready = true ∨ (s.countsSighting t e = true ∧ 20 ≤ d.sightings)) ∧
                (e.ready = false → d.ready = true → u.port.notices.candidateReady = true)))

/-- R5, R16, R18, R42, R46: each second the ages of the bound records count up, and of each candidate the age, the time since
it was first heard, and the time since its last sighting where one has been counted; a record whose age exceeds the
silence timeout becomes SILENT, and its pair is compared; a candidate of age 600 leaves the list. The model's choices here: a count is one
second whatever the time since the command before (notes 11), a record found above the timeout is marked by the count and
becomes SILENT by a command of its own (notes 12), which without the mark only lets the time pass (notes 1), and a candidate
leaves by its own command too (notes 27). -/
def Obligations.AgesCount : Prop :=
  ∀ (dt : Nat) (s : State), s.powered = true →
    (∃ t : State, exec (.ageCount dt) s = .next t ∧ (s.elapse dt).OnlyTyresAndIntake t ∧
      t.intake = { s.intake with candidates := t.intake.candidates } ∧ t.tyres.pairs = s.tyres.pairs ∧
      t.port.notices = s.port.notices ∧
      (∀ q, (s.position q).state.isBound = false → t.position q = s.position q) ∧
      (∀ q, (s.position q).state.isBound = true →
        (t.position q).age = some (min 65535 ((s.position q).age.getD 0 + 1)) ∧
        (t.position q).state = (s.position q).state ∧ (t.position q).bound = (s.position q).bound ∧
        ((t.position q).silenceDue = true ↔
          ((s.position q).state = .live ∨ (s.position q).state = .awaiting) ∧
            s.silenceTimeout < min 65535 ((s.position q).age.getD 0 + 1))) ∧
      t.intake.candidates.length = s.intake.candidates.length ∧
      ∀ (i : Nat) (c : Candidate), s.intake.candidates[i]? = some c → ∃ d, t.intake.candidates[i]? = some d ∧
        d.bound = c.bound ∧ d.sightings = c.sightings ∧ d.pressure = c.pressure ∧ d.ready = c.ready ∧
        d.age = min 600 (c.age + 1) ∧ d.firstHeard = min 65535 (c.firstHeard + 1) ∧
        (c.sinceSighting = none → d.sinceSighting = none) ∧
        ∀ n, c.sinceSighting = some n → d.sinceSighting = some (min 60 (n + 1))) ∧
    (s.silenceTimeout = if s.inputs.motion = .moving then 360 else 2400) ∧
    (∀ q, (s.position q).silenceDue = true → (s.position q).state = .live ∨ (s.position q).state = .awaiting →
      ∃ t : State, exec (.sensorSilent dt q) s = .next t ∧ (s.elapse dt).OnlyTyres t ∧
        (t.position q).state = .silent ∧ (t.position q).bound = (s.position q).bound ∧
        (t.position q).age = (s.position q).age ∧ (t.position q).pressure = (s.position q).pressure ∧
        t.port.notices.sensorSilent = s.port.notices.sensorSilent ||| bit q.index ∧ s.PairsCompared t [q] ∧
        ∀ r, r ≠ q → t.position r = s.position r) ∧
    (∀ q, (s.position q).silenceDue = false ∨ ((s.position q).state ≠ .live ∧ (s.position q).state ≠ .awaiting) →
      exec (.sensorSilent dt q) s = .next (s.elapse dt)) ∧
    ∀ id, exec (.candidateExpiry dt id) s = .next ((s.elapse dt).setIntake { s.intake with
      candidates := s.intake.candidates.filter fun c => decide (c.bound.id ≠ id) || decide (c.age < 600) })

/-! ### Axles and loads -/

/-- R67, R105, R129: in READY the gated parameter writes take effect when every value is in range. A refused write of
the stability parameters or of the brake characteristic names the first value out of range and the end of the range that
it passes; a refused calibration names nothing. That the R_e of G1 is named where both are out of range is the model's
choice, notes 46. A new calibration reaches the load of its group by the group's status. -/
def Obligations.GatedParametersAreWritten : Prop :=
  ∀ (dt : Nat) (p : Params) (s : State), s.powered = true → s.mode.workshop = .ready →
    (p.count = 9 →
      (stabilityRefusal p = none ↔
        (800 ≤ wordAt p 0 ∧ wordAt p 0 ≤ 1100) ∧ (1000 ≤ wordAt p 2 ∧ wordAt p 2 ≤ 2500) ∧
          (wordAt p 2 ≤ wordAt p 4 ∧ wordAt p 4 ≤ 2800) ∧ (500 ≤ wordAt p 6 ∧ wordAt p 6 ≤ 900)) ∧
      (∀ n, stabilityRefusal p = some n → n =
        if wordAt p 0 < 800 then limitedAt 0 800
        else if 1100 < wordAt p 0 then limitedAt 0 1100
        else if wordAt p 2 < 1000 then limitedAt 2 1000
        else if 2500 < wordAt p 2 then limitedAt 2 2500
        else if wordAt p 4 < wordAt p 2 then limitedAt 4 (wordAt p 2)
        else if 2800 < wordAt p 4 then limitedAt 4 2800
        else if wordAt p 6 < 500 then limitedAt 6 500
        else limitedAt 6 900) ∧
      (∀ n, stabilityRefusal p = some n → exec (.writeStabilityParameters dt p) s =
        .next ((s.taken dt).turnedAway 0x58 .badParameter n)) ∧
      (stabilityRefusal p = none → 1 < byteAt p 8 → exec (.writeStabilityParameters dt p) s =
        .next ((s.taken dt).turnedAway 0x58 .badParameter (namedAt 8))) ∧
      (stabilityRefusal p = none → byteAt p 8 ≤ 1 → exec (.writeStabilityParameters dt p) s =
        .next (((s.taken dt).setSettings { s.settings with
          stability := ⟨wordAt p 0, wordAt p 2, wordAt p 4, wordAt p 6, decide (byteAt p 8 = 1)⟩ }).settle.answered
            0x58 []))) ∧
    (p.count = 9 → GroupId.ofNumber (byteAt p 0) = none → exec (.writeGroupCalibration dt p) s =
      .next ((s.taken dt).turnedAway 0x42 .badParameter unnamed)) ∧
    (∀ g c, p.count = 9 → GroupId.ofNumber (byteAt p 0) = some g →
      c = ⟨wordAt p 1, wordAt p 3, wordAt p 5, wordAt p 7, (s.calibration g).re⟩ →
      (¬(c.pe < c.pl ∧ c.pl ≤ 1000 ∧ c.we < c.wl ∧ c.wl ≤ 3000) → exec (.writeGroupCalibration dt p) s =
        .next ((s.taken dt).turnedAway 0x42 .badParameter unnamed)) ∧
      (c.pe < c.pl ∧ c.pl ≤ 1000 ∧ c.we < c.wl ∧ c.wl ≤ 3000 → ∃ u : State,
        exec (.writeGroupCalibration dt p) s = .next (u.settle.answered 0x42 []) ∧
        u.settings = { s.settings with groups := s.settings.groups.set g c } ∧
        ((s.group g).status = .held → u = (s.taken dt).setSettings u.settings) ∧
        (∀ pb, (s.group g).status = .valid → s.offered g.bellows = some pb →
          (u.group g).w = loadW c pb ∧ (u.group g).l = loadL c (loadW c pb)) ∧
        ((s.group g).status = .substituted → (u.group g).w = c.wl ∧ (u.group g).l = (s.group g).l))) ∧
    (p.count = 7 →
      (150 < wordAt p 0 → exec (.writeBrakeCharacteristic dt p) s =
        .next ((s.taken dt).turnedAway 0x43 .badParameter (limitedAt 0 150))) ∧
      (wordAt p 0 ≤ 150 → ¬(200 ≤ wordAt p 2 ∧ wordAt p 2 ≤ 1000) → exec (.writeBrakeCharacteristic dt p) s =
        .next ((s.taken dt).turnedAway 0x43 .badParameter
          (limitedAt 2 (if wordAt p 2 < 200 then 200 else 1000)))) ∧
      (wordAt p 0 ≤ 150 → 200 ≤ wordAt p 2 ∧ wordAt p 2 ≤ 1000 → ¬(200 ≤ wordAt p 4 ∧ wordAt p 4 ≤ 1000) →
        exec (.writeBrakeCharacteristic dt p) s = .next ((s.taken dt).turnedAway 0x43 .badParameter
          (limitedAt 4 (if wordAt p 4 < 200 then 200 else 1000)))) ∧
      (wordAt p 0 ≤ 150 → 200 ≤ wordAt p 2 ∧ wordAt p 2 ≤ 1000 → 200 ≤ wordAt p 4 ∧ wordAt p 4 ≤ 1000 →
        (1 < byteAt p 6 → exec (.writeBrakeCharacteristic dt p) s =
          .next ((s.taken dt).turnedAway 0x43 .badParameter (namedAt 6))) ∧
        (∀ a rest, byteAt p 6 = 0 → s.servingAxles .chX = a :: rest → exec (.writeBrakeCharacteristic dt p) s =
          .next ((s.taken dt).turnedAway 0x43 .conflict (namedAxle a))) ∧
        (byteAt p 6 = 1 ∨ (byteAt p 6 = 0 ∧ s.servingAxles .chX = []) → ∃ u : State,
          exec (.writeBrakeCharacteristic dt p) s = .next (u.settle.answered 0x43 []) ∧
          u = ((s.taken dt).setSettings { s.settings with
            knee := wordAt p 0, third := decide (byteAt p 6 = 1)
            groups := ⟨{ s.settings.groups.g1 with re := wordAt p 2 },
              { s.settings.groups.g2 with re := wordAt p 4 }⟩ }).setChannels u.channels ∧
          ∀ c, c ≠ .chX → u.channel c = s.channel c)))

/-- R17, R25, R64, R65, R73, R165: the three bytes of an axle spell its fields, and the first byte that spells none is named; a
layout is consistent exactly under the manual's eight conditions. In READY a consistent Write Axle Layout with every
axle DOWN replaces the layout, the lift modes, C and N; a position that exists no more is EMPTY with POSITIONS RETIRED
set where it was not, with TYRE LEVEL where a level was not NONE or NORMAL, and with its learn window cancelled where it
was LEARNING; every other position is as it was, and the pairs are derived anew (R17). A group that leaves use takes the
values of one that is not in use; one that enters use forms W and L from a VALID bellows average, else is HELD with W_l
and 1000, under the sensor cause from this moment where the input is INVALID (R73), and under the start cause where it is
STARTING (the model's reading, notes 21); one that stays in use keeps its load and its causes. A refused one names the field, C and N with the end of the range they pass, the first in byte
order of several (notes 49), the axle that is not DOWN, or the axle at which a condition fails (of two that clash, notes 18; for
a group, its first present axle, notes 13). That bits 6 and 7 of an axle's first byte are ignored is the model's choice,
notes 14. -/
def Obligations.AxleLayoutIsWritten : Prop :=
  (∀ (p : Params) (bad : Nat → Prop),
    (∀ j, bad j ↔ j < 15 ∧ ((j % 3 = 1 ∧ (6 < byteAt p j / 16 ∨ 6 < byteAt p j % 16)) ∨ (j % 3 = 2 ∧ 2 < byteAt p j))) →
    ((∃ t, axlesAt p = .ok t) ↔ ∀ j, ¬bad j) ∧
    (∀ i, axlesAt p = .error i ↔ bad i ∧ ∀ j, j < i → ¬bad j) ∧
    ∀ t a i, axlesAt p = .ok t → i = 3 * (a.number - 1) →
      (t.get a).layout.present = (p.bytes.getD i 0).getLsbD 0 ∧ (t.get a).layout.dual = (p.bytes.getD i 0).getLsbD 1 ∧
      (t.get a).layout.liftable = (p.bytes.getD i 0).getLsbD 2 ∧
      (t.get a).layout.valve2 = (p.bytes.getD i 0).getLsbD 3 ∧
      ((t.get a).layout.group = .g2 ↔ (p.bytes.getD i 0).getLsbD 4 = true) ∧
      (t.get a).layout.brakeX = (p.bytes.getD i 0).getLsbD 5 ∧
      ((t.get a).layout.left.map WheelId.number).getD 0 = byteAt p (i + 1) / 16 ∧
      ((t.get a).layout.right.map WheelId.number).getD 0 = byteAt p (i + 1) % 16 ∧
      ((t.get a).mode = .auto ↔ byteAt p (i + 2) = 0) ∧ ((t.get a).mode = .heldDown ↔ byteAt p (i + 2) = 1) ∧
      ((t.get a).mode = .heldUp ↔ byteAt p (i + 2) = 2)) ∧
  (∀ (t : PerAxle StoredAxle) (third : Bool) (present : AxleId → Prop) (alone : AxleId → Prop)
      (clashes : AxleId → AxleId → Prop),
    (∀ a, present a ↔ (t.get a).layout.present = true) →
    (∀ a, alone a ↔
      (present a ∧ ∃ w, (t.get a).layout.left = some w ∧ (t.get a).layout.right = some w) ∨
      (present a ∧ (t.get a).layout.brakeX = true ∧ third = false) ∨
      (present a ∧ ∀ b, present b → (t.get b).layout.group = (t.get a).layout.group →
        (t.get b).layout.liftable = true) ∨
      ((t.get a).layout.liftable = false ∧ (t.get a).mode ≠ .heldDown)) →
    (∀ a b, clashes a b ↔ a ≠ b ∧ present a ∧ present b ∧
      ((∃ w, ((t.get a).layout.left = some w ∨ (t.get a).layout.right = some w) ∧
          ((t.get b).layout.left = some w ∨ (t.get b).layout.right = some w)) ∨
        ((t.get a).layout.brakeX = (t.get b).layout.brakeX ∧ (t.get a).layout.group ≠ (t.get b).layout.group) ∨
        ((t.get a).layout.liftable = true ∧ (t.get b).layout.liftable = true ∧
          (t.get a).layout.valve2 = (t.get b).layout.valve2))) →
    (inconsistentAt t third = none ↔ present .a1 ∧ ∀ a, ¬alone a ∧ ∀ b, ¬clashes a b) ∧
    (¬present .a1 → inconsistentAt t third = some .a1) ∧
    ∀ a, present .a1 → inconsistentAt t third = some a → (alone a ∨ ∃ b, clashes a b) ∧
      ∀ b, b.number < a.number → ¬alone b ∧ ∀ d, d.number < b.number → ¬clashes b d) ∧
  ∀ (dt : Nat) (p : Params) (s : State), s.powered = true → s.mode.workshop = .ready → p.count = 18 →
    (∀ i, axlesAt p = .error i → exec (.writeAxleLayout dt p) s =
      .next ((s.taken dt).turnedAway 0x41 .badParameter (namedAt i))) ∧
    ∀ t, axlesAt p = .ok t →
      (∀ n, wheelRefusal (wordAt p 15) (byteAt p 17) = some n → exec (.writeAxleLayout dt p) s =
        .next ((s.taken dt).turnedAway 0x41 .badParameter n)) ∧
      (wheelRefusal (wordAt p 15) (byteAt p 17) = none ↔
        (2800 ≤ wordAt p 15 ∧ wordAt p 15 ≤ 3800) ∧ (80 ≤ byteAt p 17 ∧ byteAt p 17 ≤ 120)) ∧
      (wordAt p 15 < 2800 → wheelRefusal (wordAt p 15) (byteAt p 17) = some ⟨some 15, none, some 2800⟩) ∧
      (3800 < wordAt p 15 → wheelRefusal (wordAt p 15) (byteAt p 17) = some ⟨some 15, none, some 3800⟩) ∧
      (2800 ≤ wordAt p 15 → wordAt p 15 ≤ 3800 →
        (byteAt p 17 < 80 → wheelRefusal (wordAt p 15) (byteAt p 17) = some ⟨some 17, none, some 80⟩) ∧
        (120 < byteAt p 17 → wheelRefusal (wordAt p 15) (byteAt p 17) = some ⟨some 17, none, some 120⟩)) ∧
      (wheelRefusal (wordAt p 15) (byteAt p 17) = none →
        (∀ a, (s.axle a).lift ≠ .down → (∀ b, b.number < a.number → (s.axle b).lift = .down) →
          exec (.writeAxleLayout dt p) s = .next ((s.taken dt).turnedAway 0x41 .conflict (namedAxle a))) ∧
        ((∀ a, (s.axle a).lift = .down) →
          (∀ a, inconsistentAt t s.settings.third = some a → exec (.writeAxleLayout dt p) s =
            .next ((s.taken dt).turnedAway 0x41 .conflict (namedAxle a))) ∧
          (inconsistentAt t s.settings.third = none → s.TableLaws → ∃ u : State,
            exec (.writeAxleLayout dt p) s = .next (u.settle.answered 0x41 []) ∧
            (∀ a, (u.axle a).layout = (t.get a).layout ∧
              (u.axle a).mode = (if (t.get a).mode = .heldDown then .heldDown else .auto) ∧
              (u.axle a).lift = .down ∧ (u.axle a).raisePending = false ∧ (u.axle a).conflict = false) ∧
            u.settings = { s.settings with circumference := wordAt p 15, teeth := byteAt p 17 } ∧
            (∀ q, u.positionExists q = false → (u.position q).state = .empty ∧ (u.position q).bound = none ∧
              (u.position q).pl = (s.position q).pl ∧ (u.position q).pe = (s.position q).pe ∧
              ((s.position q).state ≠ .empty → u.port.notices.positionsRetired &&& bit q.index = bit q.index) ∧
              ((s.position q).state.isBound = true → (s.position q).levels ≠ (.none, .normal) →
                u.port.notices.tyreLevel &&& bit q.index = bit q.index) ∧
              ((s.position q).state = .learning → u.intake.window = none ∧
                u.port.notices.learnResult = some (.cancelled, q))) ∧
            (∀ q, u.positionExists q = true → u.position q = s.position q) ∧
            (∀ g, (u.group g).n = axlesDown u.loads.axles g ∧ (u.group g).raiseSince = none ∧
              (u.group g).raiseDue = false ∧
              (u.groupInUse g = false → u.group g = .unused (s.calibration g).re) ∧
              (s.groupInUse g = true → u.groupInUse g = true →
                (u.group g).status = (s.group g).status ∧ (u.group g).w = (s.group g).w ∧
                (u.group g).l = (s.group g).l ∧ (u.group g).holdStart = (s.group g).holdStart ∧
                (u.group g).holdTransition = (s.group g).holdTransition ∧
                (u.group g).holdRoll = (s.group g).holdRoll ∧ (u.group g).holdSensor = (s.group g).holdSensor ∧
                (u.group g).sensorSince = (s.group g).sensorSince) ∧
              (s.groupInUse g = false → u.groupInUse g = true →
                (u.group g).holdTransition = false ∧ (u.group g).holdRoll = false ∧
                (∀ pb, (s.analog g.bellows).validity = .valid → (s.analog g.bellows).average = some pb →
                  (u.group g).status = .valid ∧ (u.group g).holdStart = false ∧ (u.group g).holdSensor = false ∧
                  (u.group g).w = loadW (s.calibration g) pb ∧
                  (u.group g).l = loadL (s.calibration g) (loadW (s.calibration g) pb)) ∧
                ((s.analog g.bellows).validity ≠ .valid → (u.group g).status = .held ∧
                  (u.group g).w = (s.calibration g).wl ∧ (u.group g).l = 1000) ∧
                ((s.analog g.bellows).validity = .invalid → (u.group g).holdStart = false ∧
                  (u.group g).holdSensor = true ∧ (u.group g).sensorSince = some (s.now + dt)) ∧
                ((s.analog g.bellows).validity = .starting → (u.group g).holdStart = true ∧
                  (u.group g).holdSensor = false ∧ (u.group g).sensorSince = none))) ∧
            ∀ a sd, (u.pair a sd = .notAPair ↔ (u.axle a).layout.paired = false ∨
                ((s.axle a).layout.paired = true ∧ s.pair a sd = .notAPair)) ∧
              ((u.axle a).layout.paired = true → (s.axle a).layout.paired = true → u.pair a sd = s.pair a sd) ∧
              ((u.axle a).layout.paired = true → (s.axle a).layout.paired = false → u.pair a sd = .unordered))))

/-- R75, R79, R81, R82: Set Lift Mode on a present axle: AUTO and HELD DOWN clear the pending raise, HELD DOWN lowers a
lifted axle, and HELD UP raises a DOWN one, or leaves its raise pending while the part brakes or the STU acts (that it waits
for the STU as for the brakes is the model's choice, notes 35); HELD UP is refused while one of its conditions holds, with
the limiting value of the load and speed bounds where these alone hold (notes 13). A pending raise is tried again, a HELD UP
axle is lowered at its bounds, and the beginning of braking aborts a raise. -/
def Obligations.LiftModesAreSet : Prop :=
  (∀ (s : State) (a : AxleId) (r : AxleRecord) (bound : Nat), s.axle a = r →
    bound = 1300 * (s.calibration r.layout.group).wl / 1000 →
    (s.projectionOf a = if r.lift = .down
      then (s.group r.layout.group).w * (s.group r.layout.group).n / ((s.group r.layout.group).n - 1)
      else (s.group r.layout.group).w) ∧
    (s.heldUpRefusal a =
      if r.lift = .lowering ∨ (s.analog .sup).validity = .invalid ∨ s.supplyBelow = true ∨
          s.otherTyre a isAlarm = true then some ⟨none, none, none⟩
      else if 300 ≤ s.inputs.reference then some ⟨none, none, some 300⟩
      else if bound < s.projectionOf a then some ⟨none, none, some bound⟩
      else none) ∧
    (r.mode = .heldUp → r.raisePending = true → r.lift = .down →
      (s.demands.braking = true ∨ (s.stability.state ≠ .idle ∧ s.stability.state ≠ .armed) → s.retryHeldUp a = s) ∧
      (s.demands.braking = false → s.stability.state = .idle ∨ s.stability.state = .armed →
        ((s.heldUpRefusal a).isSome = true →
          s.retryHeldUp a = s.setAxle a { r with mode := .auto, raisePending := false }) ∧
        (s.heldUpRefusal a = none → ((s.retryHeldUp a).axle a).lift = .raising ∧
          ((s.retryHeldUp a).axle a).raisePending = false ∧ ((s.retryHeldUp a).axle a).mode = .heldUp))) ∧
    (r.mode = .heldUp → r.lift = .raising ∨ r.lift = .up →
      bound < (s.group r.layout.group).w ∨ 300 ≤ s.inputs.reference →
      ((s.boundHeldUp a).axle a).lift = .lowering ∧ ((s.boundHeldUp a).axle a).mode = .auto) ∧
    (r.mode ≠ .heldUp ∨ ((s.group r.layout.group).w ≤ bound ∧ s.inputs.reference < 300) ∨ r.lift = .down ∨
      r.lift = .lowering → s.boundHeldUp a = s) ∧
    (r.lift = .raising → ((s.takeBraking true).axle a).lift = .lowering ∧
      ((s.takeBraking true).axle a).mode = (if r.mode = .heldUp then .auto else r.mode)) ∧
    (r.lift ≠ .raising → (s.takeBraking true).axle a = r) ∧
    s.takeBraking false = s.setDemands { s.demands with braking := false }) ∧
  ∀ (dt : Nat) (p : Params) (s : State), s.powered = true → p.count = 2 →
    (AxleId.ofNumber (byteAt p 0) = none ∨ 2 < byteAt p 1 → exec (.setLiftMode dt p) s =
      .next ((s.taken dt).turnedAway 0x44 .badParameter unnamed)) ∧
    ∀ a, AxleId.ofNumber (byteAt p 0) = some a → s.mode.power ≠ .watch →
      (byteAt p 1 ≤ 2 → (s.axle a).layout.present = false → exec (.setLiftMode dt p) s =
        .next ((s.taken dt).turnedAway 0x44 .noSuchRecord unnamed)) ∧
      ((s.axle a).layout.present = true →
        (byteAt p 1 = 0 ∨ byteAt p 1 = 2 → (s.axle a).layout.liftable = false → exec (.setLiftMode dt p) s =
          .next ((s.taken dt).turnedAway 0x44 .conflict unnamed)) ∧
        (byteAt p 1 = 0 → (s.axle a).layout.liftable = true → exec (.setLiftMode dt p) s =
          .next (((s.taken dt).setAxle a { s.axle a with mode := .auto, raisePending := false }).settle.answered
            0x44 [])) ∧
        (byteAt p 1 = 1 → ∃ u : State, exec (.setLiftMode dt p) s = .next (u.settle.answered 0x44 []) ∧
          (u.axle a).mode = .heldDown ∧ (u.axle a).raisePending = false ∧
          (u.axle a).lift = (if (s.axle a).lift = .raising ∨ (s.axle a).lift = .up then .lowering
            else (s.axle a).lift) ∧
          ∀ b, b ≠ a → u.axle b = s.axle b) ∧
        (byteAt p 1 = 2 → (s.axle a).layout.liftable = true →
          (∀ n, s.heldUpRefusal a = some n → exec (.setLiftMode dt p) s =
            .next ((s.taken dt).turnedAway 0x44 .conflict n)) ∧
          (s.heldUpRefusal a = none ↔
            (s.axle a).lift ≠ .lowering ∧ (s.analog .sup).validity ≠ .invalid ∧ s.supplyBelow = false ∧
              s.otherTyre a isAlarm = false ∧ s.inputs.reference < 300 ∧
              s.projectionOf a ≤ 1300 * (s.calibration (s.axle a).layout.group).wl / 1000) ∧
          (s.heldUpRefusal a = none → ∃ u : State,
            exec (.setLiftMode dt p) s = .next (u.settle.answered 0x44 []) ∧ (u.axle a).mode = .heldUp ∧
            ((s.axle a).lift = .down →
              s.demands.braking = true ∨ (s.stability.state ≠ .idle ∧ s.stability.state ≠ .armed) →
              (u.axle a).lift = .down ∧ (u.axle a).raisePending = true) ∧
            ((s.axle a).lift = .down → s.demands.braking = false →
              s.stability.state = .idle ∨ s.stability.state = .armed → (u.axle a).lift = .raising) ∧
            ((s.axle a).lift ≠ .down → (u.axle a).lift = (s.axle a).lift) ∧
            ∀ b, b ≠ a → u.axle b = s.axle b)))

/-- R70, R74, R76 to R78, R80, R83 to R85: while the decisions run, the raise measurement of a group runs with an
eligible axle and a projected load of at most 700 per mille of W_l, and the lower measurement of an UP AUTO axle while W
exceeds 900 per mille; a raise that has become due starts where its conditions hold, waits while the part brakes, and
stays due where another condition bars it; a transition ends after 3 s at UP and after 2 s at DOWN, with LIFT CHANGE,
the counts of axles down and the completion of a LIFT step on the axle; the due axles of a group are lowered together
(notes 23). A lift valve is energised while its axle is RAISING or UP outside WATCH. A tyre alarm on another DOWN axle
lowers a lifted axle, or finds a conflict where the axle has an alarm of its own; an UP axle whose wheels turn is at
fault. The model's choices: a LIFT step is done before the wheels of its axle, DOWN again, form a new reference speed
(notes 58), and a command that is not due only lets the time pass (notes 1). -/
def Obligations.LiftTransitionsRun : Prop :=
  (∀ (s : State) (g : GroupId) (eligible : AxleId → Prop),
    (∀ a, eligible a ↔ (s.axle a).layout.present = true ∧ (s.axle a).layout.group = g ∧
      (s.axle a).layout.liftable = true ∧ (s.axle a).lift = .down ∧ (s.axle a).mode = .auto) →
    (s.decisionsRun = true ↔ s.mode.power = .awake ∧ (s.mode.workshop = .off ∨ s.mode.workshop = .pending) ∧
      (s.analog .sup).validity = .valid) ∧
    (∀ a, s.chosenAxle g = some a ↔ eligible a ∧ ∀ b, eligible b → b.number ≤ a.number) ∧
    (s.raiseRuns g = true ↔ s.decisionsRun = true ∧ (∃ a, eligible a) ∧ 2 ≤ (s.group g).n ∧
      (s.group g).status = .valid ∧
      (s.group g).w * (s.group g).n / ((s.group g).n - 1) ≤ 700 * (s.calibration g).wl / 1000) ∧
    (s.raiseRuns g = true → (s.group g).raiseDue = false → s.followRaise g =
      s.setGroup g { s.group g with raiseSince := some ((s.group g).raiseSince.getD s.now) }) ∧
    (s.raiseRuns g = false → ((s.followRaise g).group g).raiseSince = none ∧
      ((s.followRaise g).group g).raiseDue = false ∧
      ∀ a, (s.decisionsRun = true → (s.axle a).layout.serves g = true → (s.axle a).mode = .auto →
          (s.followRaise g).axle a = { s.axle a with raisePending := false }) ∧
        (s.decisionsRun = false ∨ (s.axle a).layout.serves g = false ∨ (s.axle a).mode ≠ .auto →
          (s.followRaise g).axle a = s.axle a))) ∧
  (∀ (s : State) (a : AxleId) (heavy : Prop),
    (heavy ↔ s.decisionsRun = true ∧ (s.axle a).layout.present = true ∧ (s.axle a).layout.liftable = true ∧
      (s.axle a).lift = .up ∧ (s.axle a).mode = .auto ∧
      900 * (s.calibration (s.axle a).layout.group).wl / 1000 < (s.group (s.axle a).layout.group).w) →
    (heavy → s.followLower a = s.setAxle a { s.axle a with lowerSince := some ((s.axle a).lowerSince.getD s.now) }) ∧
    (¬heavy → s.followLower a = s.setAxle a { s.axle a with lowerSince := none }) ∧
    (s.lowerDue a = true ↔ ∃ t, (s.axle a).lowerSince = some t ∧ t + 1000000 ≤ s.now)) ∧
  (∀ (s : State) (second : Bool), s.liftValve second = true ↔ s.mode.power ≠ .watch ∧ ∃ a,
    (s.axle a).layout.present = true ∧ (s.axle a).layout.liftable = true ∧ (s.axle a).layout.valve2 = second ∧
    ((s.axle a).lift = .raising ∨ (s.axle a).lift = .up)) ∧
  (∀ (s : State) (a : AxleId) (r : AxleRecord), s.axle a = r → r.layout.present = true → r.layout.liftable = true →
    (r.lift = .raising ∨ r.lift = .up →
      (s.otherTyre a isAlarm = true → s.ownAlarm a = false →
        ((s.testTyres a).axle a).lift = .lowering ∧ ((s.testTyres a).axle a).conflict = false ∧
        ((s.testTyres a).axle a).mode = (if r.mode = .heldUp then .auto else r.mode)) ∧
      (s.otherTyre a isAlarm = true → s.ownAlarm a = true → (s.testTyres a).axle a = { r with conflict := true } ∧
        (s.testTyres a).port.notices.liftConflict =
          if r.conflict = true then s.port.notices.liftConflict
          else s.port.notices.liftConflict ||| bit (a.number - 1)) ∧
      (s.otherTyre a isAlarm = false → s.testTyres a = s.setAxle a { r with conflict := false })) ∧
    (r.lift = .down ∨ r.lift = .lowering → s.testTyres a = s) ∧
    (s.wheelTurns a = true ↔ ∃ w, (r.layout.left = some w ∨ r.layout.right = some w) ∧ (s.wheel w).valid = true ∧
      50 < (s.wheel w).speed) ∧
    (r.lift = .up → s.wheelTurns a = true → 100 < s.inputs.reference →
      ((s.judgeLiftFault a).axle a).lift = .lowering ∧ ((s.judgeLiftFault a).axle a).mode = .heldDown ∧
      (s.judgeLiftFault a).port.notices.liftFault = s.port.notices.liftFault ||| bit (a.number - 1) ∧
      (∀ x, s.mode.running = some x → x.step = .lift a true ∨ x.step = .lift a false →
        (s.judgeLiftFault a).mode =
          { s.mode with workshop := .stepFault, running := none, result := .fault, cause := some .liftFault })) ∧
    (r.lift ≠ .up ∨ s.wheelTurns a = false ∨ s.inputs.reference ≤ 100 → s.judgeLiftFault a = s)) ∧
  ∀ (dt : Nat) (s : State), s.powered = true →
    (∀ g a, s.raiseRuns g = true → (s.group g).raiseDue = false → s.chosenAxle g = some a →
      (s.elapse dt).reached (s.group g).raiseSince 5000000 = true → ∃ u : State,
      exec (.raiseDue dt g) s = .next u.settle ∧ (u.group g).raiseDue = true ∧ (u.axle a).mode = .auto ∧
      (s.demands.braking = true → (u.axle a).lift = .down ∧ (u.axle a).raisePending = true) ∧
      (s.demands.braking = false → (u.axle a).raisePending = false ∧
        ((u.axle a).lift = .raising ↔
          s.otherTyre a isWarning = false ∧ s.supplySound = true ∧ s.stuActing = false) ∧
        ((u.axle a).lift = .raising ∨ (u.axle a).lift = .down) ∧
        ((u.axle a).lift = .raising → (u.axle a).liftSince = s.now + dt ∧ (u.group g).holdTransition = true ∧
          (u.group g).status ≠ .valid))) ∧
    (∀ g, s.raiseRuns g = false ∨ (s.group g).raiseDue = true ∨
      (s.elapse dt).reached (s.group g).raiseSince 5000000 = false →
      exec (.raiseDue dt g) s = .next (s.elapse dt)) ∧
    (∀ a, (s.axle a).lift = .raising → (s.axle a).liftSince + 3000000 ≤ s.now + dt → ∃ u : State,
      exec (.raiseComplete dt a) s = .next u.settle ∧ (u.axle a).lift = .up ∧
      u.port.notices.liftChange &&& bit (a.number - 1) = bit (a.number - 1) ∧
      (∀ g, (u.group g).n = axlesDown u.loads.axles g) ∧
      (∀ r, s.mode.running = some r → r.step = .lift a true → u.mode =
        { s.mode with workshop := .ready, running := none, result := .done, cause := none }) ∧
      ((∀ r, s.mode.running = some r → r.step ≠ .lift a true) → u.mode = s.mode) ∧
      ∀ b, b ≠ a → u.axle b = s.axle b) ∧
    (∀ a, (s.axle a).lift ≠ .raising ∨ s.now + dt < (s.axle a).liftSince + 3000000 →
      exec (.raiseComplete dt a) s = .next (s.elapse dt)) ∧
    (∀ a, (s.axle a).lift = .lowering → (s.axle a).liftSince + 2000000 ≤ s.now + dt → ∃ u : State,
      exec (.lowerComplete dt a) s = .next u.settle ∧ (u.axle a).lift = .down ∧ (u.axle a).conflict = false ∧
      u.port.notices.liftChange &&& bit (a.number - 1) = bit (a.number - 1) ∧
      (∀ g, (u.group g).n = axlesDown u.loads.axles g) ∧
      (∀ r, s.mode.running = some r → r.step = .lift a false → u.mode =
        { s.mode with workshop := .ready, running := none, result := .done, cause := none }) ∧
      ((∀ r, s.mode.running = some r → r.step ≠ .lift a false) → u.mode = s.mode) ∧
      ∀ b, b ≠ a → u.axle b = s.axle b) ∧
    (∀ a, (s.axle a).lift ≠ .lowering ∨ s.now + dt < (s.axle a).liftSince + 2000000 →
      exec (.lowerComplete dt a) s = .next (s.elapse dt)) ∧
    (∀ g, (∃ a, (s.axle a).layout.serves g = true ∧ (s.elapse dt).lowerDue a = true) → ∃ u : State,
      exec (.autoLower dt g) s = .next u.settle ∧
      ∀ a, (((s.axle a).layout.serves g = true ∧ (s.elapse dt).lowerDue a = true ∧
          ((s.axle a).lift = .up ∨ (s.axle a).lift = .raising)) →
          (u.axle a).lift = .lowering ∧ (u.axle a).liftSince = s.now + dt ∧ (u.axle a).mode = (s.axle a).mode) ∧
        ((s.axle a).layout.serves g = false ∨ (s.elapse dt).lowerDue a = false → u.axle a = s.axle a)) ∧
    ∀ g, (∀ a, (s.axle a).layout.serves g = true → (s.elapse dt).lowerDue a = false) →
      exec (.autoLower dt g) s = .next (s.elapse dt)

/-- R69, R70, R72: one second after the last transition its hold ends, and a group without another cause takes the load of
its bellows input; after ten seconds of an invalid bellows input the group takes the laden load. That a hold's end or a
substitution that is not due only lets the time pass is the model's choice, notes 1. -/
def Obligations.LoadHoldsEnd : Prop :=
  ∀ (dt : Nat) (s : State) (g : GroupId) (r : GroupRecord), s.powered = true → s.group g = r →
    (∀ since, r.holdTransition = true → r.transitionEndSince = some since → since + 1000000 ≤ s.now + dt → ∃ u : State,
      exec (.transitionHoldEnd dt g) s = .next u.settle ∧
      (r.holdStart = true ∨ r.holdRoll = true ∨ r.holdSensor = true →
        u = (s.elapse dt).setGroup g { r with holdTransition := false, transitionEndSince := none }) ∧
      ∀ pb, r.holdStart = false → r.holdRoll = false → r.holdSensor = false → r.status ≠ .valid →
        s.offered g.bellows = some pb →
        (u.group g).w = loadW (s.calibration g) pb ∧ (u.group g).l = loadL (s.calibration g) (u.group g).w ∧
        ((∀ a, (s.axle a).mode ≠ .heldUp) →
          (u.group g).status = .valid ∧ (u.group g).holdTransition = false ∧ u.loads.axles = s.loads.axles)) ∧
    (r.holdTransition = false ∨ (s.elapse dt).reached r.transitionEndSince 1000000 = false →
      exec (.transitionHoldEnd dt g) s = .next (s.elapse dt)) ∧
    (∀ since, r.holdSensor = true → r.sensorSince = some since → since + 10000000 ≤ s.now + dt → ∃ u : State,
      exec (.loadSubstitution dt g) s = .next u.settle ∧ (u.group g).status = .substituted ∧
      (u.group g).w = (s.calibration g).wl ∧ (u.group g).l = 1000 ∧ (u.group g).holdSensor = true ∧
      ((∀ a, (s.axle a).mode ≠ .heldUp) → u.loads.axles = s.loads.axles)) ∧
    (r.holdSensor = false ∨ (s.elapse dt).reached r.sensorSince 10000000 = false →
      exec (.loadSubstitution dt g) s = .next (s.elapse dt))

/-! ### Brakes -/

/-- R87 to R90, R95, R96: an accepted Post Demand creates or refreshes the DIGITAL entry and answers with P_d; 150 ms
without a post retire it with DIGITAL TIMEOUT; the mismatch record moves on as its 400 ms timer expires. That an expiry
before its time only lets the time pass is the model's choice, notes 1. -/
def Obligations.DemandsFollowTheirTimers : Prop :=
  ∀ (dt : Nat) (p : Params) (s : State), s.powered = true →
    (∀ v, p.count = 2 → s.mode.power ≠ .watch → wordAt p 0 = v →
      (1000 < v → exec (.postDemand dt p) s =
        .next ((s.taken dt).turnedAway 0x50 .badParameter ⟨none, none, some 1000⟩)) ∧
      (v ≤ 1000 → ∃ (u : State) (e : Entry),
        exec (.postDemand dt p) s = .next (u.settle.answered 0x50
          (bytes2 u.settle.demands.driver ++ [if u.settle.mismatchInForce then 1 else 0])) ∧
        u = (s.taken dt).setDemands u.demands ∧
        u.demands = { s.demands with table := u.demands.table } ∧ u.entry .digital = some e ∧
        e.demand = .whole v ∧ e.refreshedAt = some (s.now + dt) ∧
        (∀ x, x ≠ .digital → u.entry x = s.entry x) ∧
        (∀ f, s.entry .digital = some f →
          e.createdAt = f.createdAt ∧ u.demands.table.map Entry.source = s.demands.table.map Entry.source) ∧
        (s.entry .digital = none → e.createdAt = s.now + dt ∧ u.demands.table = s.demands.table ++ [e]) ∧
        u.settle.demands.driver =
          (if u.settle.mismatchInForce then max v (u.settle.sourcePressure .pneumatic) else v))) ∧
    (∀ e since, s.entry .digital = some e → e.refreshedAt = some since → since + 150000 ≤ s.now + dt →
      exec (.digitalTimeout dt) s =
        .next (((s.elapse dt).setDemands { s.demands with
          table := s.demands.table.filter fun e => decide (e.source ≠ .digital) }).noteDigitalTimeout).settle) ∧
    (∀ e since, s.entry .digital = some e → e.refreshedAt = some since → s.now + dt < since + 150000 →
      exec (.digitalTimeout dt) s = .next (s.elapse dt)) ∧
    (s.entry .digital = none → exec (.digitalTimeout dt) s = .next (s.elapse dt)) ∧
    (∀ since, s.demands.mismatchSince = some since → since + 400000 ≤ s.now + dt →
      (s.demands.mismatch = .diverging → exec (.mismatchTimerExpiry dt) s =
        .next ((s.elapse dt).setDemands { s.demands with mismatch := .inForce, mismatchSince := none }).settle) ∧
      (s.demands.mismatch = .converging → exec (.mismatchTimerExpiry dt) s =
        .next ((s.elapse dt).setDemands { s.demands with mismatch := .agreed, mismatchSince := none }).settle)) ∧
    ((s.elapse dt).reached s.demands.mismatchSince 400000 = false →
      exec (.mismatchTimerExpiry dt) s = .next (s.elapse dt))

/-- R116 to R118: slip is 1000 times the difference to the reference speed over the reference speed, absent below 50 or
without a wheel set, and the lock-release state follows it, the target and the cap, which rises in REAPPLY by 600 kPa/s
with each average; while lock release is not active the channel is FREE. 1500 ms in RELEASE suspend lock release on the
channel with LOCK TIMEOUT, and 150 ms in HOLD go on to REAPPLY, or back to RELEASE while slip is above 200. The model's
choices: the time of the ramp counts in whole ms (notes 57), a cap that an average leaves equal is tested too (notes
40), and an expiry before its time only lets the time pass (notes 1). -/
def Obligations.LockReleaseRuns : Prop :=
  (∀ (s : State) (c : ChannelId) (v : Nat), s.formedWheelSpeed c = some v → 50 ≤ s.inputs.reference →
    s.formedSlip c = some (1000 * (s.inputs.reference - v) / s.inputs.reference)) ∧
  (∀ (s : State) (c : ChannelId),
    (s.inputs.reference < 50 ∨ s.formedWheelSpeed c = none → s.formedSlip c = none) ∧
    (s.formedWheelSpeed c = none ↔ s.wheelSet c = []) ∧
    (∀ v, s.formedWheelSpeed c = some v →
      (∃ w ∈ s.wheelSet c, (s.wheel w).speed = v) ∧ ∀ w ∈ s.wheelSet c, v ≤ (s.wheel w).speed) ∧
    (∀ w, w ∈ s.wheelSet c ↔ (s.wheel w).valid = true ∧ ∃ a ∈ s.servingAxles c, (s.axle a).lift = .down ∧
      ((c ≠ .chR ∧ (s.axle a).layout.left = some w) ∨ (c ≠ .chL ∧ (s.axle a).layout.right = some w))) ∧
    ((s.followSlip c).channel c).slip = s.formedSlip c ∧
    ((s.followSlip c).channel c).wheelSpeed = s.formedWheelSpeed c ∧
    (s.lockActive c = true ↔ s.channels.mode = .electronic ∧ s.mode.power ≠ .watch ∧ s.servingAxles c ≠ [] ∧
      (s.channel c).slip.isSome = true ∧ (s.channel c).suspended = false ∧ (s.channel c).suppressed = false) ∧
    (s.lockActive c = false → ∀ t : State, t = s.lockOnSlip c ∨ t = s.lockOnTarget c ∨ t = s.testActivity c →
      t = s.setChannel c { s.channel c with lock := .free, cap := 1000 }) ∧
    (s.lockActive c = true → s.testActivity c = s)) ∧
  (∀ (s : State) (c : ChannelId) (r : ChannelRecord) (t : State), s.lockActive c = true → s.channel c = r →
    t = s.lockOnTarget c →
    (r.lock = .free → 200 < r.slip.getD 0 → 0 < r.target →
      (t.channel c).lock = .release ∧ (t.channel c).cap = 0 ∧ (t.channel c).lockSince = s.now) ∧
    (r.lock = .free → r.slip.getD 0 ≤ 200 ∨ r.target = 0 → t = s) ∧
    (r.lock = .release ∨ r.lock = .hold → 0 < r.target → t = s) ∧
    (r.lock = .reapply → r.cap < r.target → t = s) ∧
    (r.lock ≠ .free → r.target = 0 ∨ (r.lock = .reapply ∧ r.target ≤ r.cap) →
      t = s.setChannel c { r with lock := .free, cap := 1000 })) ∧
  (∀ (s : State) (c : ChannelId) (r : ChannelRecord) (cap : Nat), s.channel c = r →
    cap = min 1000 (r.reapplyFrom + 600 * ((s.now - r.lockSince) / 1000) / 1000) →
    (r.lock = .reapply → cap < r.target → s.rampCap c = s.setChannel c { r with cap := cap }) ∧
    (r.lock = .reapply → r.target ≤ cap → s.rampCap c = s.setChannel c { r with lock := .free, cap := 1000 }) ∧
    (r.lock ≠ .reapply → s.rampCap c = s)) ∧
  (∀ (s : State) (c : ChannelId) (x : Nat), s.lockActive c = true → (s.channel c).slip = some x →
    ((s.channel c).lock = .free → 200 < x → 0 < (s.channel c).target →
      ((s.lockOnSlip c).channel c).lock = .release ∧ ((s.lockOnSlip c).channel c).cap = 0) ∧
    ((s.channel c).lock = .free → x ≤ 200 ∨ (s.channel c).target = 0 → s.lockOnSlip c = s) ∧
    ((s.channel c).lock = .release → x < 100 → ((s.lockOnSlip c).channel c).lock = .hold ∧
      ((s.lockOnSlip c).channel c).cap = (s.channel c).delivered.getD 0) ∧
    ((s.channel c).lock = .release → 100 ≤ x → s.lockOnSlip c = s) ∧
    ((s.channel c).lock = .hold → s.lockOnSlip c = s) ∧
    ((s.channel c).lock = .reapply → 200 < x → ((s.lockOnSlip c).channel c).lock = .release) ∧
    ((s.channel c).lock = .reapply → x ≤ 200 → s.lockOnSlip c = s)) ∧
  ∀ (dt : Nat) (s : State) (c : ChannelId) (r : ChannelRecord), s.powered = true → s.channel c = r →
    (r.lock = .release → r.lockSince + 1500000 ≤ s.now + dt → exec (.lockTimeout dt c) s =
      .next (((s.elapse dt).setChannel c { r with lock := .free, cap := 1000, suspended := true }).noteLockTimeout
        c).settle) ∧
    (r.lock ≠ .release ∨ s.now + dt < r.lockSince + 1500000 →
      exec (.lockTimeout dt c) s = .next (s.elapse dt)) ∧
    (r.lock = .hold → r.lockSince + 150000 ≤ s.now + dt → 200 < r.slip.getD 0 → ∃ u : State,
      exec (.holdTimerExpiry dt c) s = .next u.settle ∧ (u.channel c).lock = .release ∧ (u.channel c).cap = 0 ∧
      (u.channel c).lockSince = s.now + dt ∧ ∀ d, d ≠ c → (u.channel d).lock = (s.channel d).lock) ∧
    (r.lock = .hold → r.lockSince + 150000 ≤ s.now + dt → r.slip.getD 0 ≤ 200 →
      exec (.holdTimerExpiry dt c) s =
        .next ((s.elapse dt).setChannel c
          { r with lock := .reapply, lockSince := s.now + dt, reapplyFrom := r.cap }).settle) ∧
    (r.lock ≠ .hold ∨ s.now + dt < r.lockSince + 150000 →
      exec (.holdTimerExpiry dt c) s = .next (s.elapse dt))

/-- R115, R120 to R124: a monitor starts with p_m and stops with its conditions, and 20 kPa of progress at an average start
it anew. Each cause of FALLBACK, once due in ELECTRONIC, de-energises every valve, frees lock release, puts the STU in IDLE
and faults a CHANNEL PRESSURE step; one that arrives in FALLBACK changes nothing, and one that is not due only lets the time
pass: the model's choice, notes 1. Clear Brake Fault in READY brings the brakes back, stops the monitors and ends the
suspensions, unless an input it needs is INVALID. -/
def Obligations.FaultsBringFallback : Prop :=
  (∀ (s t : State) (c : ChannelId), t = s.followValves c →
    (t.channel c).delivered = s.pressureOf c.delivered ∧
    (s.channels.mode = .electronic ∧ s.mode.power ≠ .watch ∧ (s.pressureOf c.delivered).isSome = true →
      (t.channel c).inlet = (s.channel c).inlet ∧ (t.channel c).exhaust = (s.channel c).exhaust) ∧
    (s.channels.mode = .fallback ∨ s.mode.power = .watch ∨ s.pressureOf c.delivered = none →
      (t.channel c).inlet = false ∧ (t.channel c).exhaust = false) ∧
    ((t.channel c).inlet = true ∧ (∃ v, s.pressureOf .sup = some v ∧ (s.channel c).target + 50 ≤ v) →
      (t.channel c).inletMonitor =
        some ((s.channel c).inletMonitor.getD ⟨(t.channel c).delivered.getD 0, s.now⟩)) ∧
    ((t.channel c).inlet = false ∨ (∀ v, s.pressureOf .sup = some v → v < (s.channel c).target + 50) →
      (t.channel c).inletMonitor = none) ∧
    ((t.channel c).exhaust = true ∧ 40 < (t.channel c).delivered.getD 0 →
      (t.channel c).exhaustMonitor =
        some ((s.channel c).exhaustMonitor.getD ⟨(t.channel c).delivered.getD 0, s.now⟩)) ∧
    ((t.channel c).exhaust = false ∨ (t.channel c).delivered.getD 0 ≤ 40 → (t.channel c).exhaustMonitor = none)) ∧
  (∀ (s : State) (c : ChannelId) (pm : Nat),
    ((s.takeDelivered c pm).channel c).inletMonitor = (s.channel c).inletMonitor.map (fun m =>
      if m.reference + 20 ≤ pm then ⟨pm, s.now⟩ else m) ∧
    ((s.takeDelivered c pm).channel c).exhaustMonitor = (s.channel c).exhaustMonitor.map (fun m =>
      if pm + 20 ≤ m.reference then ⟨pm, s.now⟩ else m)) ∧
  (∀ (dt : Nat) (s : State) (i : Instr) (cause : FallbackCause) (due : Bool), s.powered = true →
    (∃ c, (i = .inletNoRise dt c ∧ cause = .inletNoRise c ∧
          due = (s.elapse dt).reached ((s.channel c).inletMonitor.map Monitor.since) 1500000) ∨
        (i = .exhaustNoFall dt c ∧ cause = .exhaustNoFall c ∧
          due = (s.elapse dt).reached ((s.channel c).exhaustMonitor.map Monitor.since) 1500000) ∨
        (i = .deliveredInvalid dt c ∧ cause = .deliveredInvalid c ∧
          due = (s.elapse dt).reached (s.channel c).deliveredSince 500000) ∨
        (i = .controlInvalid dt ∧ cause = .controlInvalid ∧
          due = (s.elapse dt).reached s.channels.controlSince 500000)) →
    (due = false → exec i s = .next (s.elapse dt)) ∧
    (due = true → s.channels.mode = .fallback → exec i s = .next (s.elapse dt).settle) ∧
    (due = true → s.channels.mode = .electronic → ∃ u : State, exec i s = .next u.settle ∧
      u.channels.mode = .fallback ∧ u.channels.cause = some cause ∧ u.channels.redundancy = false ∧
      (∀ c, (u.channel c).inlet = false ∧ (u.channel c).exhaust = false ∧ (u.channel c).lock = .free ∧
        (u.channel c).cap = 1000 ∧ (u.channel c).suppressed = false ∧ (u.channel c).inletMonitor = none ∧
        (u.channel c).exhaustMonitor = none ∧ (u.channel c).suspended = (s.channel c).suspended) ∧
      u.stability.state = .idle ∧ u.hasEntry .stability = false ∧
      (∀ r x y z, s.mode.running = some r → r.step = .channelPressure x y z →
        u.mode.workshop = .stepFault ∧ u.mode.cause = some .brakeFallback ∧ u.mode.running = none) ∧
      (s.mode.running = none → u.mode = s.mode) ∧ u.inputs = s.inputs)) ∧
  ∀ (dt : Nat) (p : Params) (s : State), s.powered = true → p.count = 0 → s.mode.workshop = .ready →
    (∀ i, s.faultInputs.find? (fun i => decide ((s.analog i).validity = .invalid)) = some i →
      exec (.clearBrakeFault dt p) s = .next ((s.taken dt).turnedAway 0x64 .conflict (namedInput i))) ∧
    ((∀ i, i = .ctl ∨ i = .dl ∨ i = .dr ∨ (i = .dx ∧ s.settings.third = true) → (s.analog i).validity ≠ .invalid) →
      ∃ u : State, exec (.clearBrakeFault dt p) s = .next (u.settle.answered 0x64 []) ∧
        u = (s.taken dt).setChannels u.channels ∧ u.channels.mode = .electronic ∧
        (∀ c, (u.channel c).suspended = false) ∧
        (s.channels.mode = .electronic → ∀ c, u.channel c = { s.channel c with suspended := false }) ∧
        (s.channels.mode = .fallback → u.channels.cause = none ∧
          ∀ c, (u.channel c).lock = .free ∧ (u.channel c).cap = 1000 ∧ (u.channel c).inletMonitor = none ∧
            (u.channel c).exhaustMonitor = none))

/-! ### Stability -/

/-- R133 to R135, R137, R138: the unit leaves IDLE at a reference speed of 200 with LAT VALID and no idle condition, and
returns to it from ARMED or PROBING below 150 or with LAT not VALID, and from any state under an idle condition, with the
stability pressure 0, the ramp, the probe timer and both measurements stopped, the frozen limit, P_int, the inner channel
and the pulse absent, and its entry, its suppression and its roll holds ended. An ARMED unit
takes a new average of LAT, and a new live limit as well: at the limit it intervenes, with the frozen limit, the
intervention pressure, an upward ramp and STABILITY ACTION; at the probe threshold, a second after the last negative probe,
it probes on the inner channel, with a pulse of 80 kPa where the driver brakes that channel with less than 60; each lowers
the lifted axles and holds the loads. A ramp of 400 kPa/s moves 4 kPa each 10 ms, upward no further than P_int and downward
no further than 0. -/
def Obligations.ProbesAndInterventionsAreFormed : Prop :=
  (∀ s : State,
    (s.idleCondition = true ↔ s.channels.mode = .fallback ∨ s.mode.workshop ≠ .off ∨ s.mode.power ≠ .awake ∨
      s.settings.stability.enable = false) ∧
    (s.stability.state = .idle → s.idleCondition = false → 200 ≤ s.inputs.reference → s.stability.accel.isSome = true →
      s.arm = s.setStability { s.stability with state := .armed }) ∧
    (s.stability.state ≠ .idle ∨ s.idleCondition = true ∨ s.inputs.reference < 200 ∨ s.stability.accel = none →
      s.arm = s) ∧
    (s.stability.state = .idle → s.followStates = s) ∧
    (∀ t : State, t = s.followStates → s.stability.state ≠ .idle →
      s.idleCondition = true ∨ ((s.stability.state = .armed ∨ s.stability.state = .probing) ∧
        (s.inputs.reference < 150 ∨ s.stability.accel = none)) →
      t.stability.state = .idle ∧ t.stability.pressure = 0 ∧ t.stability.ramp = none ∧
      t.stability.probeSince = none ∧ t.stability.exitSince = none ∧ t.stability.latSince = none ∧
      t.stability.frozen = none ∧ t.stability.pInt = none ∧ t.stability.inner = none ∧ t.stability.pulse = none ∧
      t.stability.lastNegative = s.stability.lastNegative ∧ t.hasEntry .stability = false ∧
      (∀ c, (t.channel c).suppressed = false) ∧ ∀ g, (t.group g).holdRoll = false) ∧
    (s.stability.state = .armed ∨ s.stability.state = .probing → s.idleCondition = false →
      150 ≤ s.inputs.reference → s.stability.accel.isSome = true → s.followStates = s) ∧
    (∀ x, x = { s.stability with lr := s.loadRatioInUse, derate := s.tyreDerate,
                                 liveLimit := rolloverLimit s.settings.stability s.loadRatioInUse s.tyreDerate } →
      (x.liveLimit = s.stability.liveLimit ∨ s.stability.state ≠ .armed ∨ s.stability.accel = none →
        s.formLimit = s.setStability x) ∧
      ∀ a, x.liveLimit ≠ s.stability.liveLimit → s.stability.state = .armed → s.stability.accel = some a →
        s.formLimit = (s.setStability x).takeLateral a) ∧
    (s.loadRatioInUse = max (if 1 ≤ (s.group .g1).n then (s.group .g1).l else 0)
      (if 1 ≤ (s.group .g2).n then (s.group .g2).l else 0)) ∧
    (s.tyreDerate = 50 ↔ ∃ a sl, (s.axle a).layout.present = true ∧ (s.axle a).lift = .down ∧
      s.positionExists (.road a sl) = true ∧ (s.position (.road a sl)).pressureLevel = .lowAlarm) ∧
    (s.tyreDerate = 50 ∨ s.tyreDerate = 0)) ∧
  (∀ (s : State) (a : Int) (c : ChannelId) (limit : Nat), s.stability.state = .armed → s.stability.frozen = none →
    s.stability.liveLimit = limit → c = (if 0 ≤ a then .chL else .chR) →
    (limit ≤ a.natAbs →
      (s.takeLateral a).stability.state = .intervening ∧ (s.takeLateral a).stability.frozen = some limit ∧
      (s.takeLateral a).stability.pInt = some (250 + 350 * s.stability.lr / 1000) ∧
      (s.takeLateral a).stability.ramp = some ⟨true, s.sourcePressure .stability, s.now⟩ ∧
      (s.takeLateral a).stability.pressure = s.sourcePressure .stability ∧
      (s.takeLateral a).hasEntry .stability = true ∧
      (s.takeLateral a).port.notices.stabilityAction = some limit) ∧
    (a.natAbs < limit → 600 * limit / 1000 ≤ a.natAbs →
      (∀ t, s.stability.lastNegative = some t → t + 1000000 ≤ s.now) →
      (s.takeLateral a).stability.state = .probing ∧ (s.takeLateral a).stability.inner = some c ∧
      (s.takeLateral a).stability.probeSince = some s.now ∧
      ((s.channel c).driverPart < 60 → (s.takeLateral a).stability.pulse = some .posted ∧
        ((s.takeLateral a).entry .stability).map Entry.demand = some (.channels ((PerChannel.mk 0 0 0).set c 80)) ∧
        ((s.takeLateral a).channel c).suppressed = true ∧ ((s.takeLateral a).channel c).lock = .free) ∧
      (60 ≤ (s.channel c).driverPart → (s.takeLateral a).stability.pulse = some .notPosted ∧
        (s.takeLateral a).entry .stability = s.entry .stability)) ∧
    (600 * limit / 1000 ≤ a.natAbs →
      limit ≤ a.natAbs ∨ (∀ t, s.stability.lastNegative = some t → t + 1000000 ≤ s.now) →
      (∀ b, ((s.takeLateral a).axle b).lift ≠ .raising ∧ ((s.takeLateral a).axle b).lift ≠ .up) ∧
      ∀ g, s.groupInUse g = true → ((s.takeLateral a).group g).holdRoll = true ∧
        ((s.takeLateral a).group g).status ≠ .valid) ∧
    (a.natAbs < limit →
      a.natAbs < 600 * limit / 1000 ∨ (∃ t, s.stability.lastNegative = some t ∧ s.now < t + 1000000) →
      s.takeLateral a = s)) ∧
  ∀ (start since pInt k : Nat),
    Ramp.pressureAt ⟨true, start, since⟩ pInt (since + 10000 * k) = min pInt (start + 4 * k) ∧
    Ramp.pressureAt ⟨false, start, since⟩ pInt (since + 10000 * k) = start - 4 * k ∧
    (∀ n n', since ≤ n → n ≤ n' →
      Ramp.pressureAt ⟨true, start, since⟩ pInt n ≤ Ramp.pressureAt ⟨true, start, since⟩ pInt n' ∧
      Ramp.pressureAt ⟨false, start, since⟩ pInt n' ≤ Ramp.pressureAt ⟨false, start, since⟩ pInt n ∧
      Ramp.pressureAt ⟨true, start, since⟩ pInt n ≤ pInt)

/-- R136 to R140: a probe that ends without wheel lift is negative; wheel lift on the inner channel, or the limit,
intervenes, and a driver-derived part of 60 lifts a posted pulse. A ramp step moves the stability pressure and posts it, and
in RECOVERING ends the intervention at 0; a second below the exit threshold, or a second of an invalid LAT, turns the ramp
downward, and the limit at a reference speed of 100 resumes the intervention. The model's choices: a ramp step acts whenever
it is commanded (notes 11), and a timer or measurement that is not due only lets the time pass (notes 1). -/
def Obligations.StabilityTimersRun : Prop :=
  (∀ (s : State) (c : ChannelId),
    (s.stability.state = .probing → s.stability.inner = some c →
      (s.takeWheelLift c).stability.state = .intervening ∧
      (s.takeWheelLift c).stability.frozen = some s.stability.liveLimit ∧
      (s.takeWheelLift c).stability.pInt = some (250 + 350 * s.stability.lr / 1000) ∧
      (s.takeWheelLift c).stability.inner = none ∧ (s.takeWheelLift c).stability.pulse = none ∧
      (s.takeWheelLift c).stability.ramp = some ⟨true, s.sourcePressure .stability, s.now⟩ ∧
      (s.takeWheelLift c).hasEntry .stability = true ∧
      (∀ d, ((s.takeWheelLift c).channel d).suppressed = false) ∧
      (s.takeWheelLift c).port.notices.stabilityAction = some s.stability.liveLimit) ∧
    (s.stability.state ≠ .probing ∨ s.stability.inner ≠ some c → s.takeWheelLift c = s ∧ s.takeDriverPart c = s) ∧
    (s.stability.state = .probing → s.stability.inner = some c →
      (s.stability.pulse = some .posted → 60 ≤ (s.channel c).driverPart →
        (s.takeDriverPart c).stability = { s.stability with pulse := some .lifted } ∧
        (s.takeDriverPart c).demands = s.demands ∧
        ∀ d, (s.takeDriverPart c).channel d = { s.channel d with suppressed := false }) ∧
      (s.stability.pulse ≠ some .posted ∨ (s.channel c).driverPart < 60 → s.takeDriverPart c = s)) ∧
    (∀ v, s.formedSlip c = some v → s.formedSlip c ≠ (s.channel c).slip → 150 < v → s.stability.state = .probing →
      s.stability.inner = some c → (s.followSlip c).stability.state = .intervening)) ∧
  (∀ (s : State) (a : Int) (limit : Nat), limit = s.stability.frozen.getD s.stability.liveLimit →
    (s.stability.state = .idle → s.takeLateral a = s) ∧
    (s.stability.state = .probing →
      (limit ≤ a.natAbs → (s.takeLateral a).stability.state = .intervening) ∧
      (a.natAbs < limit → s.takeLateral a = s)) ∧
    (s.stability.state = .intervening →
      (a.natAbs < 500 * limit / 1000 → s.takeLateral a =
        s.setStability { s.stability with exitSince := some (s.stability.exitSince.getD s.now) }) ∧
      (500 * limit / 1000 ≤ a.natAbs → s.takeLateral a = s.setStability { s.stability with exitSince := none })) ∧
    (s.stability.state = .recovering →
      (limit ≤ a.natAbs → 100 ≤ s.inputs.reference →
        (s.takeLateral a).stability =
          { s.stability with
            state := .intervening, exitSince := none, latSince := none
            ramp := some ⟨true, s.stability.pressure, s.now⟩ } ∧
        (s.takeLateral a).entry .stability = s.entry .stability ∧
        (∀ b, ((s.takeLateral a).axle b).lift ≠ .raising ∧ ((s.takeLateral a).axle b).lift ≠ .up) ∧
        ∀ g, s.groupInUse g = true → ((s.takeLateral a).group g).holdRoll = true) ∧
      (a.natAbs < limit ∨ s.inputs.reference < 100 → s.takeLateral a = s))) ∧
  (∀ s : State, s.idleCondition = false →
    (s.stability.state = .recovering → s.followStates = s) ∧
    (s.stability.state = .intervening →
      (s.inputs.reference < 100 → s.followStates =
        s.setStability { s.stability with
          state := .recovering, exitSince := none, latSince := none
          ramp := some ⟨false, s.stability.pressure, s.now⟩ }) ∧
      (100 ≤ s.inputs.reference →
        (s.stability.accel = none → s.stability.latSince = none → s.followStates =
          s.setStability { s.stability with latSince := some s.now, exitSince := none }) ∧
        (s.stability.accel.isSome = true → s.stability.latSince.isSome = true → s.followStates =
          s.setStability { s.stability with
            latSince := none
            ramp := s.stability.ramp.map fun r => { r with start := s.stability.pressure, since := s.now } }) ∧
        (s.stability.accel.isSome = s.stability.latSince.isNone → s.followStates = s)))) ∧
  ∀ (dt : Nat) (s : State), s.powered = true →
    (∀ since, s.stability.state = .probing → s.stability.probeSince = some since → since + 300000 ≤ s.now + dt →
      ∃ u : State, exec (.probeTimerExpiry dt) s = .next u.settle ∧ u.stability.state = .armed ∧
        u.stability.lastNegative = some (s.now + dt) ∧ u.stability.pulse = none ∧ u.stability.inner = none ∧
        u.stability.pressure = 0 ∧ u.stability.ramp = none ∧ u.stability.probeSince = none ∧
        u.stability.exitSince = none ∧ u.stability.latSince = none ∧ u.stability.frozen = none ∧
        u.stability.pInt = none ∧
        u.hasEntry .stability = false ∧ (∀ c, (u.channel c).suppressed = false) ∧
        (∀ g, (u.group g).holdRoll = false)) ∧
    (s.stability.state ≠ .probing ∨ (s.elapse dt).reached s.stability.probeSince 300000 = false →
      exec (.probeTimerExpiry dt) s = .next (s.elapse dt)) ∧
    (∀ r v, s.stability.ramp = some r → s.stability.latSince = none →
      v = r.pressureAt (s.stability.pInt.getD 0) (s.now + dt) →
      (s.stability.state = .recovering → v = 0 → ∃ u : State, exec (.rampStep dt) s = .next u.settle ∧
        u.stability.state = .armed ∧ u.stability.pressure = 0 ∧ u.stability.frozen = none ∧
        u.stability.pInt = none ∧ u.stability.inner = none ∧ u.stability.pulse = none ∧
        u.stability.probeSince = none ∧ u.stability.exitSince = none ∧ u.stability.latSince = none ∧
        u.stability.lastNegative = s.stability.lastNegative ∧ (∀ c, (u.channel c).suppressed = false) ∧
        u.stability.ramp = none ∧ u.hasEntry .stability = false ∧ ∀ g, (u.group g).holdRoll = false) ∧
      (¬(s.stability.state = .recovering ∧ v = 0) → v = s.stability.pressure →
        exec (.rampStep dt) s = .next (s.elapse dt).settle) ∧
      (¬(s.stability.state = .recovering ∧ v = 0) → v ≠ s.stability.pressure → ∃ (u : State) (e : Entry),
        exec (.rampStep dt) s = .next u.settle ∧ u.stability = { s.stability with pressure := v } ∧
        u.entry .stability = some e ∧ e.demand = .channels ⟨v, v, v⟩ ∧ u.channels = s.channels ∧
        u.loads = s.loads ∧ ∀ x, x ≠ .stability → u.entry x = s.entry x)) ∧
    (s.stability.ramp = none ∨ s.stability.latSince.isSome = true →
      exec (.rampStep dt) s = .next (s.elapse dt)) ∧
    ∀ (i : Instr) (since : Option Nat),
      (i = .exitMeasurement dt ∧ since = s.stability.exitSince) ∨
        (i = .latInvalidityMeasurement dt ∧ since = s.stability.latSince) →
      (s.stability.state = .intervening → (s.elapse dt).reached since 1000000 = true → exec i s =
        .next ((s.elapse dt).setStability { s.stability with
          state := .recovering, exitSince := none, latSince := none
          ramp := some ⟨false, s.stability.pressure, s.now + dt⟩ }).settle) ∧
      (s.stability.state ≠ .intervening ∨ (s.elapse dt).reached since 1000000 = false →
        exec i s = .next (s.elapse dt))

/-! ### The workshop and the power state -/

/-- R144 to R147, R166, R167: the workshop requests reply with the workshop state, the step result, the fault cause and
the power state, one byte each. Enter Workshop goes to PENDING and, in the readiness conditions, on to READY; Leave
Workshop, and a reference speed above 30, end a running step as ABORTED and keep any other result; Stage Step keeps the
step of the request, or names the first parameter that spells none with the end of the range it passes. What it names
for a kind, a channel, an axle, a direction and a count is the model's choice, notes 38; that a count which no kind has
is refused in every state is its reading, notes 26; that a reference speed ends a LIFT step as ABORTED before the LDU
lowers its axle at that same speed is its choice, notes 53. -/
def Obligations.WorkshopIsEnteredAndLeft : Prop :=
  (∀ s : State, ∃ state result cause power : Byte, s.workshopData = [state, result, cause, power] ∧
    ((s.mode.workshop = .off → state = 0x00#8) ∧ (s.mode.workshop = .pending → state = 0x01#8) ∧
      (s.mode.workshop = .ready → state = 0x02#8) ∧ (s.mode.workshop = .stepRunning → state = 0x03#8) ∧
      (s.mode.workshop = .stepFault → state = 0x04#8)) ∧
    ((s.mode.result = .none → result = 0x00#8) ∧ (s.mode.result = .done → result = 0x01#8) ∧
      (s.mode.result = .fault → result = 0x02#8) ∧ (s.mode.result = .aborted → result = 0x03#8)) ∧
    ((s.mode.cause = some .outOfBand → cause = 0x01#8) ∧ (s.mode.cause = some .brakeFallback → cause = 0x02#8) ∧
      (s.mode.cause = some .liftInterrupted → cause = 0x03#8) ∧ (s.mode.cause = some .liftFault → cause = 0x04#8) ∧
      (s.mode.cause = some .noTelegram → cause = 0x05#8) ∧ (s.mode.cause = some .notBound → cause = 0x06#8) ∧
      (s.mode.cause = none → cause = 0xFF#8)) ∧
    ((s.mode.power = .awake → power = 0x00#8) ∧ (s.mode.power = .runOn → power = 0x01#8) ∧
      (s.mode.power = .watch → power = 0x02#8))) ∧
  (∀ s t : State, t = s.followReference → s.formedReference ≠ s.inputs.reference → 30 < s.formedReference →
    s.mode.workshop ≠ .off →
    t.inputs.reference = s.formedReference ∧ t.mode.workshop = .off ∧ t.mode.staged = none ∧ t.mode.running = none ∧
    (s.mode.workshop = .stepRunning →
      t.mode.result = .aborted ∧ t.mode.cause = none ∧ t.hasEntry .test = false) ∧
    (s.mode.workshop ≠ .stepRunning →
      t.mode.result = s.mode.result ∧ t.mode.cause = s.mode.cause ∧ t.demands = s.demands) ∧
    t.port.notices.workshopChange = some ⟨.off, t.mode.result, t.mode.cause⟩) ∧
  (∀ p : Params,
    (p.count ≠ 0 → byteAt p 0 = 0 → stepOf p = .error (limitedAt 0 1)) ∧
    (p.count ≠ 0 → 3 < byteAt p 0 → stepOf p = .error (limitedAt 0 3)) ∧
    (∀ kind fit, (kind = 1 ∧ fit = 5) ∨ (kind = 2 ∧ fit = 3) ∨ (kind = 3 ∧ fit = 2) → byteAt p 0 = kind →
      p.count ≠ 0 → p.count ≠ fit → stepOf p = .error (limitedAt (Config.stepCountParameter p.count) fit)) ∧
    (p.count = 0 →
      stepOf p = .error ⟨some (Config.stepCountParameter p.count), none, Config.missingKindLimit⟩) ∧
    (p.count = 5 → byteAt p 0 = 1 →
      (byteAt p 1 = 0 → stepOf p = .error (limitedAt 1 1)) ∧
      (4 < byteAt p 1 → stepOf p = .error (limitedAt 1 4)) ∧
      (1 ≤ byteAt p 1 → byteAt p 1 ≤ 4 →
        (1000 < wordAt p 2 → stepOf p = .error (limitedAt 2 1000)) ∧
        (wordAt p 2 ≤ 1000 → byteAt p 4 = 0 → stepOf p = .error (limitedAt 4 1)) ∧
        (wordAt p 2 ≤ 1000 → 10 < byteAt p 4 → stepOf p = .error (limitedAt 4 10)))) ∧
    (p.count = 3 → byteAt p 0 = 2 →
      (byteAt p 1 = 0 → stepOf p = .error (limitedAt 1 1)) ∧
      (5 < byteAt p 1 → stepOf p = .error (limitedAt 1 5)) ∧
      (1 ≤ byteAt p 1 → byteAt p 1 ≤ 5 → 1 < byteAt p 2 → stepOf p = .error (limitedAt 2 1))) ∧
    (p.count = 2 → byteAt p 0 = 3 → 21 < byteAt p 1 → stepOf p = .error (limitedAt 1 21))) ∧
  ∀ (dt : Nat) (p : Params) (s : State), s.powered = true →
    (p.count = 0 → s.mode.power ≠ .watch → s.mode.workshop = .off → s.inputs.reference ≤ 30 → ∃ u : State,
      exec (.enterWorkshop dt p) s = .next (u.settle.answered 0x60 u.settle.workshopData) ∧
      u = ((s.taken dt).setMode u.mode).noteWorkshopChange ∧
      u.mode = { s.mode with workshop := .pending, staged := none, result := .none, cause := none }) ∧
    (p.count = 0 → s.mode.power ≠ .watch → s.mode.workshop ≠ .off ∨ 30 < s.inputs.reference →
      exec (.enterWorkshop dt p) s = .next ((s.taken dt).turnedAway 0x60 .conflict unnamed)) ∧
    (s.mode.workshop = .pending →
      (s.inputs.motion = .standstill ∧ s.stability.state = .idle ∧ s.hasEntry .emergency = false ∧
        s.mode.power = .awake → s.followReadiness.mode = { s.mode with workshop := .ready }) ∧
      (¬(s.inputs.motion = .standstill ∧ s.stability.state = .idle ∧ s.hasEntry .emergency = false ∧
        s.mode.power = .awake) → s.followReadiness = s)) ∧
    (p.count = 0 → s.mode.workshop = .off → exec (.leaveWorkshop dt p) s =
      .next ((s.taken dt).answered 0x61 (s.taken dt).workshopData)) ∧
    (p.count = 0 → s.mode.workshop ≠ .off → ∃ u : State,
      exec (.leaveWorkshop dt p) s = .next (u.settle.answered 0x61 u.settle.workshopData) ∧
      u.mode.workshop = .off ∧ u.mode.staged = none ∧ u.mode.running = none ∧
      (s.mode.workshop = .stepRunning →
        u.mode.result = .aborted ∧ u.mode.cause = none ∧ u.hasEntry .test = false) ∧
      (s.mode.workshop ≠ .stepRunning →
        u.mode.result = s.mode.result ∧ u.mode.cause = s.mode.cause ∧ u.demands = s.demands)) ∧
    (stepCount p.count = false → ∀ n, stepOf p = .error n → exec (.stageStep dt p) s =
      .next ((s.taken dt).turnedAway 0x62 .badParameter n)) ∧
    (stepCount p.count = true →
      (s.mode.workshop = .off ∨ s.mode.workshop = .stepFault → exec (.stageStep dt p) s =
        .next ((s.taken dt).turnedAway 0x62 .notPermitted unnamed)) ∧
      (s.mode.workshop ≠ .off → s.mode.workshop ≠ .stepFault →
        (∀ x, stepOf p = .ok x → exec (.stageStep dt p) s =
          .next (((s.taken dt).setMode { s.mode with staged := some x }).answered 0x62 (s.taken dt).workshopData)) ∧
        (∀ n, stepOf p = .error n → exec (.stageStep dt p) s =
          .next ((s.taken dt).turnedAway 0x62 .badParameter n)))) ∧
    (∀ a, p.count = 3 → byteAt p 0 = 2 → AxleId.ofNumber (byteAt p 1) = some a → byteAt p 2 ≤ 1 →
      stepOf p = .ok (.lift a (decide (byteAt p 2 = 1)))) ∧
    (∀ q, p.count = 2 → byteAt p 0 = 3 → Position.ofIndex (byteAt p 1) = some q → stepOf p = .ok (.sensorListen q)) ∧
    (∀ c, p.count = 5 → byteAt p 0 = 1 → ChannelId.ofNumber (byteAt p 1) = some c → wordAt p 2 ≤ 1000 →
      1 ≤ byteAt p 4 → byteAt p 4 ≤ 10 → stepOf p = .ok (.channelPressure (some c) (wordAt p 2) (byteAt p 4))) ∧
    (p.count = 5 → byteAt p 0 = 1 → byteAt p 1 = 4 → wordAt p 2 ≤ 1000 → 1 ≤ byteAt p 4 → byteAt p 4 ≤ 10 →
      stepOf p = .ok (.channelPressure none (wordAt p 2) (byteAt p 4)))

/-- R94, R148 to R151: Run Step refuses while a step runs, outside READY, without a staged step and by its kind's check.
An accepted one consumes the staged step and goes to STEP RUNNING; a CHANNEL PRESSURE step posts the TEST entry, a LIFT
step moves its axle, goes on with the transition it finds or is done at once (a raise is refused under the conditions of
R85), a SENSOR LISTEN step waits from its start on, or faults where its position is not bound. -/
def Obligations.StepsAreStarted : Prop :=
  (∀ (s : State) (a : AxleId) (g : GroupId), (s.axle a).layout.group = g → (s.refusesRaiseStep a = true ↔
    (s.axle a).layout.liftable = false ∨ (s.axle a).mode = .heldDown ∨ (s.axle a).lift = .lowering ∨
    (s.analog .sup).validity = .invalid ∨ (∃ v, s.pressureOf .sup = some v ∧ v < 450) ∨ s.demands.braking = true ∨
    (∃ b sl, b ≠ a ∧ (s.axle b).layout.present = true ∧ (s.axle b).layout.group = g ∧ (s.axle b).lift = .down ∧
      (s.position (.road b sl)).pressureLevel = .lowAlarm) ∨
    1300 * (s.calibration g).wl / 1000 <
      if (s.axle a).lift = .down then (s.group g).w * (s.group g).n / ((s.group g).n - 1) else (s.group g).w)) ∧
  ∀ (dt : Nat) (p : Params) (s : State), s.powered = true → p.count = 0 →
    (s.mode.workshop = .stepRunning → exec (.runStep dt p) s =
      .next ((s.taken dt).turnedAway 0x63 .busy unnamed)) ∧
    (s.mode.workshop ≠ .stepRunning → s.mode.workshop ≠ .ready ∨ s.mode.staged = none → exec (.runStep dt p) s =
      .next ((s.taken dt).turnedAway 0x63 .notPermitted unnamed)) ∧
    ∀ x, s.mode.workshop = .ready → s.mode.staged = some x →
      (∀ c y z, x = .channelPressure c y z →
        (s.channels.mode = .fallback → exec (.runStep dt p) s =
          .next ((s.taken dt).turnedAway 0x63 .conflict unnamed)) ∧
        (s.channels.mode = .electronic → ∃ (u : State) (r : RunningStep) (e : Entry),
          exec (.runStep dt p) s = .next (u.settle.answered 0x63 u.settle.workshopData) ∧
          u.mode.workshop = .stepRunning ∧ u.mode.staged = none ∧ u.mode.result = .none ∧
          u.mode.running = some r ∧ r.step = x ∧ r.startedAt = s.now + dt ∧ r.bandSince = s.now + dt ∧
          u.entry .test = some e ∧
          (∀ d, e.demand.forChannel d = if c = none ∨ c = some d then y else 0) ∧
          (∀ k, k ≠ .test → u.entry k = s.entry k) ∧
          (u.port.notices.workshopChange.map WorkshopDetail.state) = some .stepRunning)) ∧
      (∀ a up, x = .lift a up →
        ((s.axle a).layout.present = false → exec (.runStep dt p) s =
          .next ((s.taken dt).turnedAway 0x63 .noSuchRecord unnamed)) ∧
        ((s.axle a).layout.present = true → up = true → s.refusesRaiseStep a = true → exec (.runStep dt p) s =
          .next ((s.taken dt).turnedAway 0x63 .conflict (namedAxle a))) ∧
        ((s.axle a).layout.present = true → up = false ∨ s.refusesRaiseStep a = false → ∃ u : State,
          exec (.runStep dt p) s = .next (u.settle.answered 0x63 u.settle.workshopData) ∧ u.mode.staged = none ∧
          (up = true → (s.axle a).lift = .down → (u.axle a).lift = .raising ∧ u.mode.workshop = .stepRunning) ∧
          (up = true → (s.axle a).lift = .raising → (u.axle a).lift = .raising ∧
            (u.axle a).liftSince = (s.axle a).liftSince ∧ u.mode.workshop = .stepRunning ∧
            u.mode.running.map RunningStep.step = some x) ∧
          (up = true → (s.axle a).lift = .up →
            (u.axle a).lift = .up ∧ u.mode.workshop = .ready ∧ u.mode.result = .done) ∧
          (up = false → (s.axle a).lift = .down → u.mode.workshop = .ready ∧ u.mode.result = .done) ∧
          (up = false → (s.axle a).lift ≠ .down →
            (u.axle a).lift = .lowering ∧ u.mode.workshop = .stepRunning))) ∧
      ∀ q, x = .sensorListen q → ∃ u : State,
        exec (.runStep dt p) s = .next (u.settle.answered 0x63 u.settle.workshopData) ∧ u.mode.staged = none ∧
        ((s.position q).state.isBound = true → u.mode.workshop = .stepRunning ∧ ∃ r : RunningStep,
          u.mode.running = some r ∧ r.step = x ∧ r.startedAt = s.now + dt) ∧
        ((s.position q).state.isBound = false → u.mode.workshop = .stepFault ∧ u.mode.cause = some .notBound ∧
          u.mode.running = none)

/-- R148 to R151, R85: each passage of a CHANNEL PRESSURE step into or out of band starts its measurement afresh; out of band
for 2 s it faults and in band for its hold time it is done. A LIFT step is done as its axle arrives and faults where a raised
axle is lowered. A SENSOR LISTEN step faults after 60 s. The end of a step retires the TEST entry and sets WORKSHOP CHANGE.
That a measurement that is not due, or of another kind of step, only lets the time pass is the model's choice, notes 1. -/
def Obligations.StepMeasurementsEnd : Prop :=
  (∀ (s : State) (r : RunningStep) (c : Option ChannelId) (y z : Nat), s.mode.running = some r →
    r.step = .channelPressure c y z →
    (s.stepInBand c y = true ↔ ∀ d, (c = some d ∨ (c = none ∧ (d ≠ .chX ∨ s.settings.third = true))) →
      ∃ pm, s.pressureOf d.delivered = some pm ∧ y ≤ pm + 15 ∧ pm ≤ y + 15) ∧
    (s.stepInBand c y = r.inBand → s.followBand = s) ∧
    (s.stepInBand c y ≠ r.inBand → s.followBand =
      s.setMode { s.mode with running := some { r with inBand := s.stepInBand c y, bandSince := s.now } })) ∧
  (∀ (s : State) (r : RunningStep) (a : AxleId) (x : LiftState), s.mode.running = some r → (s.axle a).lift ≠ x →
    (r.step = .lift a true →
      (x = .up → (s.setLift a x).mode =
        { s.mode with workshop := .ready, running := none, result := .done, cause := none }) ∧
      (x = .lowering → (s.setLift a x).mode =
        { s.mode with workshop := .stepFault, running := none, result := .fault, cause := some .liftInterrupted })) ∧
    (r.step = .lift a false → x = .down → (s.setLift a x).mode =
      { s.mode with workshop := .ready, running := none, result := .done, cause := none }) ∧
    ((r.step ≠ .lift a true ∧ r.step ≠ .lift a false) ∨ x = .raising ∨ (r.step = .lift a true ∧ x = .down) ∨
      (r.step = .lift a false ∧ x ≠ .down) → (s.setLift a x).mode = s.mode) ∧
    ((s.setLift a x).axle a).lift = x) ∧
  ∀ (dt : Nat) (s : State), s.powered = true → s.mode.workshop = .stepRunning →
    ∀ r, s.mode.running = some r →
      (∀ c y z, r.step = .channelPressure c y z →
        (r.inBand = false → r.bandSince + 2000000 ≤ s.now + dt →
          exec (.bandMeasurement dt) s = .next ((s.elapse dt).stepFaults .outOfBand).settle) ∧
        (r.inBand = true ∨ s.now + dt < r.bandSince + 2000000 →
          exec (.bandMeasurement dt) s = .next (s.elapse dt)) ∧
        (r.inBand = true → r.bandSince + z * 1000000 ≤ s.now + dt →
          exec (.holdMeasurement dt) s = .next (s.elapse dt).stepDone.settle) ∧
        (r.inBand = false ∨ s.now + dt < r.bandSince + z * 1000000 →
          exec (.holdMeasurement dt) s = .next (s.elapse dt)) ∧
        exec (.listenTimeout dt) s = .next (s.elapse dt)) ∧
      (∀ q, r.step = .sensorListen q →
        (r.startedAt + 60000000 ≤ s.now + dt →
          exec (.listenTimeout dt) s = .next ((s.elapse dt).stepFaults .noTelegram).settle) ∧
        (s.now + dt < r.startedAt + 60000000 → exec (.listenTimeout dt) s = .next (s.elapse dt)) ∧
        exec (.bandMeasurement dt) s = .next (s.elapse dt) ∧ exec (.holdMeasurement dt) s = .next (s.elapse dt)) ∧
      (s.stepDone.mode = { s.mode with workshop := .ready, running := none, result := .done, cause := none } ∧
        s.stepDone.hasEntry .test = false ∧ (∀ x, x ≠ .test → s.stepDone.entry x = s.entry x) ∧
        s.stepDone.port.notices.workshopChange = some ⟨.ready, .done, none⟩) ∧
      ∀ f, (s.stepFaults f).mode =
            { s.mode with workshop := .stepFault, running := none, result := .fault, cause := some f } ∧
        (s.stepFaults f).hasEntry .test = false ∧ (∀ x, x ≠ .test → (s.stepFaults f).entry x = s.entry x) ∧
        (s.stepFaults f).port.notices.workshopChange = some ⟨.stepFault, .fault, some f⟩

/-- R61, R152 to R154: a wake line level that has stood for 50 ms is taken: HIGH wakes the part, LOW starts the run-on
in STANDSTILL and awaits it elsewhere; 60 s of run-on lead to WATCH, with everything that the entry into WATCH ends; a
reference speed below 5 for 2 s is STANDSTILL. That a level, an expiry or a measurement that is not due only lets the
time pass is the model's choice, notes 1; so is that the awaited run-on starts before a PENDING workshop record is
tested at the entry into STANDSTILL, notes 54. -/
def Obligations.WakeLineAndRunOnAct : Prop :=
  ∀ (dt : Nat) (s : State), s.powered = true →
    (∀ high, exec (.wakeLineChange dt high) s =
      .next (if high = s.mode.wakeRaw then s.elapse dt
        else (s.elapse dt).setMode { s.mode with wakeRaw := high, wakeRawSince := s.now + dt })) ∧
    (s.mode.wakeRaw = s.mode.wakeTaken ∨ s.now + dt < s.mode.wakeRawSince + 50000 →
      exec (.wakeLineLevel dt) s = .next (s.elapse dt)) ∧
    (s.mode.wakeRaw ≠ s.mode.wakeTaken → s.mode.wakeRawSince + 50000 ≤ s.now + dt → ∃ u : State,
      exec (.wakeLineLevel dt) s = .next u.settle ∧ u = (s.elapse dt).setMode u.mode ∧
      u.mode.wakeTaken = s.mode.wakeRaw ∧ u.mode.workshop = s.mode.workshop ∧
      (s.mode.wakeRaw = true → u.mode.power = .awake ∧ (u.mode.awaited = false ∨ s.mode.power = .runOn)) ∧
      (s.mode.wakeRaw = false → s.mode.power = .awake → s.inputs.motion = .standstill →
        u.mode.power = .runOn ∧ u.mode.runOnSince = some (s.now + dt)) ∧
      (s.mode.wakeRaw = false → s.mode.power = .awake → s.inputs.motion ≠ .standstill →
        u.mode.power = .awake ∧ u.mode.awaited = true) ∧
      (s.mode.wakeRaw = false → s.mode.power ≠ .awake →
        u.mode.power = s.mode.power ∧ u.mode.runOnSince = s.mode.runOnSince)) ∧
    (s.mode.power ≠ .runOn ∨ (s.elapse dt).reached s.mode.runOnSince 60000000 = false →
      exec (.runOnExpiry dt) s = .next (s.elapse dt)) ∧
    (∀ since, s.mode.power = .runOn → s.mode.runOnSince = some since → since + 60000000 ≤ s.now + dt → s.workshopLaw →
      ∃ u : State, exec (.runOnExpiry dt) s = .next u.settle ∧ u.mode.power = .watch ∧ u.mode.workshop = .off ∧
      u.stability.state = .idle ∧ u.hasEntry .digital = false ∧ u.hasEntry .stability = false ∧
      u.hasEntry .test = false ∧ u.entry .pneumatic = s.entry .pneumatic ∧ u.entry .emergency = s.entry .emergency ∧
      u.intake.window = none ∧ u.intake.candidates = [] ∧
      (∀ w, s.intake.window = some w → u.port.notices.learnResult = some (.cancelled, w.target)) ∧
      (∀ c, (u.channel c).inlet = false ∧ (u.channel c).exhaust = false) ∧ u.channels.redundancy = false ∧
      (∀ a, (u.axle a).lift ≠ .raising ∧ (u.axle a).lift ≠ .up ∧ (u.axle a).raisePending = false)) ∧
    (∀ since, s.inputs.motion = .rolling → s.inputs.reference < 5 → s.inputs.belowSince = some since →
      since + 2000000 ≤ s.now + dt → ∃ u : State, exec (.standstillMeasurement dt) s = .next u.settle ∧
        u.inputs = { s.inputs with motion := .standstill, belowSince := none } ∧
        (∀ c, (u.channel c).suspended = false) ∧ u.tyres = s.tyres ∧ u.loads = s.loads ∧ u.demands = s.demands ∧
        (s.mode.power = .awake → s.mode.awaited = true → s.mode.wakeTaken = false →
          u.mode.power = .runOn ∧ u.mode.runOnSince = some (s.now + dt)) ∧
        (s.mode.power ≠ .awake ∨ s.mode.awaited = false ∨ s.mode.wakeTaken = true → u.mode = s.mode)) ∧
    (s.inputs.motion ≠ .rolling ∨ 5 ≤ s.inputs.reference ∨
      (s.elapse dt).reached s.inputs.belowSince 2000000 = false →
      exec (.standstillMeasurement dt) s = .next (s.elapse dt))

/-! ### The store, the power-on and the Restart -/

/-- R65, R168 to R171: an accepted Save Tables takes a snapshot of every item of the image, which is INVALID until the
read-back 400 ms later finds it programmed; Restore Tables in READY loads a VALID image into the configuration records,
with the lift states and modes treated as R65 has it for a reload. The model's readings and choices: the memory holds no
image during a save nor after one that fails (notes 29), the check of the image is a free function of its contents
(notes 3), and an end of a save that is not due only lets the time pass (notes 1). -/
def Obligations.TablesAreSavedAndRestored : Prop :=
  ∀ (dt : Nat) (p : Params) (s : State), s.powered = true →
    (p.count = 0 → s.store.saving = none → exec (.saveTables dt p) s =
      .next (((s.taken dt).setStore ⟨none, false, some ⟨s.snapshot, s.now + dt⟩⟩).answered 0x70 [])) ∧
    (p.count = 0 → s.store.saving ≠ none → exec (.saveTables dt p) s =
      .next ((s.taken dt).turnedAway 0x70 .busy unnamed)) ∧
    (s.snapshot.settings = s.settings ∧
      (∀ a, (s.snapshot.axles.get a).layout = (s.axle a).layout ∧
        (s.snapshot.axles.get a).mode = (s.axle a).mode) ∧
      ∀ q, (s.snapshot.positions.get q).pl = (s.position q).pl ∧
        (s.snapshot.positions.get q).pe = (s.position q).pe ∧
        (s.snapshot.positions.get q).bound =
          if (s.position q).state = .empty ∨ (s.position q).state = .learning then none else (s.position q).bound) ∧
    (∀ x, s.store.saving = some x → x.since + 400000 ≤ s.now + dt →
      exec (.saveEnd dt true) s =
        .next (((s.elapse dt).setStore ⟨some (programmed x.snapshot), true, none⟩).noteStoreResult true) ∧
      exec (.saveEnd dt false) s =
        .next (((s.elapse dt).setStore ⟨none, false, none⟩).noteStoreResult false)) ∧
    (∀ equal, s.store.saving = none ∨ (∃ x, s.store.saving = some x ∧ s.now + dt < x.since + 400000) →
      exec (.saveEnd dt equal) s = .next (s.elapse dt)) ∧
    (∀ x : Image, (programmed x).holds = true ∧ (programmed x).contents = x) ∧
    (p.count = 0 → s.mode.workshop = .ready → s.store.valid = false ∨ s.store.image = none →
      exec (.restoreTables dt p) s = .next ((s.taken dt).turnedAway 0x71 .conflict unnamed)) ∧
    (∀ x, p.count = 0 → s.mode.workshop = .ready → s.store.valid = true → s.store.image = some x → s.TableLaws →
      ∃ u : State, exec (.restoreTables dt p) s = .next (u.settle.answered 0x71 []) ∧
        u.settings = x.contents.settings ∧ (∀ a, (u.axle a).layout = (x.contents.axles.get a).layout) ∧
        (∀ q, (u.position q).pl = (x.contents.positions.get q).pl ∧
          (u.position q).pe = (x.contents.positions.get q).pe ∧
          (u.position q).bound = (x.contents.positions.get q).bound ∧
          (u.position q).state = (if (x.contents.positions.get q).bound.isSome then .awaiting else .empty) ∧
          ((x.contents.positions.get q).bound.isSome = true → (u.position q).age = some 0)) ∧
        (∀ (a : AxleId) (old : AxleRecord) (new : StoredAxle), s.axle a = old → x.contents.axles.get a = new →
          (u.axle a).raisePending = false ∧ (u.axle a).conflict = false ∧
          (new.mode ≠ .heldUp → (u.axle a).mode = new.mode) ∧
          (new.mode = .heldUp → ((u.axle a).mode = .heldUp ↔ (u.axle a).lift = .up) ∧
            ((u.axle a).mode = .auto ↔ (u.axle a).lift ≠ .up)) ∧
          (new.layout.present = false ∨ new.layout.liftable = false → (u.axle a).lift = .down ∧
            (old.lift ≠ .down → u.port.notices.liftChange &&& bit (a.number - 1) = bit (a.number - 1))) ∧
          (new.layout.present = true → new.layout.liftable = true →
            (old.lift = .down → (u.axle a).lift = .down) ∧
            (old.lift = .lowering → (u.axle a).lift = .lowering ∧ (u.axle a).liftSince = old.liftSince) ∧
            (old.lift = .raising ∨ old.lift = .up →
              (new.layout.valve2 ≠ old.layout.valve2 ∨ new.mode = .heldDown →
                (u.axle a).lift = .lowering ∧ (u.axle a).liftSince = s.now + dt) ∧
              (new.layout.valve2 = old.layout.valve2 → new.mode = .auto ∨ (new.mode = .heldUp ∧ old.lift = .raising) →
                (u.axle a).lift = old.lift ∧ (u.axle a).liftSince = old.liftSince) ∧
              (new.layout.valve2 = old.layout.valve2 → new.mode = .heldUp → old.lift = .up →
                (u.axle a).lift = .up ∨ (u.axle a).lift = .lowering)))) ∧
        u.intake.window = none ∧
        (∀ c, c ∈ u.intake.candidates ↔ c ∈ s.intake.candidates ∧
          ∀ q b, (x.contents.positions.get q).bound = some b → b.id ≠ c.bound.id) ∧
        u.store = s.store)

/-- R7, R17, R28, R53, R58, R61, R66, R156, R160, R170, R172, R173: power-on starts every unit at its reset values on a VALID
image or on the defaults: the wheel inputs VALID with speed 0, no edge and their wires as found, the motion state ROLLING
with its standstill measurement running, and the pairs of a present DUAL axle UNORDERED, every other NOT A PAIR; loss of
supply ends a save in progress; Restart outside SAVING clocks the pending reply out (R156), leaves NONE as the reply and
every live record at its reset value, wakes a part in WATCH, frees the raises that waited for the brakes or the STU,
clears every notice, and keeps the configuration under KEEP or loads a VALID image under RESTORE. The model's readings
and choices: a power-on acts from any state (notes 9), the idle gap of the receiver line is measured from the Restart
(notes 10), what follows from the live records comes before the notices are cleared (notes 24), and the reply to a Post
Demand goes out in the Restart's exchange like any other (notes 28). -/
def Obligations.PowerOnAndRestartStartAfresh : Prop :=
  (∀ (dt : Nat) (high : Bool) (wires : PerWheel Bool) (s : State) (x : Image),
    (s.store.judged = some x ∨ (s.store.judged = none ∧ x = defaultImage)) → ∃ u : State,
    exec (.powerOn dt high wires) s = .next u.settle ∧ u.powered = true ∧ u.now = s.now + dt ∧ u.settings = x.settings ∧
    (∀ a, (u.axle a).layout = (x.axles.get a).layout ∧ (u.axle a).mode = (x.axles.get a).mode ∧
      (u.axle a).lift = .down) ∧
    (∀ q, (u.position q).pl = (x.positions.get q).pl ∧ (u.position q).pe = (x.positions.get q).pe ∧
      (u.position q).bound = (x.positions.get q).bound ∧
      (u.position q).state = (if (x.positions.get q).bound.isSome then .awaiting else .empty)) ∧
    (∀ g, ((∀ a, (x.axles.get a).layout.present = false ∨ (x.axles.get a).layout.group ≠ g) →
        u.group g = .unused (x.settings.groups.get g).re) ∧
      ((∃ a, (x.axles.get a).layout.present = true ∧ (x.axles.get a).layout.group = g) →
        (u.group g).status = .held ∧ (u.group g).holdStart = true ∧ (u.group g).w = (x.settings.groups.get g).wl ∧
        (u.group g).l = 1000 ∧ (u.group g).n = axlesDown u.loads.axles g)) ∧
    (u.mode.power = if high = true then .awake else .runOn) ∧
    (u.mode.runOnSince = if high = true then none else some (s.now + dt)) ∧
    (∀ i, u.analog i = ⟨[], none, .starting, 0⟩) ∧
    (∀ w, (u.wheel w).valid = true ∧ (u.wheel w).speed = 0 ∧ (u.wheel w).lastEdge = none ∧
      (u.wheel w).sound = wires.get w ∧ (u.wheel w).wireSince = s.now + dt) ∧
    u.inputs.reference = 0 ∧ u.inputs.motion = .rolling ∧ u.inputs.belowSince = some (s.now + dt) ∧
    (∀ a sd, u.pair a sd =
      if (x.axles.get a).layout.present = true ∧ (x.axles.get a).layout.dual = true then .unordered else .notAPair) ∧
    u.demands = .fresh ∧ u.channels.mode = .electronic ∧
    (∀ c, (u.channel c).lock = .free ∧ (u.channel c).cap = 1000 ∧ (u.channel c).target = 0) ∧
    u.stability.state = .idle ∧ u.stability.lastNegative = none ∧ u.mode = .fresh (s.now + dt) high ∧
    u.intake = .fresh (s.now + dt) ∧ u.port = .fresh s.store.judged.isSome ∧
    u.store = ⟨s.store.image, s.store.judged.isSome, none⟩ ∧ u.pending = s.pending) ∧
  ∀ (dt : Nat) (p : Params) (s : State), s.powered = true →
    (exec (.lossOfSupply dt) s =
      .next { (s.elapse dt).setStore { s.store with saving := none } with powered := false }) ∧
    (p.count = 0 → s.store.saving ≠ none → exec (.restart dt p) s =
      .next ((s.taken dt).turnedAway 0x04 .busy unnamed)) ∧
    (p.count = 0 → s.store.saving = none → ∃ u : State, exec (.restart dt p) s = .next u.settle ∧
      u.port.reply = .empty ∧ u.port.sent = s.port.reply ∧ u.port.detail = none ∧ u.port.batchSize = 1 ∧
      u.port.batch = .idle ∧ (∀ e ∈ u.demands.table, e.source = .pneumatic ∨ e.source = .emergency) ∧
      u.stability.state = .idle ∧ u.stability.lastNegative = none ∧ u.mode.workshop = .off ∧
      u.mode.running = none ∧ u.mode.staged = none ∧ u.mode.result = .none ∧ u.mode.cause = none ∧
      u.intake.window = none ∧ u.intake.candidates = [] ∧
      u.intake.rx = { synced := false, chars := [], bad := false, lastChar := s.now + dt } ∧
      (∀ a, (u.axle a).mode = .heldUp → (u.axle a).lift = .down → (u.axle a).raisePending = false) ∧
      (s.settings.policy = .keep → s.formedReference = s.inputs.reference →
        (∀ a, (u.axle a).lift = .down ↔ (s.axle a).lift = .down) →
        u.inputs.reference = s.inputs.reference ∧ u.inputs.motion = s.inputs.motion) ∧
      (s.mode.power ≠ .watch → (u.inputs.motion = .moving → s.inputs.motion = .moving) →
        u.mode.power = s.mode.power ∧ u.mode.runOnSince = s.mode.runOnSince ∧ u.mode.awaited = s.mode.awaited) ∧
      (s.mode.power = .watch → (u.inputs.motion = .moving → s.inputs.motion = .moving) →
        (s.mode.wakeTaken = true → u.mode.power = .awake ∧ u.mode.awaited = false) ∧
        (s.mode.wakeTaken = false → s.inputs.motion ≠ .standstill → u.mode.power = .awake ∧ u.mode.awaited = true) ∧
        (s.mode.wakeTaken = false → s.inputs.motion = .standstill →
          u.mode.power = .runOn ∧ u.mode.runOnSince = some (s.now + dt) ∧ u.mode.awaited = false)) ∧
      (u.port.notices.sensorSilent = 0 ∧ u.port.notices.learnResult = none ∧
        u.port.notices.candidateReady = false ∧ u.port.notices.digitalTimeout = false ∧
        u.port.notices.liftConflict = 0 ∧ u.port.notices.liftFault = 0 ∧ u.port.notices.lockTimeout = 0 ∧
        u.port.notices.stabilityAction = none ∧ u.port.notices.workshopChange = none ∧
        u.port.notices.storeResult = none ∧
        (u.port.notices.storeInvalid = true ↔
          s.settings.policy = .restore ∧ (s.store.valid = false ∨ s.store.image = none)) ∧
        (s.settings.policy = .keep ∨ s.store.valid = false ∨ s.store.image = none →
          u.port.notices.positionsRetired = 0 ∧ u.port.notices.liftChange = 0 ∧
          (u.hasEntry .emergency = false → u.port.notices.tyreLevel = 0 ∧ u.port.notices.pairMismatch = 0))) ∧
      u.store = s.store ∧ u.inputs.analog = s.inputs.analog ∧ u.inputs.wheels = s.inputs.wheels ∧
      u.channels.mode = s.channels.mode ∧
      (s.settings.policy = .keep → u.settings = s.settings ∧ (∀ a, (u.axle a).layout = (s.axle a).layout) ∧
        ∀ q, (u.position q).pl = (s.position q).pl ∧ (u.position q).pe = (s.position q).pe ∧
          (s.learnLaw → (s.position q).state ≠ .learning → (u.position q).bound = (s.position q).bound ∧
            (u.position q).state = (s.position q).state)) ∧
      (s.settings.policy = .restore → s.store.valid = false ∨ s.store.image = none →
        u.settings = s.settings ∧ u.port.notices.storeInvalid = true) ∧
      (∀ x, s.settings.policy = .restore → s.store.valid = true → s.store.image = some x →
        u.settings = x.contents.settings ∧ (∀ a, (u.axle a).layout = (x.contents.axles.get a).layout) ∧
        ∀ q, s.TableLaws → (u.position q).pl = (x.contents.positions.get q).pl ∧
          (u.position q).pe = (x.contents.positions.get q).pe ∧
          (u.position q).bound = (x.contents.positions.get q).bound ∧
          (u.position q).state = (if (x.contents.positions.get q).bound.isSome then .awaiting else .empty)))

/-! ### The inputs -/

/-- R51, R52, R68, R72, R91, R92, R114, R122, R134: a conversion is taken by its input as the averaging rule says; the input's consuming units take its
event while it is in use. A new average of CTL creates, refreshes or retires the PNEUMATIC entry and one of SUP the
EMERGENCY entry; the loss of CTL or SUP retires the entry. A delivered input drives its valves, a bellows input gives its
group's load, and LAT is compared by the STU; an input that fails from STARTING is measured from power-on. -/
def Obligations.ConversionsAreTaken : Prop :=
  (∀ (x : AnalogInput) (v : Int),
    (x.taken v false).validity = .invalid ∧ (x.taken v false).window = [] ∧ (x.taken v false).count = 0 ∧
    (x.taken v false).average = x.average ∧
    (x.validity = .valid → (x.taken v true).validity = .valid ∧ (x.taken v true).window = x.window.tail ++ [v] ∧
      (x.taken v true).average = some (Int.tdiv ((x.window.tail ++ [v]).sum) 4)) ∧
    (x.validity ≠ .valid → x.count ≠ 3 → (x.taken v true).validity = x.validity ∧
      (x.taken v true).window = x.window ++ [v] ∧ (x.taken v true).count = x.count + 1 ∧
      (x.taken v true).average = x.average) ∧
    (x.validity ≠ .valid → x.count = 3 → (x.taken v true).validity = .valid ∧
      (x.taken v true).average = some (Int.tdiv ((x.window ++ [v]).sum) 4))) ∧
  ∀ (dt : Nat) (s : State) (i : AnalogId) (mv : Nat) (after : AnalogInput), s.powered = true →
    after = (s.analog i).taken (convertedValue i mv) (inBandReading i mv) →
    (s.analogInUse i = false → exec (.conversion dt i mv) s = .next ((s.elapse dt).setAnalog i after)) ∧
    (s.analogInUse i = true → ∃ u : State, exec (.conversion dt i mv) s = .next u.settle ∧ u.analog i = after ∧
      (∀ j, j ≠ i → u.analog j = s.analog j) ∧
      ((s.analog i).validity ≠ .valid → after.validity ≠ .valid → (s.analog i).validity = after.validity →
        u = (s.elapse dt).setAnalog i after) ∧
      (i = .ctl → ∀ v, after.validity = .valid → after.average = some v →
        (s.hasEntry .pneumatic = true → v < 10 → u.entry .pneumatic = none) ∧
        (s.hasEntry .pneumatic = true → 10 ≤ v →
          (u.entry .pneumatic).map Entry.demand = some (.whole v.toNat)) ∧
        (s.hasEntry .pneumatic = false → v < 15 → u.entry .pneumatic = none) ∧
        (s.hasEntry .pneumatic = false → 15 ≤ v →
          (u.entry .pneumatic).map Entry.demand = some (.whole v.toNat)) ∧
        (∀ x, x ≠ .pneumatic → u.entry x = s.entry x)) ∧
      (i = .ctl → (s.analog .ctl).validity = .valid → after.validity = .invalid →
        u.entry .pneumatic = none ∧ u.channels.controlSince = some (s.now + dt)) ∧
      (i = .ctl → (s.analog .ctl).validity = .starting → after.validity = .invalid →
        u.channels.controlSince = some s.startedAt) ∧
      (i = .ctl → (s.analog .ctl).validity ≠ .valid → after.validity = .valid → u.channels.controlSince = none) ∧
      (i = .lat → (s.analog .lat).validity ≠ .invalid → after.validity = .invalid →
        u = (s.elapse dt).setAnalog .lat after) ∧
      (∀ a, i = .lat → after.validity = .valid → after.average = some a →
        ((s.analog .lat).validity = .valid → u = ((s.elapse dt).setAnalog .lat after).followStability.takeLateral a) ∧
        ((s.analog .lat).validity ≠ .valid →
          u = ((s.elapse dt).setAnalog .lat after).followStability.arm.takeLateral a)) ∧
      (i = .sup → ∀ v, after.validity = .valid → after.average = some v →
        (s.hasEntry .emergency = true → 500 ≤ v → u.entry .emergency = none) ∧
        (s.hasEntry .emergency = true → v < 500 → u.entry .emergency = s.entry .emergency) ∧
        (s.hasEntry .emergency = false → v < 450 →
          (u.entry .emergency).map Entry.demand = some (.whole 1000) ∧
          ∀ a, (u.axle a).lift ≠ .raising ∧ (u.axle a).lift ≠ .up) ∧
        (s.hasEntry .emergency = false → 450 ≤ v → u.entry .emergency = none)) ∧
      (i = .sup → (s.analog .sup).validity = .valid → after.validity = .invalid → u.entry .emergency = none) ∧
      (∀ c, i = c.delivered → (s.analog i).validity ≠ .invalid → after.validity = .invalid →
        (u.channel c).deliveredSince =
          some (if (s.analog i).validity = .valid then s.now + dt else s.startedAt)) ∧
      (∀ c, i = c.delivered → (s.analog i).validity ≠ .valid → after.validity = .valid →
        (u.channel c).deliveredSince = none) ∧
      (∀ c pm, i = c.delivered → after.validity = .valid →
        after.average = some pm → 0 ≤ pm → s.channels.mode = .electronic → s.mode.power ≠ .watch →
        (u.channel c).delivered = some pm.toNat ∧
        (u.channel c).inlet = decide (pm.toNat + 15 < min (s.channel c).target (s.channel c).cap) ∧
        (u.channel c).exhaust = decide (min (s.channel c).target (s.channel c).cap + 15 < pm.toNat)) ∧
      (∀ g v, i = g.bellows → (s.analog i).validity = .valid → after.validity = .valid → after.average = some v →
        (s.group g).status = .valid →
        (u.group g).w = loadW (s.calibration g) v ∧ (u.group g).l = loadL (s.calibration g) (u.group g).w) ∧
      (∀ g, i = g.bellows → (s.analog i).validity = .valid → after.validity = .invalid →
        (u.group g).status ≠ .valid ∧ (u.group g).holdSensor = true ∧ (u.group g).sensorSince = some (s.now + dt) ∧
        (u.group g).w = (s.group g).w ∧ (u.group g).l = (s.group g).l) ∧
      (∀ g, i = g.bellows → (s.analog i).validity = .starting → after.validity = .invalid →
        (u.group g).status ≠ .valid ∧ (u.group g).holdStart = false ∧ (u.group g).holdSensor = true ∧
        (u.group g).sensorSince = some s.startedAt) ∧
      (∀ g v, i = g.bellows → (s.analog i).validity ≠ .valid → after.validity = .valid → after.average = some v →
        (u.group g).holdStart = false ∧ (u.group g).holdSensor = false ∧ (u.group g).sensorSince = none ∧
        ((s.group g).holdTransition = true ∨ (s.group g).holdRoll = true → (u.group g).status = .held ∧
          (u.group g).w = (s.group g).w ∧ (u.group g).l = (s.group g).l) ∧
        ((s.group g).holdTransition = false → (s.group g).holdRoll = false →
          (u.group g).w = loadW (s.calibration g) v ∧ (u.group g).l = loadL (s.calibration g) (u.group g).w ∧
          ((∀ a, (s.axle a).mode ≠ .heldUp) → (u.group g).status = .valid))))

/-- R56 to R61, R84, R152, R154: an edge takes the speed from the time since the last one, at most 1500, and one within 200
µs is no edge; the speed decays with the gap and falls to 0 without an edge for 1000 ms; a wire BROKEN for 20 ms makes
the input INVALID and one SOUND for 500 ms VALID. A changed speed or validity is judged for a lift fault of each axle that
names the input, before the change is settled. The reference speed is the largest of its wheels, and the motion state
follows it: the measurement of STANDSTILL runs from the fall below 5 on, and an entry into MOVING ends RUN-ON and wakes
a part in WATCH. That a reference speed formed anew is new only where it differs from the one held is the model's
reading, notes 30. The model's choices: a decay acts whenever it is commanded (notes 11), in the very microsecond of the
edge it leaves the speed (notes 39), and a stop or a change of validity that is not due only lets the time pass (notes
1). -/
def Obligations.WheelInputsFollowTheirEdges : Prop :=
  (∀ s : State,
    (∀ w ∈ s.referenceSet, (s.wheel w).speed ≤ s.formedReference) ∧
    (s.referenceSet ≠ [] → ∃ w ∈ s.referenceSet, (s.wheel w).speed = s.formedReference) ∧
    (s.referenceSet = [] → s.formedReference = 0) ∧
    (∀ w, w ∈ s.referenceSet ↔ (s.wheel w).valid = true ∧ ∃ a, (s.axle a).layout.present = true ∧
      (s.axle a).lift = .down ∧ ((s.axle a).layout.left = some w ∨ (s.axle a).layout.right = some w))) ∧
  (∀ (m : Motion) (v : Nat),
    (20 < v → motionAt m v = .moving) ∧ (5 ≤ v → v ≤ 20 → motionAt m v = .rolling) ∧
    (v < 5 → motionAt m v = if m = .standstill then .standstill else .rolling)) ∧
  (∀ (s t : State) (v : Nat), t = s.followReference → v = s.formedReference → t.inputs.reference = v ∧
    (v = s.inputs.reference → t = s) ∧
    (v ≠ s.inputs.reference → t.inputs.motion = motionAt s.inputs.motion v ∧
      (5 ≤ v ∨ s.inputs.motion = .standstill → t.inputs.belowSince = none) ∧
      (v < 5 → s.inputs.motion ≠ .standstill → t.inputs.belowSince = some (s.inputs.belowSince.getD s.now)) ∧
      (s.inputs.motion = .moving ∨ v ≤ 20 → t.mode.power = s.mode.power ∧ t.mode.awaited = s.mode.awaited ∧
        t.mode.runOnSince = s.mode.runOnSince) ∧
      (s.inputs.motion ≠ .moving → 20 < v →
        (s.mode.power = .awake → t.mode.power = .awake ∧ t.mode.awaited = s.mode.awaited) ∧
        (s.mode.power = .runOn → t.mode.power = .awake ∧ t.mode.awaited = true ∧ t.mode.runOnSince = none) ∧
        (s.mode.power = .watch → t.mode.power = .awake ∧ t.mode.awaited = !s.mode.wakeTaken ∧
          t.mode.runOnSince = none)))) ∧
  (∀ (s u : State) (w : WheelId) (x : WheelInput) (names : AxleId → Bool) (faulty : AxleId → Prop),
    (∀ a, names a = true ↔ (s.axle a).layout.left = some w ∨ (s.axle a).layout.right = some w) →
    (∀ a, faulty a ↔ names a = true ∧ (s.axle a).layout.present = true ∧ (s.axle a).layout.liftable = true ∧
      (s.axle a).lift = .up ∧ (s.setWheel w x).wheelTurns a = true ∧ 100 < s.inputs.reference) →
    u = (AxleId.list.filter names).foldl State.judgeLiftFault (s.setWheel w x) →
    s.wheelEvent w x =
      (if x.speed = (s.wheel w).speed ∧ x.valid = (s.wheel w).valid then s.setWheel w x else u.settle) ∧
    u.wheel w = x ∧ (∀ v, v ≠ w → u.wheel v = s.wheel v) ∧
    ((∀ a, ¬faulty a) → u = s.setWheel w x) ∧ u.inputs = (s.setWheel w x).inputs ∧
    (∀ a, faulty a → (u.axle a).lift = .lowering ∧ (u.axle a).mode = .heldDown ∧
      u.port.notices.liftFault &&& bit (a.number - 1) = bit (a.number - 1)) ∧
    ∀ a, ¬faulty a → u.axle a = s.axle a) ∧
  ∀ (dt : Nat) (s : State) (w : WheelId) (x : WheelInput), s.powered = true → s.wheel w = x →
    (x.valid = false → exec (.wheelEdge dt w) s = .next (s.elapse dt)) ∧
    (x.valid = true → x.lastEdge = none → exec (.wheelEdge dt w) s =
      .next ((s.elapse dt).setWheel w { x with lastEdge := some (s.now + dt) })) ∧
    (∀ e, x.valid = true → x.lastEdge = some e →
      (s.now + dt - e < 200 → exec (.wheelEdge dt w) s = .next (s.elapse dt)) ∧
      (200 ≤ s.now + dt - e → exec (.wheelEdge dt w) s =
        .next ((s.elapse dt).wheelEvent w { x with
          lastEdge := some (s.now + dt)
          speed := min 1500 (s.settings.circumference * 36000 / (s.settings.teeth * (s.now + dt - e))) })) ∧
      (s.now + dt ≤ e → exec (.speedDecay dt w) s = .next (s.elapse dt)) ∧
      (e < s.now + dt → exec (.speedDecay dt w) s =
        .next ((s.elapse dt).wheelEvent w { x with
          speed := min x.speed (s.settings.circumference * 36000 / (s.settings.teeth * (s.now + dt - e))) })) ∧
      (e + 1000000 ≤ s.now + dt → exec (.wheelStop dt w) s =
        .next ((s.elapse dt).wheelEvent w { x with lastEdge := none, speed := 0 })) ∧
      (s.now + dt < e + 1000000 → exec (.wheelStop dt w) s = .next (s.elapse dt))) ∧
    (x.valid = false ∨ x.lastEdge = none → exec (.speedDecay dt w) s = .next (s.elapse dt) ∧
      exec (.wheelStop dt w) s = .next (s.elapse dt)) ∧
    (∀ sound, exec (.wireStateChange dt w sound) s =
      .next (if sound = x.sound then s.elapse dt
        else (s.elapse dt).setWheel w { x with sound := sound, wireSince := s.now + dt })) ∧
    (x.valid = true → x.sound = false → x.wireSince + 20000 ≤ s.now + dt → exec (.wheelInputInvalid dt w) s =
      .next ((s.elapse dt).wheelEvent w { x with valid := false, speed := 0, lastEdge := none })) ∧
    (x.valid = false ∨ x.sound = true ∨ s.now + dt < x.wireSince + 20000 →
      exec (.wheelInputInvalid dt w) s = .next (s.elapse dt)) ∧
    (x.valid = false → x.sound = true → x.wireSince + 500000 ≤ s.now + dt → exec (.wheelInputValid dt w) s =
      .next ((s.elapse dt).wheelEvent w { x with valid := true, speed := 0, lastEdge := none })) ∧
    (x.valid = true ∨ x.sound = false ∨ s.now + dt < x.wireSince + 500000 →
      exec (.wheelInputValid dt w) s = .next (s.elapse dt))
end

