-- ==== Sys2Proof/Laws/Containers.lean ====
section
/-! SUPPORT. Reading one member of a container after another was written, and after a map. -/
namespace Sys2Proof

theorem PerAxle.get_set {α : Type} (t : PerAxle α) (i j : AxleId) (x : α) :
    (t.set i x).get j = if j = i then x else t.get j := by cases i <;> cases j <;> rfl

theorem PerAxle.ext_get {α : Type} {t u : PerAxle α} (h : ∀ i, t.get i = u.get i) : t = u := by
  cases t; cases u
  simp only [PerAxle.mk.injEq]
  exact ⟨h .a1, h .a2, h .a3, h .a4, h .a5⟩

theorem PerSlot.get_set {α : Type} (t : PerSlot α) (i j : Slot) (x : α) :
    (t.set i x).get j = if j = i then x else t.get j := by cases i <;> cases j <;> rfl

theorem PerSlot.ext_get {α : Type} {t u : PerSlot α} (h : ∀ i, t.get i = u.get i) : t = u := by
  cases t; cases u
  simp only [PerSlot.mk.injEq]
  exact ⟨h .lo, h .li, h .ri, h .ro⟩

theorem PerSide.get_set {α : Type} (t : PerSide α) (i j : Side) (x : α) :
    (t.set i x).get j = if j = i then x else t.get j := by cases i <;> cases j <;> rfl

theorem PerSide.ext_get {α : Type} {t u : PerSide α} (h : ∀ i, t.get i = u.get i) : t = u := by
  cases t; cases u
  simp only [PerSide.mk.injEq]
  exact ⟨h .left, h .right⟩

theorem PerGroup.get_set {α : Type} (t : PerGroup α) (i j : GroupId) (x : α) :
    (t.set i x).get j = if j = i then x else t.get j := by cases i <;> cases j <;> rfl

theorem PerGroup.ext_get {α : Type} {t u : PerGroup α} (h : ∀ i, t.get i = u.get i) : t = u := by
  cases t; cases u
  simp only [PerGroup.mk.injEq]
  exact ⟨h .g1, h .g2⟩

theorem PerChannel.get_set {α : Type} (t : PerChannel α) (i j : ChannelId) (x : α) :
    (t.set i x).get j = if j = i then x else t.get j := by cases i <;> cases j <;> rfl

theorem PerChannel.ext_get {α : Type} {t u : PerChannel α} (h : ∀ i, t.get i = u.get i) : t = u := by
  cases t; cases u
  simp only [PerChannel.mk.injEq]
  exact ⟨h .chL, h .chR, h .chX⟩

theorem PerWheel.get_set {α : Type} (t : PerWheel α) (i j : WheelId) (x : α) :
    (t.set i x).get j = if j = i then x else t.get j := by cases i <;> cases j <;> rfl

theorem PerWheel.ext_get {α : Type} {t u : PerWheel α} (h : ∀ i, t.get i = u.get i) : t = u := by
  cases t; cases u
  simp only [PerWheel.mk.injEq]
  exact ⟨h .s1, h .s2, h .s3, h .s4, h .s5, h .s6⟩

theorem PerAnalog.get_set {α : Type} (t : PerAnalog α) (i j : AnalogId) (x : α) :
    (t.set i x).get j = if j = i then x else t.get j := by cases i <;> cases j <;> rfl

theorem PerAnalog.ext_get {α : Type} {t u : PerAnalog α} (h : ∀ i, t.get i = u.get i) : t = u := by
  cases t; cases u
  simp only [PerAnalog.mk.injEq]
  exact ⟨h .ctl, h .sup, h .dl, h .dr, h .dx, h .b1, h .b2, h .lat⟩

@[simp] theorem PerAxle.get_map {α β : Type} (f : α → β) (t : PerAxle α) (i : AxleId) :
    (t.map f).get i = f (t.get i) := by cases i <;> rfl

@[simp] theorem PerSlot.get_map {α β : Type} (f : α → β) (t : PerSlot α) (i : Slot) :
    (t.map f).get i = f (t.get i) := by cases i <;> rfl

@[simp] theorem PerChannel.get_map {α β : Type} (f : α → β) (t : PerChannel α) (i : ChannelId) :
    (t.map f).get i = f (t.get i) := by cases i <;> rfl

@[simp] theorem PerWheel.get_map {α β : Type} (f : α → β) (t : PerWheel α) (i : WheelId) :
    (t.map f).get i = f (t.get i) := by cases i <;> rfl

theorem PerPosition.get_set {α : Type} (t : PerPosition α) (p q : Position) (x : α) :
    (t.set p x).get q = if q = p then x else t.get q := by
  cases p with
  | road a sl =>
    cases q with
    | road b sl' =>
      by_cases h : b = a
      · subst h
        by_cases h' : sl' = sl <;> simp [PerPosition.set, PerPosition.get, PerAxle.get_set, PerSlot.get_set, h']
      · simp [PerPosition.set, PerPosition.get, PerAxle.get_set, h]
    | sp1 => rfl
    | sp2 => rfl
  | sp1 => cases q <;> rfl
  | sp2 => cases q <;> rfl

@[simp] theorem PerPosition.get_map {α β : Type} (f : α → β) (t : PerPosition α) (p : Position) :
    (t.map f).get p = f (t.get p) := by
  cases p <;> simp [PerPosition.map, PerPosition.get]

theorem Position.mem_list (p : Position) : p ∈ Position.list := by
  cases p with
  | road a sl => cases a <;> cases sl <;> decide
  | sp1 => decide
  | sp2 => decide

theorem AxleId.mem_list (a : AxleId) : a ∈ AxleId.list := by cases a <;> decide

theorem ChannelId.mem_list (c : ChannelId) : c ∈ ChannelId.list := by cases c <;> decide

theorem GroupId.mem_list (g : GroupId) : g ∈ GroupId.list := by cases g <;> decide

theorem Position.ofIndex_index (p : Position) : Position.ofIndex p.index = some p := by
  cases p with
  | road a sl => cases a <;> cases sl <;> rfl
  | sp1 => rfl
  | sp2 => rfl

end Sys2Proof
end

