-- ==== Sys2Proof/Laws/State.lean ====
section
/-! SUPPORT. What each update of the state leaves and what it writes: one lemma for each field of the state and each
update, so that no proof unfolds a record update. -/
namespace Sys2Proof.Machine

variable (s : State)

/-! ### setSettings -/

@[simp] theorem State.setSettings_powered (x : Settings) : (s.setSettings x).powered = s.powered := rfl
@[simp] theorem State.setSettings_now (x : Settings) : (s.setSettings x).now = s.now := rfl
@[simp] theorem State.setSettings_startedAt (x : Settings) : (s.setSettings x).startedAt = s.startedAt := rfl
@[simp] theorem State.setSettings_settings (x : Settings) : (s.setSettings x).settings = x := rfl
@[simp] theorem State.setSettings_inputs (x : Settings) : (s.setSettings x).inputs = s.inputs := rfl
@[simp] theorem State.setSettings_tyres (x : Settings) : (s.setSettings x).tyres = s.tyres := rfl
@[simp] theorem State.setSettings_intake (x : Settings) : (s.setSettings x).intake = s.intake := rfl
@[simp] theorem State.setSettings_loads (x : Settings) : (s.setSettings x).loads = s.loads := rfl
@[simp] theorem State.setSettings_demands (x : Settings) : (s.setSettings x).demands = s.demands := rfl
@[simp] theorem State.setSettings_channels (x : Settings) : (s.setSettings x).channels = s.channels := rfl
@[simp] theorem State.setSettings_stability (x : Settings) : (s.setSettings x).stability = s.stability := rfl
@[simp] theorem State.setSettings_mode (x : Settings) : (s.setSettings x).mode = s.mode := rfl
@[simp] theorem State.setSettings_port (x : Settings) : (s.setSettings x).port = s.port := rfl
@[simp] theorem State.setSettings_store (x : Settings) : (s.setSettings x).store = s.store := rfl
@[simp] theorem State.setSettings_pending (x : Settings) : (s.setSettings x).pending = s.pending := rfl

/-! ### setInputs -/

@[simp] theorem State.setInputs_powered (x : Inputs) : (s.setInputs x).powered = s.powered := rfl
@[simp] theorem State.setInputs_now (x : Inputs) : (s.setInputs x).now = s.now := rfl
@[simp] theorem State.setInputs_startedAt (x : Inputs) : (s.setInputs x).startedAt = s.startedAt := rfl
@[simp] theorem State.setInputs_settings (x : Inputs) : (s.setInputs x).settings = s.settings := rfl
@[simp] theorem State.setInputs_inputs (x : Inputs) : (s.setInputs x).inputs = x := rfl
@[simp] theorem State.setInputs_tyres (x : Inputs) : (s.setInputs x).tyres = s.tyres := rfl
@[simp] theorem State.setInputs_intake (x : Inputs) : (s.setInputs x).intake = s.intake := rfl
@[simp] theorem State.setInputs_loads (x : Inputs) : (s.setInputs x).loads = s.loads := rfl
@[simp] theorem State.setInputs_demands (x : Inputs) : (s.setInputs x).demands = s.demands := rfl
@[simp] theorem State.setInputs_channels (x : Inputs) : (s.setInputs x).channels = s.channels := rfl
@[simp] theorem State.setInputs_stability (x : Inputs) : (s.setInputs x).stability = s.stability := rfl
@[simp] theorem State.setInputs_mode (x : Inputs) : (s.setInputs x).mode = s.mode := rfl
@[simp] theorem State.setInputs_port (x : Inputs) : (s.setInputs x).port = s.port := rfl
@[simp] theorem State.setInputs_store (x : Inputs) : (s.setInputs x).store = s.store := rfl
@[simp] theorem State.setInputs_pending (x : Inputs) : (s.setInputs x).pending = s.pending := rfl

/-! ### setTyres -/

@[simp] theorem State.setTyres_powered (x : Tyres) : (s.setTyres x).powered = s.powered := rfl
@[simp] theorem State.setTyres_now (x : Tyres) : (s.setTyres x).now = s.now := rfl
@[simp] theorem State.setTyres_startedAt (x : Tyres) : (s.setTyres x).startedAt = s.startedAt := rfl
@[simp] theorem State.setTyres_settings (x : Tyres) : (s.setTyres x).settings = s.settings := rfl
@[simp] theorem State.setTyres_inputs (x : Tyres) : (s.setTyres x).inputs = s.inputs := rfl
@[simp] theorem State.setTyres_tyres (x : Tyres) : (s.setTyres x).tyres = x := rfl
@[simp] theorem State.setTyres_intake (x : Tyres) : (s.setTyres x).intake = s.intake := rfl
@[simp] theorem State.setTyres_loads (x : Tyres) : (s.setTyres x).loads = s.loads := rfl
@[simp] theorem State.setTyres_demands (x : Tyres) : (s.setTyres x).demands = s.demands := rfl
@[simp] theorem State.setTyres_channels (x : Tyres) : (s.setTyres x).channels = s.channels := rfl
@[simp] theorem State.setTyres_stability (x : Tyres) : (s.setTyres x).stability = s.stability := rfl
@[simp] theorem State.setTyres_mode (x : Tyres) : (s.setTyres x).mode = s.mode := rfl
@[simp] theorem State.setTyres_port (x : Tyres) : (s.setTyres x).port = s.port := rfl
@[simp] theorem State.setTyres_store (x : Tyres) : (s.setTyres x).store = s.store := rfl
@[simp] theorem State.setTyres_pending (x : Tyres) : (s.setTyres x).pending = s.pending := rfl

/-! ### setIntake -/

@[simp] theorem State.setIntake_powered (x : Intake) : (s.setIntake x).powered = s.powered := rfl
@[simp] theorem State.setIntake_now (x : Intake) : (s.setIntake x).now = s.now := rfl
@[simp] theorem State.setIntake_startedAt (x : Intake) : (s.setIntake x).startedAt = s.startedAt := rfl
@[simp] theorem State.setIntake_settings (x : Intake) : (s.setIntake x).settings = s.settings := rfl
@[simp] theorem State.setIntake_inputs (x : Intake) : (s.setIntake x).inputs = s.inputs := rfl
@[simp] theorem State.setIntake_tyres (x : Intake) : (s.setIntake x).tyres = s.tyres := rfl
@[simp] theorem State.setIntake_intake (x : Intake) : (s.setIntake x).intake = x := rfl
@[simp] theorem State.setIntake_loads (x : Intake) : (s.setIntake x).loads = s.loads := rfl
@[simp] theorem State.setIntake_demands (x : Intake) : (s.setIntake x).demands = s.demands := rfl
@[simp] theorem State.setIntake_channels (x : Intake) : (s.setIntake x).channels = s.channels := rfl
@[simp] theorem State.setIntake_stability (x : Intake) : (s.setIntake x).stability = s.stability := rfl
@[simp] theorem State.setIntake_mode (x : Intake) : (s.setIntake x).mode = s.mode := rfl
@[simp] theorem State.setIntake_port (x : Intake) : (s.setIntake x).port = s.port := rfl
@[simp] theorem State.setIntake_store (x : Intake) : (s.setIntake x).store = s.store := rfl
@[simp] theorem State.setIntake_pending (x : Intake) : (s.setIntake x).pending = s.pending := rfl

/-! ### setLoads -/

@[simp] theorem State.setLoads_powered (x : Loads) : (s.setLoads x).powered = s.powered := rfl
@[simp] theorem State.setLoads_now (x : Loads) : (s.setLoads x).now = s.now := rfl
@[simp] theorem State.setLoads_startedAt (x : Loads) : (s.setLoads x).startedAt = s.startedAt := rfl
@[simp] theorem State.setLoads_settings (x : Loads) : (s.setLoads x).settings = s.settings := rfl
@[simp] theorem State.setLoads_inputs (x : Loads) : (s.setLoads x).inputs = s.inputs := rfl
@[simp] theorem State.setLoads_tyres (x : Loads) : (s.setLoads x).tyres = s.tyres := rfl
@[simp] theorem State.setLoads_intake (x : Loads) : (s.setLoads x).intake = s.intake := rfl
@[simp] theorem State.setLoads_loads (x : Loads) : (s.setLoads x).loads = x := rfl
@[simp] theorem State.setLoads_demands (x : Loads) : (s.setLoads x).demands = s.demands := rfl
@[simp] theorem State.setLoads_channels (x : Loads) : (s.setLoads x).channels = s.channels := rfl
@[simp] theorem State.setLoads_stability (x : Loads) : (s.setLoads x).stability = s.stability := rfl
@[simp] theorem State.setLoads_mode (x : Loads) : (s.setLoads x).mode = s.mode := rfl
@[simp] theorem State.setLoads_port (x : Loads) : (s.setLoads x).port = s.port := rfl
@[simp] theorem State.setLoads_store (x : Loads) : (s.setLoads x).store = s.store := rfl
@[simp] theorem State.setLoads_pending (x : Loads) : (s.setLoads x).pending = s.pending := rfl

/-! ### setDemands -/

@[simp] theorem State.setDemands_powered (x : Demands) : (s.setDemands x).powered = s.powered := rfl
@[simp] theorem State.setDemands_now (x : Demands) : (s.setDemands x).now = s.now := rfl
@[simp] theorem State.setDemands_startedAt (x : Demands) : (s.setDemands x).startedAt = s.startedAt := rfl
@[simp] theorem State.setDemands_settings (x : Demands) : (s.setDemands x).settings = s.settings := rfl
@[simp] theorem State.setDemands_inputs (x : Demands) : (s.setDemands x).inputs = s.inputs := rfl
@[simp] theorem State.setDemands_tyres (x : Demands) : (s.setDemands x).tyres = s.tyres := rfl
@[simp] theorem State.setDemands_intake (x : Demands) : (s.setDemands x).intake = s.intake := rfl
@[simp] theorem State.setDemands_loads (x : Demands) : (s.setDemands x).loads = s.loads := rfl
@[simp] theorem State.setDemands_demands (x : Demands) : (s.setDemands x).demands = x := rfl
@[simp] theorem State.setDemands_channels (x : Demands) : (s.setDemands x).channels = s.channels := rfl
@[simp] theorem State.setDemands_stability (x : Demands) : (s.setDemands x).stability = s.stability := rfl
@[simp] theorem State.setDemands_mode (x : Demands) : (s.setDemands x).mode = s.mode := rfl
@[simp] theorem State.setDemands_port (x : Demands) : (s.setDemands x).port = s.port := rfl
@[simp] theorem State.setDemands_store (x : Demands) : (s.setDemands x).store = s.store := rfl
@[simp] theorem State.setDemands_pending (x : Demands) : (s.setDemands x).pending = s.pending := rfl

/-! ### setChannels -/

@[simp] theorem State.setChannels_powered (x : Channels) : (s.setChannels x).powered = s.powered := rfl
@[simp] theorem State.setChannels_now (x : Channels) : (s.setChannels x).now = s.now := rfl
@[simp] theorem State.setChannels_startedAt (x : Channels) : (s.setChannels x).startedAt = s.startedAt := rfl
@[simp] theorem State.setChannels_settings (x : Channels) : (s.setChannels x).settings = s.settings := rfl
@[simp] theorem State.setChannels_inputs (x : Channels) : (s.setChannels x).inputs = s.inputs := rfl
@[simp] theorem State.setChannels_tyres (x : Channels) : (s.setChannels x).tyres = s.tyres := rfl
@[simp] theorem State.setChannels_intake (x : Channels) : (s.setChannels x).intake = s.intake := rfl
@[simp] theorem State.setChannels_loads (x : Channels) : (s.setChannels x).loads = s.loads := rfl
@[simp] theorem State.setChannels_demands (x : Channels) : (s.setChannels x).demands = s.demands := rfl
@[simp] theorem State.setChannels_channels (x : Channels) : (s.setChannels x).channels = x := rfl
@[simp] theorem State.setChannels_stability (x : Channels) : (s.setChannels x).stability = s.stability := rfl
@[simp] theorem State.setChannels_mode (x : Channels) : (s.setChannels x).mode = s.mode := rfl
@[simp] theorem State.setChannels_port (x : Channels) : (s.setChannels x).port = s.port := rfl
@[simp] theorem State.setChannels_store (x : Channels) : (s.setChannels x).store = s.store := rfl
@[simp] theorem State.setChannels_pending (x : Channels) : (s.setChannels x).pending = s.pending := rfl

/-! ### setStability -/

@[simp] theorem State.setStability_powered (x : Stability) : (s.setStability x).powered = s.powered := rfl
@[simp] theorem State.setStability_now (x : Stability) : (s.setStability x).now = s.now := rfl
@[simp] theorem State.setStability_startedAt (x : Stability) : (s.setStability x).startedAt = s.startedAt := rfl
@[simp] theorem State.setStability_settings (x : Stability) : (s.setStability x).settings = s.settings := rfl
@[simp] theorem State.setStability_inputs (x : Stability) : (s.setStability x).inputs = s.inputs := rfl
@[simp] theorem State.setStability_tyres (x : Stability) : (s.setStability x).tyres = s.tyres := rfl
@[simp] theorem State.setStability_intake (x : Stability) : (s.setStability x).intake = s.intake := rfl
@[simp] theorem State.setStability_loads (x : Stability) : (s.setStability x).loads = s.loads := rfl
@[simp] theorem State.setStability_demands (x : Stability) : (s.setStability x).demands = s.demands := rfl
@[simp] theorem State.setStability_channels (x : Stability) : (s.setStability x).channels = s.channels := rfl
@[simp] theorem State.setStability_stability (x : Stability) : (s.setStability x).stability = x := rfl
@[simp] theorem State.setStability_mode (x : Stability) : (s.setStability x).mode = s.mode := rfl
@[simp] theorem State.setStability_port (x : Stability) : (s.setStability x).port = s.port := rfl
@[simp] theorem State.setStability_store (x : Stability) : (s.setStability x).store = s.store := rfl
@[simp] theorem State.setStability_pending (x : Stability) : (s.setStability x).pending = s.pending := rfl

/-! ### setMode -/

@[simp] theorem State.setMode_powered (x : Mode) : (s.setMode x).powered = s.powered := rfl
@[simp] theorem State.setMode_now (x : Mode) : (s.setMode x).now = s.now := rfl
@[simp] theorem State.setMode_startedAt (x : Mode) : (s.setMode x).startedAt = s.startedAt := rfl
@[simp] theorem State.setMode_settings (x : Mode) : (s.setMode x).settings = s.settings := rfl
@[simp] theorem State.setMode_inputs (x : Mode) : (s.setMode x).inputs = s.inputs := rfl
@[simp] theorem State.setMode_tyres (x : Mode) : (s.setMode x).tyres = s.tyres := rfl
@[simp] theorem State.setMode_intake (x : Mode) : (s.setMode x).intake = s.intake := rfl
@[simp] theorem State.setMode_loads (x : Mode) : (s.setMode x).loads = s.loads := rfl
@[simp] theorem State.setMode_demands (x : Mode) : (s.setMode x).demands = s.demands := rfl
@[simp] theorem State.setMode_channels (x : Mode) : (s.setMode x).channels = s.channels := rfl
@[simp] theorem State.setMode_stability (x : Mode) : (s.setMode x).stability = s.stability := rfl
@[simp] theorem State.setMode_mode (x : Mode) : (s.setMode x).mode = x := rfl
@[simp] theorem State.setMode_port (x : Mode) : (s.setMode x).port = s.port := rfl
@[simp] theorem State.setMode_store (x : Mode) : (s.setMode x).store = s.store := rfl
@[simp] theorem State.setMode_pending (x : Mode) : (s.setMode x).pending = s.pending := rfl

/-! ### setPort -/

@[simp] theorem State.setPort_powered (x : Port) : (s.setPort x).powered = s.powered := rfl
@[simp] theorem State.setPort_now (x : Port) : (s.setPort x).now = s.now := rfl
@[simp] theorem State.setPort_startedAt (x : Port) : (s.setPort x).startedAt = s.startedAt := rfl
@[simp] theorem State.setPort_settings (x : Port) : (s.setPort x).settings = s.settings := rfl
@[simp] theorem State.setPort_inputs (x : Port) : (s.setPort x).inputs = s.inputs := rfl
@[simp] theorem State.setPort_tyres (x : Port) : (s.setPort x).tyres = s.tyres := rfl
@[simp] theorem State.setPort_intake (x : Port) : (s.setPort x).intake = s.intake := rfl
@[simp] theorem State.setPort_loads (x : Port) : (s.setPort x).loads = s.loads := rfl
@[simp] theorem State.setPort_demands (x : Port) : (s.setPort x).demands = s.demands := rfl
@[simp] theorem State.setPort_channels (x : Port) : (s.setPort x).channels = s.channels := rfl
@[simp] theorem State.setPort_stability (x : Port) : (s.setPort x).stability = s.stability := rfl
@[simp] theorem State.setPort_mode (x : Port) : (s.setPort x).mode = s.mode := rfl
@[simp] theorem State.setPort_port (x : Port) : (s.setPort x).port = x := rfl
@[simp] theorem State.setPort_store (x : Port) : (s.setPort x).store = s.store := rfl
@[simp] theorem State.setPort_pending (x : Port) : (s.setPort x).pending = s.pending := rfl

/-! ### setStore -/

@[simp] theorem State.setStore_powered (x : Store) : (s.setStore x).powered = s.powered := rfl
@[simp] theorem State.setStore_now (x : Store) : (s.setStore x).now = s.now := rfl
@[simp] theorem State.setStore_startedAt (x : Store) : (s.setStore x).startedAt = s.startedAt := rfl
@[simp] theorem State.setStore_settings (x : Store) : (s.setStore x).settings = s.settings := rfl
@[simp] theorem State.setStore_inputs (x : Store) : (s.setStore x).inputs = s.inputs := rfl
@[simp] theorem State.setStore_tyres (x : Store) : (s.setStore x).tyres = s.tyres := rfl
@[simp] theorem State.setStore_intake (x : Store) : (s.setStore x).intake = s.intake := rfl
@[simp] theorem State.setStore_loads (x : Store) : (s.setStore x).loads = s.loads := rfl
@[simp] theorem State.setStore_demands (x : Store) : (s.setStore x).demands = s.demands := rfl
@[simp] theorem State.setStore_channels (x : Store) : (s.setStore x).channels = s.channels := rfl
@[simp] theorem State.setStore_stability (x : Store) : (s.setStore x).stability = s.stability := rfl
@[simp] theorem State.setStore_mode (x : Store) : (s.setStore x).mode = s.mode := rfl
@[simp] theorem State.setStore_port (x : Store) : (s.setStore x).port = s.port := rfl
@[simp] theorem State.setStore_store (x : Store) : (s.setStore x).store = x := rfl
@[simp] theorem State.setStore_pending (x : Store) : (s.setStore x).pending = s.pending := rfl

/-! ### setPending -/

@[simp] theorem State.setPending_powered (x : List Instr) : (s.setPending x).powered = s.powered := rfl
@[simp] theorem State.setPending_now (x : List Instr) : (s.setPending x).now = s.now := rfl
@[simp] theorem State.setPending_startedAt (x : List Instr) : (s.setPending x).startedAt = s.startedAt := rfl
@[simp] theorem State.setPending_settings (x : List Instr) : (s.setPending x).settings = s.settings := rfl
@[simp] theorem State.setPending_inputs (x : List Instr) : (s.setPending x).inputs = s.inputs := rfl
@[simp] theorem State.setPending_tyres (x : List Instr) : (s.setPending x).tyres = s.tyres := rfl
@[simp] theorem State.setPending_intake (x : List Instr) : (s.setPending x).intake = s.intake := rfl
@[simp] theorem State.setPending_loads (x : List Instr) : (s.setPending x).loads = s.loads := rfl
@[simp] theorem State.setPending_demands (x : List Instr) : (s.setPending x).demands = s.demands := rfl
@[simp] theorem State.setPending_channels (x : List Instr) : (s.setPending x).channels = s.channels := rfl
@[simp] theorem State.setPending_stability (x : List Instr) : (s.setPending x).stability = s.stability := rfl
@[simp] theorem State.setPending_mode (x : List Instr) : (s.setPending x).mode = s.mode := rfl
@[simp] theorem State.setPending_port (x : List Instr) : (s.setPending x).port = s.port := rfl
@[simp] theorem State.setPending_store (x : List Instr) : (s.setPending x).store = s.store := rfl
@[simp] theorem State.setPending_pending (x : List Instr) : (s.setPending x).pending = x := rfl

/-! ### setNotices -/

@[simp] theorem State.setNotices_powered (x : Notices) : (s.setNotices x).powered = s.powered := rfl
@[simp] theorem State.setNotices_now (x : Notices) : (s.setNotices x).now = s.now := rfl
@[simp] theorem State.setNotices_startedAt (x : Notices) : (s.setNotices x).startedAt = s.startedAt := rfl
@[simp] theorem State.setNotices_settings (x : Notices) : (s.setNotices x).settings = s.settings := rfl
@[simp] theorem State.setNotices_inputs (x : Notices) : (s.setNotices x).inputs = s.inputs := rfl
@[simp] theorem State.setNotices_tyres (x : Notices) : (s.setNotices x).tyres = s.tyres := rfl
@[simp] theorem State.setNotices_intake (x : Notices) : (s.setNotices x).intake = s.intake := rfl
@[simp] theorem State.setNotices_loads (x : Notices) : (s.setNotices x).loads = s.loads := rfl
@[simp] theorem State.setNotices_demands (x : Notices) : (s.setNotices x).demands = s.demands := rfl
@[simp] theorem State.setNotices_channels (x : Notices) : (s.setNotices x).channels = s.channels := rfl
@[simp] theorem State.setNotices_stability (x : Notices) : (s.setNotices x).stability = s.stability := rfl
@[simp] theorem State.setNotices_mode (x : Notices) : (s.setNotices x).mode = s.mode := rfl
@[simp] theorem State.setNotices_store (x : Notices) : (s.setNotices x).store = s.store := rfl
@[simp] theorem State.setNotices_pending (x : Notices) : (s.setNotices x).pending = s.pending := rfl
@[simp] theorem State.setNotices_port_reply (x : Notices) : (s.setNotices x).port.reply = s.port.reply := rfl
@[simp] theorem State.setNotices_port_sent (x : Notices) : (s.setNotices x).port.sent = s.port.sent := rfl
@[simp] theorem State.setNotices_port_detail (x : Notices) : (s.setNotices x).port.detail = s.port.detail := rfl
@[simp] theorem State.setNotices_port_batchSize (x : Notices) : (s.setNotices x).port.batchSize = s.port.batchSize := rfl
@[simp] theorem State.setNotices_port_batch (x : Notices) : (s.setNotices x).port.batch = s.port.batch := rfl
@[simp] theorem State.setNotices_port_notices (x : Notices) : (s.setNotices x).port.notices = x := rfl

/-! ### The clock -/

@[simp] theorem State.elapse_powered (dt : Nat) : (s.elapse dt).powered = s.powered := rfl
@[simp] theorem State.elapse_now (dt : Nat) : (s.elapse dt).now = s.now + dt := rfl
@[simp] theorem State.elapse_startedAt (dt : Nat) : (s.elapse dt).startedAt = s.startedAt := rfl
@[simp] theorem State.elapse_settings (dt : Nat) : (s.elapse dt).settings = s.settings := rfl
@[simp] theorem State.elapse_inputs (dt : Nat) : (s.elapse dt).inputs = s.inputs := rfl
@[simp] theorem State.elapse_tyres (dt : Nat) : (s.elapse dt).tyres = s.tyres := rfl
@[simp] theorem State.elapse_intake (dt : Nat) : (s.elapse dt).intake = s.intake := rfl
@[simp] theorem State.elapse_loads (dt : Nat) : (s.elapse dt).loads = s.loads := rfl
@[simp] theorem State.elapse_demands (dt : Nat) : (s.elapse dt).demands = s.demands := rfl
@[simp] theorem State.elapse_channels (dt : Nat) : (s.elapse dt).channels = s.channels := rfl
@[simp] theorem State.elapse_stability (dt : Nat) : (s.elapse dt).stability = s.stability := rfl
@[simp] theorem State.elapse_mode (dt : Nat) : (s.elapse dt).mode = s.mode := rfl
@[simp] theorem State.elapse_port (dt : Nat) : (s.elapse dt).port = s.port := rfl
@[simp] theorem State.elapse_store (dt : Nat) : (s.elapse dt).store = s.store := rfl
@[simp] theorem State.elapse_pending (dt : Nat) : (s.elapse dt).pending = s.pending := rfl

/-! ### setPosition -/

@[simp] theorem State.setPosition_powered (p : Position) (x : PositionRecord) : (s.setPosition p x).powered = s.powered := rfl
@[simp] theorem State.setPosition_now (p : Position) (x : PositionRecord) : (s.setPosition p x).now = s.now := rfl
@[simp] theorem State.setPosition_startedAt (p : Position) (x : PositionRecord) : (s.setPosition p x).startedAt = s.startedAt := rfl
@[simp] theorem State.setPosition_settings (p : Position) (x : PositionRecord) : (s.setPosition p x).settings = s.settings := rfl
@[simp] theorem State.setPosition_inputs (p : Position) (x : PositionRecord) : (s.setPosition p x).inputs = s.inputs := rfl
@[simp] theorem State.setPosition_intake (p : Position) (x : PositionRecord) : (s.setPosition p x).intake = s.intake := rfl
@[simp] theorem State.setPosition_loads (p : Position) (x : PositionRecord) : (s.setPosition p x).loads = s.loads := rfl
@[simp] theorem State.setPosition_demands (p : Position) (x : PositionRecord) : (s.setPosition p x).demands = s.demands := rfl
@[simp] theorem State.setPosition_channels (p : Position) (x : PositionRecord) : (s.setPosition p x).channels = s.channels := rfl
@[simp] theorem State.setPosition_stability (p : Position) (x : PositionRecord) : (s.setPosition p x).stability = s.stability := rfl
@[simp] theorem State.setPosition_mode (p : Position) (x : PositionRecord) : (s.setPosition p x).mode = s.mode := rfl
@[simp] theorem State.setPosition_port (p : Position) (x : PositionRecord) : (s.setPosition p x).port = s.port := rfl
@[simp] theorem State.setPosition_store (p : Position) (x : PositionRecord) : (s.setPosition p x).store = s.store := rfl
@[simp] theorem State.setPosition_pending (p : Position) (x : PositionRecord) : (s.setPosition p x).pending = s.pending := rfl

/-! ### setPair -/

@[simp] theorem State.setPair_powered (a : AxleId) (sd : Side) (x : PairState) : (s.setPair a sd x).powered = s.powered := rfl
@[simp] theorem State.setPair_now (a : AxleId) (sd : Side) (x : PairState) : (s.setPair a sd x).now = s.now := rfl
@[simp] theorem State.setPair_startedAt (a : AxleId) (sd : Side) (x : PairState) : (s.setPair a sd x).startedAt = s.startedAt := rfl
@[simp] theorem State.setPair_settings (a : AxleId) (sd : Side) (x : PairState) : (s.setPair a sd x).settings = s.settings := rfl
@[simp] theorem State.setPair_inputs (a : AxleId) (sd : Side) (x : PairState) : (s.setPair a sd x).inputs = s.inputs := rfl
@[simp] theorem State.setPair_intake (a : AxleId) (sd : Side) (x : PairState) : (s.setPair a sd x).intake = s.intake := rfl
@[simp] theorem State.setPair_loads (a : AxleId) (sd : Side) (x : PairState) : (s.setPair a sd x).loads = s.loads := rfl
@[simp] theorem State.setPair_demands (a : AxleId) (sd : Side) (x : PairState) : (s.setPair a sd x).demands = s.demands := rfl
@[simp] theorem State.setPair_channels (a : AxleId) (sd : Side) (x : PairState) : (s.setPair a sd x).channels = s.channels := rfl
@[simp] theorem State.setPair_stability (a : AxleId) (sd : Side) (x : PairState) : (s.setPair a sd x).stability = s.stability := rfl
@[simp] theorem State.setPair_mode (a : AxleId) (sd : Side) (x : PairState) : (s.setPair a sd x).mode = s.mode := rfl
@[simp] theorem State.setPair_port (a : AxleId) (sd : Side) (x : PairState) : (s.setPair a sd x).port = s.port := rfl
@[simp] theorem State.setPair_store (a : AxleId) (sd : Side) (x : PairState) : (s.setPair a sd x).store = s.store := rfl
@[simp] theorem State.setPair_pending (a : AxleId) (sd : Side) (x : PairState) : (s.setPair a sd x).pending = s.pending := rfl

/-! ### setAxle -/

@[simp] theorem State.setAxle_powered (a : AxleId) (x : AxleRecord) : (s.setAxle a x).powered = s.powered := rfl
@[simp] theorem State.setAxle_now (a : AxleId) (x : AxleRecord) : (s.setAxle a x).now = s.now := rfl
@[simp] theorem State.setAxle_startedAt (a : AxleId) (x : AxleRecord) : (s.setAxle a x).startedAt = s.startedAt := rfl
@[simp] theorem State.setAxle_settings (a : AxleId) (x : AxleRecord) : (s.setAxle a x).settings = s.settings := rfl
@[simp] theorem State.setAxle_inputs (a : AxleId) (x : AxleRecord) : (s.setAxle a x).inputs = s.inputs := rfl
@[simp] theorem State.setAxle_tyres (a : AxleId) (x : AxleRecord) : (s.setAxle a x).tyres = s.tyres := rfl
@[simp] theorem State.setAxle_intake (a : AxleId) (x : AxleRecord) : (s.setAxle a x).intake = s.intake := rfl
@[simp] theorem State.setAxle_demands (a : AxleId) (x : AxleRecord) : (s.setAxle a x).demands = s.demands := rfl
@[simp] theorem State.setAxle_channels (a : AxleId) (x : AxleRecord) : (s.setAxle a x).channels = s.channels := rfl
@[simp] theorem State.setAxle_stability (a : AxleId) (x : AxleRecord) : (s.setAxle a x).stability = s.stability := rfl
@[simp] theorem State.setAxle_mode (a : AxleId) (x : AxleRecord) : (s.setAxle a x).mode = s.mode := rfl
@[simp] theorem State.setAxle_port (a : AxleId) (x : AxleRecord) : (s.setAxle a x).port = s.port := rfl
@[simp] theorem State.setAxle_store (a : AxleId) (x : AxleRecord) : (s.setAxle a x).store = s.store := rfl
@[simp] theorem State.setAxle_pending (a : AxleId) (x : AxleRecord) : (s.setAxle a x).pending = s.pending := rfl

/-! ### setGroup -/

@[simp] theorem State.setGroup_powered (g : GroupId) (x : GroupRecord) : (s.setGroup g x).powered = s.powered := rfl
@[simp] theorem State.setGroup_now (g : GroupId) (x : GroupRecord) : (s.setGroup g x).now = s.now := rfl
@[simp] theorem State.setGroup_startedAt (g : GroupId) (x : GroupRecord) : (s.setGroup g x).startedAt = s.startedAt := rfl
@[simp] theorem State.setGroup_settings (g : GroupId) (x : GroupRecord) : (s.setGroup g x).settings = s.settings := rfl
@[simp] theorem State.setGroup_inputs (g : GroupId) (x : GroupRecord) : (s.setGroup g x).inputs = s.inputs := rfl
@[simp] theorem State.setGroup_tyres (g : GroupId) (x : GroupRecord) : (s.setGroup g x).tyres = s.tyres := rfl
@[simp] theorem State.setGroup_intake (g : GroupId) (x : GroupRecord) : (s.setGroup g x).intake = s.intake := rfl
@[simp] theorem State.setGroup_demands (g : GroupId) (x : GroupRecord) : (s.setGroup g x).demands = s.demands := rfl
@[simp] theorem State.setGroup_channels (g : GroupId) (x : GroupRecord) : (s.setGroup g x).channels = s.channels := rfl
@[simp] theorem State.setGroup_stability (g : GroupId) (x : GroupRecord) : (s.setGroup g x).stability = s.stability := rfl
@[simp] theorem State.setGroup_mode (g : GroupId) (x : GroupRecord) : (s.setGroup g x).mode = s.mode := rfl
@[simp] theorem State.setGroup_port (g : GroupId) (x : GroupRecord) : (s.setGroup g x).port = s.port := rfl
@[simp] theorem State.setGroup_store (g : GroupId) (x : GroupRecord) : (s.setGroup g x).store = s.store := rfl
@[simp] theorem State.setGroup_pending (g : GroupId) (x : GroupRecord) : (s.setGroup g x).pending = s.pending := rfl

/-! ### setChannel -/

@[simp] theorem State.setChannel_powered (c : ChannelId) (x : ChannelRecord) : (s.setChannel c x).powered = s.powered := rfl
@[simp] theorem State.setChannel_now (c : ChannelId) (x : ChannelRecord) : (s.setChannel c x).now = s.now := rfl
@[simp] theorem State.setChannel_startedAt (c : ChannelId) (x : ChannelRecord) : (s.setChannel c x).startedAt = s.startedAt := rfl
@[simp] theorem State.setChannel_settings (c : ChannelId) (x : ChannelRecord) : (s.setChannel c x).settings = s.settings := rfl
@[simp] theorem State.setChannel_inputs (c : ChannelId) (x : ChannelRecord) : (s.setChannel c x).inputs = s.inputs := rfl
@[simp] theorem State.setChannel_tyres (c : ChannelId) (x : ChannelRecord) : (s.setChannel c x).tyres = s.tyres := rfl
@[simp] theorem State.setChannel_intake (c : ChannelId) (x : ChannelRecord) : (s.setChannel c x).intake = s.intake := rfl
@[simp] theorem State.setChannel_loads (c : ChannelId) (x : ChannelRecord) : (s.setChannel c x).loads = s.loads := rfl
@[simp] theorem State.setChannel_demands (c : ChannelId) (x : ChannelRecord) : (s.setChannel c x).demands = s.demands := rfl
@[simp] theorem State.setChannel_stability (c : ChannelId) (x : ChannelRecord) : (s.setChannel c x).stability = s.stability := rfl
@[simp] theorem State.setChannel_mode (c : ChannelId) (x : ChannelRecord) : (s.setChannel c x).mode = s.mode := rfl
@[simp] theorem State.setChannel_port (c : ChannelId) (x : ChannelRecord) : (s.setChannel c x).port = s.port := rfl
@[simp] theorem State.setChannel_store (c : ChannelId) (x : ChannelRecord) : (s.setChannel c x).store = s.store := rfl
@[simp] theorem State.setChannel_pending (c : ChannelId) (x : ChannelRecord) : (s.setChannel c x).pending = s.pending := rfl

/-! ### setAnalog -/

@[simp] theorem State.setAnalog_powered (i : AnalogId) (x : AnalogInput) : (s.setAnalog i x).powered = s.powered := rfl
@[simp] theorem State.setAnalog_now (i : AnalogId) (x : AnalogInput) : (s.setAnalog i x).now = s.now := rfl
@[simp] theorem State.setAnalog_startedAt (i : AnalogId) (x : AnalogInput) : (s.setAnalog i x).startedAt = s.startedAt := rfl
@[simp] theorem State.setAnalog_settings (i : AnalogId) (x : AnalogInput) : (s.setAnalog i x).settings = s.settings := rfl
@[simp] theorem State.setAnalog_tyres (i : AnalogId) (x : AnalogInput) : (s.setAnalog i x).tyres = s.tyres := rfl
@[simp] theorem State.setAnalog_intake (i : AnalogId) (x : AnalogInput) : (s.setAnalog i x).intake = s.intake := rfl
@[simp] theorem State.setAnalog_loads (i : AnalogId) (x : AnalogInput) : (s.setAnalog i x).loads = s.loads := rfl
@[simp] theorem State.setAnalog_demands (i : AnalogId) (x : AnalogInput) : (s.setAnalog i x).demands = s.demands := rfl
@[simp] theorem State.setAnalog_channels (i : AnalogId) (x : AnalogInput) : (s.setAnalog i x).channels = s.channels := rfl
@[simp] theorem State.setAnalog_stability (i : AnalogId) (x : AnalogInput) : (s.setAnalog i x).stability = s.stability := rfl
@[simp] theorem State.setAnalog_mode (i : AnalogId) (x : AnalogInput) : (s.setAnalog i x).mode = s.mode := rfl
@[simp] theorem State.setAnalog_port (i : AnalogId) (x : AnalogInput) : (s.setAnalog i x).port = s.port := rfl
@[simp] theorem State.setAnalog_store (i : AnalogId) (x : AnalogInput) : (s.setAnalog i x).store = s.store := rfl
@[simp] theorem State.setAnalog_pending (i : AnalogId) (x : AnalogInput) : (s.setAnalog i x).pending = s.pending := rfl

/-! ### setWheel -/

@[simp] theorem State.setWheel_powered (w : WheelId) (x : WheelInput) : (s.setWheel w x).powered = s.powered := rfl
@[simp] theorem State.setWheel_now (w : WheelId) (x : WheelInput) : (s.setWheel w x).now = s.now := rfl
@[simp] theorem State.setWheel_startedAt (w : WheelId) (x : WheelInput) : (s.setWheel w x).startedAt = s.startedAt := rfl
@[simp] theorem State.setWheel_settings (w : WheelId) (x : WheelInput) : (s.setWheel w x).settings = s.settings := rfl
@[simp] theorem State.setWheel_tyres (w : WheelId) (x : WheelInput) : (s.setWheel w x).tyres = s.tyres := rfl
@[simp] theorem State.setWheel_intake (w : WheelId) (x : WheelInput) : (s.setWheel w x).intake = s.intake := rfl
@[simp] theorem State.setWheel_loads (w : WheelId) (x : WheelInput) : (s.setWheel w x).loads = s.loads := rfl
@[simp] theorem State.setWheel_demands (w : WheelId) (x : WheelInput) : (s.setWheel w x).demands = s.demands := rfl
@[simp] theorem State.setWheel_channels (w : WheelId) (x : WheelInput) : (s.setWheel w x).channels = s.channels := rfl
@[simp] theorem State.setWheel_stability (w : WheelId) (x : WheelInput) : (s.setWheel w x).stability = s.stability := rfl
@[simp] theorem State.setWheel_mode (w : WheelId) (x : WheelInput) : (s.setWheel w x).mode = s.mode := rfl
@[simp] theorem State.setWheel_port (w : WheelId) (x : WheelInput) : (s.setWheel w x).port = s.port := rfl
@[simp] theorem State.setWheel_store (w : WheelId) (x : WheelInput) : (s.setWheel w x).store = s.store := rfl
@[simp] theorem State.setWheel_pending (w : WheelId) (x : WheelInput) : (s.setWheel w x).pending = s.pending := rfl

/-! ### One record after an update of another unit -/

@[simp] theorem State.setSettings_position (x : Settings) (q : Position) : (s.setSettings x).position q = s.position q := rfl
@[simp] theorem State.setInputs_position (x : Inputs) (q : Position) : (s.setInputs x).position q = s.position q := rfl
@[simp] theorem State.setIntake_position (x : Intake) (q : Position) : (s.setIntake x).position q = s.position q := rfl
@[simp] theorem State.setLoads_position (x : Loads) (q : Position) : (s.setLoads x).position q = s.position q := rfl
@[simp] theorem State.setDemands_position (x : Demands) (q : Position) : (s.setDemands x).position q = s.position q := rfl
@[simp] theorem State.setChannels_position (x : Channels) (q : Position) : (s.setChannels x).position q = s.position q := rfl
@[simp] theorem State.setStability_position (x : Stability) (q : Position) : (s.setStability x).position q = s.position q := rfl
@[simp] theorem State.setMode_position (x : Mode) (q : Position) : (s.setMode x).position q = s.position q := rfl
@[simp] theorem State.setPort_position (x : Port) (q : Position) : (s.setPort x).position q = s.position q := rfl
@[simp] theorem State.setStore_position (x : Store) (q : Position) : (s.setStore x).position q = s.position q := rfl
@[simp] theorem State.setPending_position (x : List Instr) (q : Position) : (s.setPending x).position q = s.position q := rfl
@[simp] theorem State.setNotices_position (x : Notices) (q : Position) : (s.setNotices x).position q = s.position q := rfl
@[simp] theorem State.elapse_position (dt : Nat) (q : Position) : (s.elapse dt).position q = s.position q := rfl
@[simp] theorem State.setAxle_position (a : AxleId) (x : AxleRecord) (q : Position) : (s.setAxle a x).position q = s.position q := rfl
@[simp] theorem State.setGroup_position (g : GroupId) (x : GroupRecord) (q : Position) : (s.setGroup g x).position q = s.position q := rfl
@[simp] theorem State.setChannel_position (c : ChannelId) (x : ChannelRecord) (q : Position) : (s.setChannel c x).position q = s.position q := rfl
@[simp] theorem State.setAnalog_position (i : AnalogId) (x : AnalogInput) (q : Position) : (s.setAnalog i x).position q = s.position q := rfl
@[simp] theorem State.setWheel_position (w : WheelId) (x : WheelInput) (q : Position) : (s.setWheel w x).position q = s.position q := rfl

@[simp] theorem State.setSettings_pair (x : Settings) (b : AxleId) (e : Side) : (s.setSettings x).pair b e = s.pair b e := rfl
@[simp] theorem State.setInputs_pair (x : Inputs) (b : AxleId) (e : Side) : (s.setInputs x).pair b e = s.pair b e := rfl
@[simp] theorem State.setIntake_pair (x : Intake) (b : AxleId) (e : Side) : (s.setIntake x).pair b e = s.pair b e := rfl
@[simp] theorem State.setLoads_pair (x : Loads) (b : AxleId) (e : Side) : (s.setLoads x).pair b e = s.pair b e := rfl
@[simp] theorem State.setDemands_pair (x : Demands) (b : AxleId) (e : Side) : (s.setDemands x).pair b e = s.pair b e := rfl
@[simp] theorem State.setChannels_pair (x : Channels) (b : AxleId) (e : Side) : (s.setChannels x).pair b e = s.pair b e := rfl
@[simp] theorem State.setStability_pair (x : Stability) (b : AxleId) (e : Side) : (s.setStability x).pair b e = s.pair b e := rfl
@[simp] theorem State.setMode_pair (x : Mode) (b : AxleId) (e : Side) : (s.setMode x).pair b e = s.pair b e := rfl
@[simp] theorem State.setPort_pair (x : Port) (b : AxleId) (e : Side) : (s.setPort x).pair b e = s.pair b e := rfl
@[simp] theorem State.setStore_pair (x : Store) (b : AxleId) (e : Side) : (s.setStore x).pair b e = s.pair b e := rfl
@[simp] theorem State.setPending_pair (x : List Instr) (b : AxleId) (e : Side) : (s.setPending x).pair b e = s.pair b e := rfl
@[simp] theorem State.setNotices_pair (x : Notices) (b : AxleId) (e : Side) : (s.setNotices x).pair b e = s.pair b e := rfl
@[simp] theorem State.elapse_pair (dt : Nat) (b : AxleId) (e : Side) : (s.elapse dt).pair b e = s.pair b e := rfl
@[simp] theorem State.setAxle_pair (a : AxleId) (x : AxleRecord) (b : AxleId) (e : Side) : (s.setAxle a x).pair b e = s.pair b e := rfl
@[simp] theorem State.setGroup_pair (g : GroupId) (x : GroupRecord) (b : AxleId) (e : Side) : (s.setGroup g x).pair b e = s.pair b e := rfl
@[simp] theorem State.setChannel_pair (c : ChannelId) (x : ChannelRecord) (b : AxleId) (e : Side) : (s.setChannel c x).pair b e = s.pair b e := rfl
@[simp] theorem State.setAnalog_pair (i : AnalogId) (x : AnalogInput) (b : AxleId) (e : Side) : (s.setAnalog i x).pair b e = s.pair b e := rfl
@[simp] theorem State.setWheel_pair (w : WheelId) (x : WheelInput) (b : AxleId) (e : Side) : (s.setWheel w x).pair b e = s.pair b e := rfl

@[simp] theorem State.setSettings_axle (x : Settings) (b : AxleId) : (s.setSettings x).axle b = s.axle b := rfl
@[simp] theorem State.setInputs_axle (x : Inputs) (b : AxleId) : (s.setInputs x).axle b = s.axle b := rfl
@[simp] theorem State.setTyres_axle (x : Tyres) (b : AxleId) : (s.setTyres x).axle b = s.axle b := rfl
@[simp] theorem State.setIntake_axle (x : Intake) (b : AxleId) : (s.setIntake x).axle b = s.axle b := rfl
@[simp] theorem State.setDemands_axle (x : Demands) (b : AxleId) : (s.setDemands x).axle b = s.axle b := rfl
@[simp] theorem State.setChannels_axle (x : Channels) (b : AxleId) : (s.setChannels x).axle b = s.axle b := rfl
@[simp] theorem State.setStability_axle (x : Stability) (b : AxleId) : (s.setStability x).axle b = s.axle b := rfl
@[simp] theorem State.setMode_axle (x : Mode) (b : AxleId) : (s.setMode x).axle b = s.axle b := rfl
@[simp] theorem State.setPort_axle (x : Port) (b : AxleId) : (s.setPort x).axle b = s.axle b := rfl
@[simp] theorem State.setStore_axle (x : Store) (b : AxleId) : (s.setStore x).axle b = s.axle b := rfl
@[simp] theorem State.setPending_axle (x : List Instr) (b : AxleId) : (s.setPending x).axle b = s.axle b := rfl
@[simp] theorem State.setNotices_axle (x : Notices) (b : AxleId) : (s.setNotices x).axle b = s.axle b := rfl
@[simp] theorem State.elapse_axle (dt : Nat) (b : AxleId) : (s.elapse dt).axle b = s.axle b := rfl
@[simp] theorem State.setPosition_axle (p : Position) (x : PositionRecord) (b : AxleId) : (s.setPosition p x).axle b = s.axle b := rfl
@[simp] theorem State.setPair_axle (a : AxleId) (sd : Side) (x : PairState) (b : AxleId) : (s.setPair a sd x).axle b = s.axle b := rfl
@[simp] theorem State.setChannel_axle (c : ChannelId) (x : ChannelRecord) (b : AxleId) : (s.setChannel c x).axle b = s.axle b := rfl
@[simp] theorem State.setAnalog_axle (i : AnalogId) (x : AnalogInput) (b : AxleId) : (s.setAnalog i x).axle b = s.axle b := rfl
@[simp] theorem State.setWheel_axle (w : WheelId) (x : WheelInput) (b : AxleId) : (s.setWheel w x).axle b = s.axle b := rfl

@[simp] theorem State.setSettings_group (x : Settings) (h : GroupId) : (s.setSettings x).group h = s.group h := rfl
@[simp] theorem State.setInputs_group (x : Inputs) (h : GroupId) : (s.setInputs x).group h = s.group h := rfl
@[simp] theorem State.setTyres_group (x : Tyres) (h : GroupId) : (s.setTyres x).group h = s.group h := rfl
@[simp] theorem State.setIntake_group (x : Intake) (h : GroupId) : (s.setIntake x).group h = s.group h := rfl
@[simp] theorem State.setDemands_group (x : Demands) (h : GroupId) : (s.setDemands x).group h = s.group h := rfl
@[simp] theorem State.setChannels_group (x : Channels) (h : GroupId) : (s.setChannels x).group h = s.group h := rfl
@[simp] theorem State.setStability_group (x : Stability) (h : GroupId) : (s.setStability x).group h = s.group h := rfl
@[simp] theorem State.setMode_group (x : Mode) (h : GroupId) : (s.setMode x).group h = s.group h := rfl
@[simp] theorem State.setPort_group (x : Port) (h : GroupId) : (s.setPort x).group h = s.group h := rfl
@[simp] theorem State.setStore_group (x : Store) (h : GroupId) : (s.setStore x).group h = s.group h := rfl
@[simp] theorem State.setPending_group (x : List Instr) (h : GroupId) : (s.setPending x).group h = s.group h := rfl
@[simp] theorem State.setNotices_group (x : Notices) (h : GroupId) : (s.setNotices x).group h = s.group h := rfl
@[simp] theorem State.elapse_group (dt : Nat) (h : GroupId) : (s.elapse dt).group h = s.group h := rfl
@[simp] theorem State.setPosition_group (p : Position) (x : PositionRecord) (h : GroupId) : (s.setPosition p x).group h = s.group h := rfl
@[simp] theorem State.setPair_group (a : AxleId) (sd : Side) (x : PairState) (h : GroupId) : (s.setPair a sd x).group h = s.group h := rfl
@[simp] theorem State.setChannel_group (c : ChannelId) (x : ChannelRecord) (h : GroupId) : (s.setChannel c x).group h = s.group h := rfl
@[simp] theorem State.setAnalog_group (i : AnalogId) (x : AnalogInput) (h : GroupId) : (s.setAnalog i x).group h = s.group h := rfl
@[simp] theorem State.setWheel_group (w : WheelId) (x : WheelInput) (h : GroupId) : (s.setWheel w x).group h = s.group h := rfl

@[simp] theorem State.setSettings_channel (x : Settings) (d : ChannelId) : (s.setSettings x).channel d = s.channel d := rfl
@[simp] theorem State.setInputs_channel (x : Inputs) (d : ChannelId) : (s.setInputs x).channel d = s.channel d := rfl
@[simp] theorem State.setTyres_channel (x : Tyres) (d : ChannelId) : (s.setTyres x).channel d = s.channel d := rfl
@[simp] theorem State.setIntake_channel (x : Intake) (d : ChannelId) : (s.setIntake x).channel d = s.channel d := rfl
@[simp] theorem State.setLoads_channel (x : Loads) (d : ChannelId) : (s.setLoads x).channel d = s.channel d := rfl
@[simp] theorem State.setDemands_channel (x : Demands) (d : ChannelId) : (s.setDemands x).channel d = s.channel d := rfl
@[simp] theorem State.setStability_channel (x : Stability) (d : ChannelId) : (s.setStability x).channel d = s.channel d := rfl
@[simp] theorem State.setMode_channel (x : Mode) (d : ChannelId) : (s.setMode x).channel d = s.channel d := rfl
@[simp] theorem State.setPort_channel (x : Port) (d : ChannelId) : (s.setPort x).channel d = s.channel d := rfl
@[simp] theorem State.setStore_channel (x : Store) (d : ChannelId) : (s.setStore x).channel d = s.channel d := rfl
@[simp] theorem State.setPending_channel (x : List Instr) (d : ChannelId) : (s.setPending x).channel d = s.channel d := rfl
@[simp] theorem State.setNotices_channel (x : Notices) (d : ChannelId) : (s.setNotices x).channel d = s.channel d := rfl
@[simp] theorem State.elapse_channel (dt : Nat) (d : ChannelId) : (s.elapse dt).channel d = s.channel d := rfl
@[simp] theorem State.setPosition_channel (p : Position) (x : PositionRecord) (d : ChannelId) : (s.setPosition p x).channel d = s.channel d := rfl
@[simp] theorem State.setPair_channel (a : AxleId) (sd : Side) (x : PairState) (d : ChannelId) : (s.setPair a sd x).channel d = s.channel d := rfl
@[simp] theorem State.setAxle_channel (a : AxleId) (x : AxleRecord) (d : ChannelId) : (s.setAxle a x).channel d = s.channel d := rfl
@[simp] theorem State.setGroup_channel (g : GroupId) (x : GroupRecord) (d : ChannelId) : (s.setGroup g x).channel d = s.channel d := rfl
@[simp] theorem State.setAnalog_channel (i : AnalogId) (x : AnalogInput) (d : ChannelId) : (s.setAnalog i x).channel d = s.channel d := rfl
@[simp] theorem State.setWheel_channel (w : WheelId) (x : WheelInput) (d : ChannelId) : (s.setWheel w x).channel d = s.channel d := rfl

@[simp] theorem State.setSettings_analog (x : Settings) (j : AnalogId) : (s.setSettings x).analog j = s.analog j := rfl
@[simp] theorem State.setTyres_analog (x : Tyres) (j : AnalogId) : (s.setTyres x).analog j = s.analog j := rfl
@[simp] theorem State.setIntake_analog (x : Intake) (j : AnalogId) : (s.setIntake x).analog j = s.analog j := rfl
@[simp] theorem State.setLoads_analog (x : Loads) (j : AnalogId) : (s.setLoads x).analog j = s.analog j := rfl
@[simp] theorem State.setDemands_analog (x : Demands) (j : AnalogId) : (s.setDemands x).analog j = s.analog j := rfl
@[simp] theorem State.setChannels_analog (x : Channels) (j : AnalogId) : (s.setChannels x).analog j = s.analog j := rfl
@[simp] theorem State.setStability_analog (x : Stability) (j : AnalogId) : (s.setStability x).analog j = s.analog j := rfl
@[simp] theorem State.setMode_analog (x : Mode) (j : AnalogId) : (s.setMode x).analog j = s.analog j := rfl
@[simp] theorem State.setPort_analog (x : Port) (j : AnalogId) : (s.setPort x).analog j = s.analog j := rfl
@[simp] theorem State.setStore_analog (x : Store) (j : AnalogId) : (s.setStore x).analog j = s.analog j := rfl
@[simp] theorem State.setPending_analog (x : List Instr) (j : AnalogId) : (s.setPending x).analog j = s.analog j := rfl
@[simp] theorem State.setNotices_analog (x : Notices) (j : AnalogId) : (s.setNotices x).analog j = s.analog j := rfl
@[simp] theorem State.elapse_analog (dt : Nat) (j : AnalogId) : (s.elapse dt).analog j = s.analog j := rfl
@[simp] theorem State.setPosition_analog (p : Position) (x : PositionRecord) (j : AnalogId) : (s.setPosition p x).analog j = s.analog j := rfl
@[simp] theorem State.setPair_analog (a : AxleId) (sd : Side) (x : PairState) (j : AnalogId) : (s.setPair a sd x).analog j = s.analog j := rfl
@[simp] theorem State.setAxle_analog (a : AxleId) (x : AxleRecord) (j : AnalogId) : (s.setAxle a x).analog j = s.analog j := rfl
@[simp] theorem State.setGroup_analog (g : GroupId) (x : GroupRecord) (j : AnalogId) : (s.setGroup g x).analog j = s.analog j := rfl
@[simp] theorem State.setChannel_analog (c : ChannelId) (x : ChannelRecord) (j : AnalogId) : (s.setChannel c x).analog j = s.analog j := rfl

@[simp] theorem State.setSettings_wheel (x : Settings) (v : WheelId) : (s.setSettings x).wheel v = s.wheel v := rfl
@[simp] theorem State.setTyres_wheel (x : Tyres) (v : WheelId) : (s.setTyres x).wheel v = s.wheel v := rfl
@[simp] theorem State.setIntake_wheel (x : Intake) (v : WheelId) : (s.setIntake x).wheel v = s.wheel v := rfl
@[simp] theorem State.setLoads_wheel (x : Loads) (v : WheelId) : (s.setLoads x).wheel v = s.wheel v := rfl
@[simp] theorem State.setDemands_wheel (x : Demands) (v : WheelId) : (s.setDemands x).wheel v = s.wheel v := rfl
@[simp] theorem State.setChannels_wheel (x : Channels) (v : WheelId) : (s.setChannels x).wheel v = s.wheel v := rfl
@[simp] theorem State.setStability_wheel (x : Stability) (v : WheelId) : (s.setStability x).wheel v = s.wheel v := rfl
@[simp] theorem State.setMode_wheel (x : Mode) (v : WheelId) : (s.setMode x).wheel v = s.wheel v := rfl
@[simp] theorem State.setPort_wheel (x : Port) (v : WheelId) : (s.setPort x).wheel v = s.wheel v := rfl
@[simp] theorem State.setStore_wheel (x : Store) (v : WheelId) : (s.setStore x).wheel v = s.wheel v := rfl
@[simp] theorem State.setPending_wheel (x : List Instr) (v : WheelId) : (s.setPending x).wheel v = s.wheel v := rfl
@[simp] theorem State.setNotices_wheel (x : Notices) (v : WheelId) : (s.setNotices x).wheel v = s.wheel v := rfl
@[simp] theorem State.elapse_wheel (dt : Nat) (v : WheelId) : (s.elapse dt).wheel v = s.wheel v := rfl
@[simp] theorem State.setPosition_wheel (p : Position) (x : PositionRecord) (v : WheelId) : (s.setPosition p x).wheel v = s.wheel v := rfl
@[simp] theorem State.setPair_wheel (a : AxleId) (sd : Side) (x : PairState) (v : WheelId) : (s.setPair a sd x).wheel v = s.wheel v := rfl
@[simp] theorem State.setAxle_wheel (a : AxleId) (x : AxleRecord) (v : WheelId) : (s.setAxle a x).wheel v = s.wheel v := rfl
@[simp] theorem State.setGroup_wheel (g : GroupId) (x : GroupRecord) (v : WheelId) : (s.setGroup g x).wheel v = s.wheel v := rfl
@[simp] theorem State.setChannel_wheel (c : ChannelId) (x : ChannelRecord) (v : WheelId) : (s.setChannel c x).wheel v = s.wheel v := rfl

@[simp] theorem State.setSettings_entry (x : Settings) (z : Source) : (s.setSettings x).entry z = s.entry z := rfl
@[simp] theorem State.setInputs_entry (x : Inputs) (z : Source) : (s.setInputs x).entry z = s.entry z := rfl
@[simp] theorem State.setTyres_entry (x : Tyres) (z : Source) : (s.setTyres x).entry z = s.entry z := rfl
@[simp] theorem State.setIntake_entry (x : Intake) (z : Source) : (s.setIntake x).entry z = s.entry z := rfl
@[simp] theorem State.setLoads_entry (x : Loads) (z : Source) : (s.setLoads x).entry z = s.entry z := rfl
@[simp] theorem State.setChannels_entry (x : Channels) (z : Source) : (s.setChannels x).entry z = s.entry z := rfl
@[simp] theorem State.setStability_entry (x : Stability) (z : Source) : (s.setStability x).entry z = s.entry z := rfl
@[simp] theorem State.setMode_entry (x : Mode) (z : Source) : (s.setMode x).entry z = s.entry z := rfl
@[simp] theorem State.setPort_entry (x : Port) (z : Source) : (s.setPort x).entry z = s.entry z := rfl
@[simp] theorem State.setStore_entry (x : Store) (z : Source) : (s.setStore x).entry z = s.entry z := rfl
@[simp] theorem State.setPending_entry (x : List Instr) (z : Source) : (s.setPending x).entry z = s.entry z := rfl
@[simp] theorem State.setNotices_entry (x : Notices) (z : Source) : (s.setNotices x).entry z = s.entry z := rfl
@[simp] theorem State.elapse_entry (dt : Nat) (z : Source) : (s.elapse dt).entry z = s.entry z := rfl
@[simp] theorem State.setPosition_entry (p : Position) (x : PositionRecord) (z : Source) : (s.setPosition p x).entry z = s.entry z := rfl
@[simp] theorem State.setPair_entry (a : AxleId) (sd : Side) (x : PairState) (z : Source) : (s.setPair a sd x).entry z = s.entry z := rfl
@[simp] theorem State.setAxle_entry (a : AxleId) (x : AxleRecord) (z : Source) : (s.setAxle a x).entry z = s.entry z := rfl
@[simp] theorem State.setGroup_entry (g : GroupId) (x : GroupRecord) (z : Source) : (s.setGroup g x).entry z = s.entry z := rfl
@[simp] theorem State.setChannel_entry (c : ChannelId) (x : ChannelRecord) (z : Source) : (s.setChannel c x).entry z = s.entry z := rfl
@[simp] theorem State.setAnalog_entry (i : AnalogId) (x : AnalogInput) (z : Source) : (s.setAnalog i x).entry z = s.entry z := rfl
@[simp] theorem State.setWheel_entry (w : WheelId) (x : WheelInput) (z : Source) : (s.setWheel w x).entry z = s.entry z := rfl

@[simp] theorem State.setSettings_hasEntry (x : Settings) (z : Source) : (s.setSettings x).hasEntry z = s.hasEntry z := rfl
@[simp] theorem State.setInputs_hasEntry (x : Inputs) (z : Source) : (s.setInputs x).hasEntry z = s.hasEntry z := rfl
@[simp] theorem State.setTyres_hasEntry (x : Tyres) (z : Source) : (s.setTyres x).hasEntry z = s.hasEntry z := rfl
@[simp] theorem State.setIntake_hasEntry (x : Intake) (z : Source) : (s.setIntake x).hasEntry z = s.hasEntry z := rfl
@[simp] theorem State.setLoads_hasEntry (x : Loads) (z : Source) : (s.setLoads x).hasEntry z = s.hasEntry z := rfl
@[simp] theorem State.setChannels_hasEntry (x : Channels) (z : Source) : (s.setChannels x).hasEntry z = s.hasEntry z := rfl
@[simp] theorem State.setStability_hasEntry (x : Stability) (z : Source) : (s.setStability x).hasEntry z = s.hasEntry z := rfl
@[simp] theorem State.setMode_hasEntry (x : Mode) (z : Source) : (s.setMode x).hasEntry z = s.hasEntry z := rfl
@[simp] theorem State.setPort_hasEntry (x : Port) (z : Source) : (s.setPort x).hasEntry z = s.hasEntry z := rfl
@[simp] theorem State.setStore_hasEntry (x : Store) (z : Source) : (s.setStore x).hasEntry z = s.hasEntry z := rfl
@[simp] theorem State.setPending_hasEntry (x : List Instr) (z : Source) : (s.setPending x).hasEntry z = s.hasEntry z := rfl
@[simp] theorem State.setNotices_hasEntry (x : Notices) (z : Source) : (s.setNotices x).hasEntry z = s.hasEntry z := rfl
@[simp] theorem State.elapse_hasEntry (dt : Nat) (z : Source) : (s.elapse dt).hasEntry z = s.hasEntry z := rfl
@[simp] theorem State.setPosition_hasEntry (p : Position) (x : PositionRecord) (z : Source) : (s.setPosition p x).hasEntry z = s.hasEntry z := rfl
@[simp] theorem State.setPair_hasEntry (a : AxleId) (sd : Side) (x : PairState) (z : Source) : (s.setPair a sd x).hasEntry z = s.hasEntry z := rfl
@[simp] theorem State.setAxle_hasEntry (a : AxleId) (x : AxleRecord) (z : Source) : (s.setAxle a x).hasEntry z = s.hasEntry z := rfl
@[simp] theorem State.setGroup_hasEntry (g : GroupId) (x : GroupRecord) (z : Source) : (s.setGroup g x).hasEntry z = s.hasEntry z := rfl
@[simp] theorem State.setChannel_hasEntry (c : ChannelId) (x : ChannelRecord) (z : Source) : (s.setChannel c x).hasEntry z = s.hasEntry z := rfl
@[simp] theorem State.setAnalog_hasEntry (i : AnalogId) (x : AnalogInput) (z : Source) : (s.setAnalog i x).hasEntry z = s.hasEntry z := rfl
@[simp] theorem State.setWheel_hasEntry (w : WheelId) (x : WheelInput) (z : Source) : (s.setWheel w x).hasEntry z = s.hasEntry z := rfl

@[simp] theorem State.setInputs_calibration (x : Inputs) (h : GroupId) : (s.setInputs x).calibration h = s.calibration h := rfl
@[simp] theorem State.setTyres_calibration (x : Tyres) (h : GroupId) : (s.setTyres x).calibration h = s.calibration h := rfl
@[simp] theorem State.setIntake_calibration (x : Intake) (h : GroupId) : (s.setIntake x).calibration h = s.calibration h := rfl
@[simp] theorem State.setLoads_calibration (x : Loads) (h : GroupId) : (s.setLoads x).calibration h = s.calibration h := rfl
@[simp] theorem State.setDemands_calibration (x : Demands) (h : GroupId) : (s.setDemands x).calibration h = s.calibration h := rfl
@[simp] theorem State.setChannels_calibration (x : Channels) (h : GroupId) : (s.setChannels x).calibration h = s.calibration h := rfl
@[simp] theorem State.setStability_calibration (x : Stability) (h : GroupId) : (s.setStability x).calibration h = s.calibration h := rfl
@[simp] theorem State.setMode_calibration (x : Mode) (h : GroupId) : (s.setMode x).calibration h = s.calibration h := rfl
@[simp] theorem State.setPort_calibration (x : Port) (h : GroupId) : (s.setPort x).calibration h = s.calibration h := rfl
@[simp] theorem State.setStore_calibration (x : Store) (h : GroupId) : (s.setStore x).calibration h = s.calibration h := rfl
@[simp] theorem State.setPending_calibration (x : List Instr) (h : GroupId) : (s.setPending x).calibration h = s.calibration h := rfl
@[simp] theorem State.setNotices_calibration (x : Notices) (h : GroupId) : (s.setNotices x).calibration h = s.calibration h := rfl
@[simp] theorem State.elapse_calibration (dt : Nat) (h : GroupId) : (s.elapse dt).calibration h = s.calibration h := rfl
@[simp] theorem State.setPosition_calibration (p : Position) (x : PositionRecord) (h : GroupId) : (s.setPosition p x).calibration h = s.calibration h := rfl
@[simp] theorem State.setPair_calibration (a : AxleId) (sd : Side) (x : PairState) (h : GroupId) : (s.setPair a sd x).calibration h = s.calibration h := rfl
@[simp] theorem State.setAxle_calibration (a : AxleId) (x : AxleRecord) (h : GroupId) : (s.setAxle a x).calibration h = s.calibration h := rfl
@[simp] theorem State.setGroup_calibration (g : GroupId) (x : GroupRecord) (h : GroupId) : (s.setGroup g x).calibration h = s.calibration h := rfl
@[simp] theorem State.setChannel_calibration (c : ChannelId) (x : ChannelRecord) (h : GroupId) : (s.setChannel c x).calibration h = s.calibration h := rfl
@[simp] theorem State.setAnalog_calibration (i : AnalogId) (x : AnalogInput) (h : GroupId) : (s.setAnalog i x).calibration h = s.calibration h := rfl
@[simp] theorem State.setWheel_calibration (w : WheelId) (x : WheelInput) (h : GroupId) : (s.setWheel w x).calibration h = s.calibration h := rfl

/-! ### One record after an update of its own unit -/

theorem State.setPosition_position (p q : Position) (x : PositionRecord) :
    (s.setPosition p x).position q = if q = p then x else s.position q := PerPosition.get_set _ _ _ _

@[simp] theorem State.setPosition_position_self (p : Position) (x : PositionRecord) :
    (s.setPosition p x).position p = x := by simp [State.setPosition_position]

@[simp] theorem State.setPosition_pair (p : Position) (x : PositionRecord) (a : AxleId) (sd : Side) :
    (s.setPosition p x).pair a sd = s.pair a sd := rfl

@[simp] theorem State.setPair_position (a : AxleId) (sd : Side) (x : PairState) (q : Position) :
    (s.setPair a sd x).position q = s.position q := rfl

theorem State.setPair_pair (a b : AxleId) (sd sd' : Side) (x : PairState) :
    (s.setPair a sd x).pair b sd' = if b = a ∧ sd' = sd then x else s.pair b sd' := by
  by_cases h : b = a
  · subst h; by_cases h' : sd' = sd <;> simp [State.setPair, State.pair, PerAxle.get_set, PerSide.get_set, h']
  · simp [State.setPair, State.pair, PerAxle.get_set, h]

theorem State.setAxle_axle (a b : AxleId) (x : AxleRecord) :
    (s.setAxle a x).axle b = if b = a then x else s.axle b := PerAxle.get_set _ _ _ _

@[simp] theorem State.setAxle_axle_self (a : AxleId) (x : AxleRecord) : (s.setAxle a x).axle a = x := by
  simp [State.setAxle_axle]

@[simp] theorem State.setAxle_group (a : AxleId) (x : AxleRecord) (g : GroupId) :
    (s.setAxle a x).group g = s.group g := rfl

@[simp] theorem State.setGroup_axle (g : GroupId) (x : GroupRecord) (a : AxleId) :
    (s.setGroup g x).axle a = s.axle a := rfl

theorem State.setGroup_group (g h : GroupId) (x : GroupRecord) :
    (s.setGroup g x).group h = if h = g then x else s.group h := PerGroup.get_set _ _ _ _

@[simp] theorem State.setGroup_group_self (g : GroupId) (x : GroupRecord) : (s.setGroup g x).group g = x := by
  simp [State.setGroup_group]

theorem State.setChannel_channel (c d : ChannelId) (x : ChannelRecord) :
    (s.setChannel c x).channel d = if d = c then x else s.channel d := PerChannel.get_set _ _ _ _

@[simp] theorem State.setChannel_channel_self (c : ChannelId) (x : ChannelRecord) :
    (s.setChannel c x).channel c = x := by simp [State.setChannel_channel]

@[simp] theorem State.setChannel_mode' (c : ChannelId) (x : ChannelRecord) :
    (s.setChannel c x).channels.mode = s.channels.mode := rfl

@[simp] theorem State.setChannel_cause (c : ChannelId) (x : ChannelRecord) :
    (s.setChannel c x).channels.cause = s.channels.cause := rfl

@[simp] theorem State.setChannel_controlSince (c : ChannelId) (x : ChannelRecord) :
    (s.setChannel c x).channels.controlSince = s.channels.controlSince := rfl

@[simp] theorem State.setChannel_redundancy (c : ChannelId) (x : ChannelRecord) :
    (s.setChannel c x).channels.redundancy = s.channels.redundancy := rfl

theorem State.setAnalog_analog (i j : AnalogId) (x : AnalogInput) :
    (s.setAnalog i x).analog j = if j = i then x else s.analog j := PerAnalog.get_set _ _ _ _

@[simp] theorem State.setAnalog_analog_self (i : AnalogId) (x : AnalogInput) : (s.setAnalog i x).analog i = x := by
  simp [State.setAnalog_analog]

@[simp] theorem State.setAnalog_wheel (i : AnalogId) (x : AnalogInput) (w : WheelId) :
    (s.setAnalog i x).wheel w = s.wheel w := rfl

theorem State.setWheel_wheel (w v : WheelId) (x : WheelInput) :
    (s.setWheel w x).wheel v = if v = w then x else s.wheel v := PerWheel.get_set _ _ _ _

@[simp] theorem State.setWheel_wheel_self (w : WheelId) (x : WheelInput) : (s.setWheel w x).wheel w = x := by
  simp [State.setWheel_wheel]

@[simp] theorem State.setWheel_analog (w : WheelId) (x : WheelInput) (i : AnalogId) :
    (s.setWheel w x).analog i = s.analog i := rfl

/-! ### Setting a notice -/

@[simp] theorem State.noteTyreLevel_eq (p : Position) : s.noteTyreLevel p =
    s.setNotices { s.port.notices with tyreLevel := s.port.notices.tyreLevel ||| bit p.index } := rfl
@[simp] theorem State.notePairMismatch_eq (a : AxleId) (sd : Side) : s.notePairMismatch a sd =
    s.setNotices { s.port.notices with pairMismatch := s.port.notices.pairMismatch ||| bit (pairNumber a sd) } := rfl
@[simp] theorem State.noteSensorSilent_eq (p : Position) : s.noteSensorSilent p =
    s.setNotices { s.port.notices with sensorSilent := s.port.notices.sensorSilent ||| bit p.index } := rfl
@[simp] theorem State.notePositionRetired_eq (p : Position) : s.notePositionRetired p =
    s.setNotices { s.port.notices with positionsRetired := s.port.notices.positionsRetired ||| bit p.index } := rfl
@[simp] theorem State.noteLearnResult_eq (r : LearnResult) (p : Position) : s.noteLearnResult r p =
    s.setNotices { s.port.notices with learnResult := some (r, p) } := rfl
@[simp] theorem State.noteCandidateReady_eq :
    s.noteCandidateReady = s.setNotices { s.port.notices with candidateReady := true } := rfl
@[simp] theorem State.noteLiftChange_eq (a : AxleId) : s.noteLiftChange a =
    s.setNotices { s.port.notices with liftChange := s.port.notices.liftChange ||| bit (a.number - 1) } := rfl
@[simp] theorem State.noteLiftConflict_eq (a : AxleId) : s.noteLiftConflict a =
    s.setNotices { s.port.notices with liftConflict := s.port.notices.liftConflict ||| bit (a.number - 1) } := rfl
@[simp] theorem State.noteLiftFault_eq (a : AxleId) : s.noteLiftFault a =
    s.setNotices { s.port.notices with liftFault := s.port.notices.liftFault ||| bit (a.number - 1) } := rfl
@[simp] theorem State.noteDigitalTimeout_eq :
    s.noteDigitalTimeout = s.setNotices { s.port.notices with digitalTimeout := true } := rfl
@[simp] theorem State.noteLockTimeout_eq (c : ChannelId) : s.noteLockTimeout c =
    s.setNotices { s.port.notices with lockTimeout := s.port.notices.lockTimeout ||| bit (c.number - 1) } := rfl
@[simp] theorem State.noteStabilityAction_eq (n : Nat) :
    s.noteStabilityAction n = s.setNotices { s.port.notices with stabilityAction := some n } := rfl
@[simp] theorem State.noteWorkshopChange_eq : s.noteWorkshopChange = s.setNotices { s.port.notices with
    workshopChange := some { state := s.mode.workshop, result := s.mode.result, cause := s.mode.cause } } := rfl
@[simp] theorem State.noteStoreResult_eq (b : Bool) :
    s.noteStoreResult b = s.setNotices { s.port.notices with storeResult := some b } := rfl
@[simp] theorem State.noteStoreInvalid_eq :
    s.noteStoreInvalid = s.setNotices { s.port.notices with storeInvalid := true } := rfl

/-! ### A live command -/

theorem State.live_on {s : State} (h : s.powered = true) (dt : Nat) (f : State → State) :
    s.live dt f = f (s.elapse dt) := by simp [State.live, h]

theorem State.live_off {s : State} (h : s.powered = false) (dt : Nat) (f : State → State) :
    s.live dt f = s.elapse dt := by simp [State.live, h]

end Sys2Proof.Machine
end

