-- ==== Sys2Proof/Laws/Table.lean ====
section
/-! SUPPORT. What posting and retiring an entry do to the demand table (R87, R88). -/
namespace Sys2Proof.Machine

variable (s : State)

theorem State.entry_source {s : State} {x : Source} {e : Entry} (h : s.entry x = some e) : e.source = x := by
  have := List.find?_some h
  simpa using this

/-- A list searched for a source after a map that keeps every source. -/
theorem find_map_source (l : List Entry) (f : Entry → Entry) (hf : ∀ e, (f e).source = e.source) (y : Source) :
    (l.map f).find? (fun e => decide (e.source = y)) = (l.find? fun e => decide (e.source = y)).map f := by
  induction l with
  | nil => rfl
  | cons e l ih =>
    simp only [List.map_cons, List.find?_cons, hf]
    by_cases h : e.source = y <;> simp [h, ih]

/-- R87, R88: the entry of the posted source after a post. -/
theorem State.postEntry_entry_self (x : Source) (d : Demand) :
    (s.postEntry x d).entry x =
      some { source := x, demand := d, createdAt := ((s.entry x).map Entry.createdAt).getD s.now,
             refreshedAt := s.refreshOf x } := by
  unfold State.postEntry
  cases h : s.entry x with
  | none =>
    rw [if_neg (by simp [State.hasEntry, h])]
    unfold State.entry at h ⊢
    simp [List.find?_append, h]
  | some e =>
    rw [if_pos (by simp [State.hasEntry, h])]
    have hs := State.entry_source h
    unfold State.entry at h ⊢
    simp only [State.setDemands_demands]
    rw [find_map_source _ _ (by intro e; split <;> rfl), h]
    simp only [Option.map_some, hs, ↓reduceIte, Option.getD_some]

/-- R87: a post leaves every other source's entry. -/
theorem State.postEntry_entry_ne {x y : Source} (d : Demand) (h : y ≠ x) : (s.postEntry x d).entry y = s.entry y := by
  unfold State.postEntry
  split
  · unfold State.entry
    simp only [State.setDemands_demands]
    rw [find_map_source _ _ (by intro e; split <;> rfl)]
    cases h' : s.demands.table.find? (fun e => decide (e.source = y)) with
    | none => rfl
    | some e =>
      have := List.find?_some h'
      simp only [decide_eq_true_eq] at this
      simp [this, h]
  · unfold State.entry
    simp [List.find?_append, Ne.symm h]

/-- R88: a retired source has no entry. -/
@[simp] theorem State.retireEntry_entry_self (x : Source) : (s.retireEntry x).entry x = none := by
  unfold State.retireEntry State.entry
  simp only [State.setDemands_demands, List.find?_eq_none, List.mem_filter]
  intro e h
  simpa using h.2

/-- R88: a retirement leaves every other source's entry. -/
theorem State.retireEntry_entry_ne {x y : Source} (h : y ≠ x) : (s.retireEntry x).entry y = s.entry y := by
  unfold State.retireEntry State.entry
  simp only [State.setDemands_demands]
  induction s.demands.table with
  | nil => rfl
  | cons e l ih =>
    by_cases h' : e.source = x
    · simp only [List.filter_cons, h', ne_eq, not_true_eq_false, decide_false, Bool.false_eq_true, ↓reduceIte, ih,
        List.find?_cons]
      simp [Ne.symm h]
    · simp only [List.filter_cons, ne_eq, h', not_false_eq_true, decide_true, ↓reduceIte, List.find?_cons, ih]

theorem State.hasEntry_iff (x : Source) : s.hasEntry x = (s.entry x).isSome := rfl

/-- R87: a post keeps one entry for each source. -/
theorem State.postEntry_entryLaw {s : State} (x : Source) (d : Demand) (h : s.entryLaw) : (s.postEntry x d).entryLaw := by
  unfold State.entryLaw at *
  unfold State.postEntry
  split
  · have : (fun e : Entry => (if e.source = x then { e with demand := d, refreshedAt := s.refreshOf x } else e).source) =
        Entry.source := by
      funext e; split <;> rfl
    simpa [List.map_map, Function.comp_def, this] using h
  · rename_i hn
    simp only [State.setDemands_demands, List.map_append, List.map_cons, List.map_nil]
    rw [List.nodup_append]
    refine ⟨h, by simp, ?_⟩
    intro a ha b hb
    simp only [List.mem_cons, List.not_mem_nil, or_false] at hb
    subst hb
    rintro rfl
    obtain ⟨e, he, rfl⟩ := List.mem_map.1 ha
    apply hn
    simp only [State.hasEntry, State.entry, List.find?_isSome]
    exact ⟨e, he, by simp⟩

/-- R88: a retirement keeps one entry for each source. -/
theorem State.retireEntry_entryLaw {s : State} (x : Source) (h : s.entryLaw) : (s.retireEntry x).entryLaw :=
  h.sublist (List.Sublist.map _ List.filter_sublist)

end Sys2Proof.Machine
end

