-- ==== Sys2Proof/Laws/Offers.lean ====
section
/-! SUPPORT. `Settles s t`: t comes from s by changes that the offers of a change make: what they never touch is as it was,
and the laws of the table, the loads, the limits and the modes are kept. One lemma for each basic update. -/
namespace Sys2Proof.Machine

/-! ### The relation -/

theorem PositionRecord.SameSensor.refl (r : PositionRecord) : r.SameSensor r := by constructor <;> rfl

theorem PositionRecord.SameSensor.trans {r x y : PositionRecord} (h : r.SameSensor x) (k : x.SameSensor y) :
    r.SameSensor y := by
  constructor
  · exact k.state.trans h.state
  · exact k.bound.trans h.bound
  · exact k.pl.trans h.pl
  · exact k.pe.trans h.pe
  · exact k.pressure.trans h.pressure
  · exact k.temperature.trans h.temperature
  · exact k.age.trans h.age
  · exact k.batteryLow.trans h.batteryLow
  · exact k.fastLoss.trans h.fastLoss
  · exact k.silenceDue.trans h.silenceDue

theorem mask_grown_trans {a b c : Mask} (h : b &&& a = a) (k : c &&& b = b) : c &&& a = a := by
  rw [← h, ← BitVec.and_assoc, k]

theorem mask_grown_or (a b : Mask) : (a ||| b) &&& a = a := by
  ext i hi
  simp only [BitVec.getElem_and, BitVec.getElem_or]
  cases a[i] <;> simp

theorem Notices.Grown.refl (x : Notices) : x.Grown x := by
  constructor <;> first | rfl | exact BitVec.and_self | exact id

theorem Notices.Grown.trans {x y z : Notices} (h : x.Grown y) (k : y.Grown z) : x.Grown z := by
  constructor
  · exact k.sensorSilent.trans h.sensorSilent
  · exact k.positionsRetired.trans h.positionsRetired
  · exact k.learnResult.trans h.learnResult
  · exact k.candidateReady.trans h.candidateReady
  · exact k.digitalTimeout.trans h.digitalTimeout
  · exact k.lockTimeout.trans h.lockTimeout
  · exact k.storeResult.trans h.storeResult
  · exact k.storeInvalid.trans h.storeInvalid
  · exact mask_grown_trans h.tyreLevel k.tyreLevel
  · exact mask_grown_trans h.pairMismatch k.pairMismatch
  · exact mask_grown_trans h.liftChange k.liftChange
  · exact mask_grown_trans h.liftConflict k.liftConflict
  · exact mask_grown_trans h.liftFault k.liftFault
  · exact k.stabilityAction ∘ h.stabilityAction
  · exact k.workshopChange ∘ h.workshopChange

theorem Offers.refl (s : State) : Offers s s := by
  constructor <;> first
    | rfl
    | exact fun _ => PositionRecord.SameSensor.refl _
    | exact Notices.Grown.refl _
    | exact fun _ => rfl
    | exact fun _ _ _ => rfl

theorem Offers.trans {s t u : State} (h : Offers s t) (k : Offers t u) : Offers s u where
  powered := k.powered.trans h.powered
  now := k.now.trans h.now
  startedAt := k.startedAt.trans h.startedAt
  settings := k.settings.trans h.settings
  store := k.store.trans h.store
  pending := k.pending.trans h.pending
  intake := k.intake.trans h.intake
  analog := k.analog.trans h.analog
  wheels := k.wheels.trans h.wheels
  sensor := fun p => (h.sensor p).trans (k.sensor p)
  layout := fun a => (k.layout a).trans (h.layout a)
  entries := fun x h1 h2 => (k.entries x h1 h2).trans (h.entries x h1 h2)
  brakeMode := k.brakeMode.trans h.brakeMode
  cause := k.cause.trans h.cause
  controlSince := k.controlSince.trans h.controlSince
  deliveredSince := fun c => (k.deliveredSince c).trans (h.deliveredSince c)
  lastNegative := k.lastNegative.trans h.lastNegative
  wakeRaw := k.wakeRaw.trans h.wakeRaw
  wakeRawSince := k.wakeRawSince.trans h.wakeRawSince
  wakeTaken := k.wakeTaken.trans h.wakeTaken
  reply := k.reply.trans h.reply
  sent := k.sent.trans h.sent
  detail := k.detail.trans h.detail
  batchSize := k.batchSize.trans h.batchSize
  batch := k.batch.trans h.batch
  notices := h.notices.trans k.notices

structure Settles (s t : State) : Prop where
  offers : Offers s t
  limit : s.limitLaw → t.limitLaw
  load : s.loadLaw → t.loadLaw
  entry : s.entryLaw → t.entryLaw
  modes : s.RestLaws → t.RestLaws
  watch : t.mode.power = .watch → s.mode.power = .watch

theorem Settles.refl (s : State) : Settles s s := ⟨Offers.refl s, id, id, id, id, id⟩

theorem Settles.trans {s t u : State} (h : Settles s t) (k : Settles t u) : Settles s u :=
  ⟨h.offers.trans k.offers, k.limit ∘ h.limit, k.load ∘ h.load, k.entry ∘ h.entry, k.modes ∘ h.modes,
    h.watch ∘ k.watch⟩

/-- Composition with the later change first, so that a goal about it is taken apart from its last operation. -/
theorem Settles.after {s t u : State} (k : Settles t u) (h : Settles s t) : Settles s u := h.trans k

theorem Settles.ite {s t u : State} {c : Prop} [Decidable c] (h : c → Settles s t) (k : ¬c → Settles s u) :
    Settles s (if c then t else u) := by
  split
  · exact h ‹_›
  · exact k ‹_›

/-- A fold of operations that settle. -/
theorem Settles.foldl {α : Type} {f : State → α → State} (hf : ∀ s a, Settles s (f s a)) (l : List α) (s : State) :
    Settles s (l.foldl f s) := by
  induction l generalizing s with
  | nil => exact Settles.refl s
  | cons a l ih => exact (hf s a).trans (ih _)

/-! ### Basic updates -/

section
variable (s : State)

theorem Settles.setNotices {x : Notices} (h : s.port.notices.Grown x) : Settles s (s.setNotices x) := by
  refine ⟨?_, id, id, id, fun h => ⟨h.fallback, h.workshop, h.watch⟩, id⟩
  exact { Offers.refl s with notices := h }

theorem Settles.setPosition {p : Position} {r : PositionRecord} (h : (s.position p).SameSensor r) :
    Settles s (s.setPosition p r) := by
  refine ⟨?_, id, id, id, fun h => ⟨h.fallback, h.workshop, h.watch⟩, id⟩
  refine { Offers.refl s with sensor := fun q => ?_ }
  rw [State.setPosition_position]
  split
  · subst q; exact h
  · exact PositionRecord.SameSensor.refl _

theorem Settles.setPair (a : AxleId) (sd : Side) (x : PairState) : Settles s (s.setPair a sd x) := by
  refine ⟨?_, id, id, id, fun h => ⟨h.fallback, h.workshop, h.watch⟩, id⟩
  exact { Offers.refl s with sensor := fun q => PositionRecord.SameSensor.refl _ }

theorem Settles.setAxle {a : AxleId} {r : AxleRecord} (h : r.layout = (s.axle a).layout) :
    Settles s (s.setAxle a r) := by
  refine ⟨?_, id, fun h g => by simpa using h g, id, fun h => ⟨h.fallback, h.workshop, h.watch⟩, id⟩
  refine { Offers.refl s with layout := fun b => ?_ }
  rw [State.setAxle_axle]
  split
  · subst b; exact h
  · rfl

theorem Settles.setGroup {g : GroupId} {r : GroupRecord} (h : r.l = (s.group g).l ∨ r.l ≤ 1000) :
    Settles s (s.setGroup g r) := by
  refine ⟨?_, id, fun k g' => ?_, id, fun h => ⟨h.fallback, h.workshop, h.watch⟩, id⟩
  · exact { Offers.refl s with layout := fun b => rfl }
  · rw [State.setGroup_group]
    have := k g; have := k g'
    split
    · omega
    · assumption

theorem Settles.setInputs {x : Inputs} (h : x.analog = s.inputs.analog) (k : x.wheels = s.inputs.wheels) :
    Settles s (s.setInputs x) := by
  refine ⟨?_, id, id, id, fun h => ⟨h.fallback, h.workshop, h.watch⟩, id⟩
  exact { Offers.refl s with analog := h, wheels := k }

theorem Settles.setDemands {x : Demands} (h : x.table = s.demands.table) : Settles s (s.setDemands x) := by
  have he : ∀ z, (s.setDemands x).entry z = s.entry z := fun z => by simp [State.entry, h]
  refine ⟨?_, id, id, fun k => by simpa [State.entryLaw, h] using k, fun k => ⟨k.fallback, ?_, ?_⟩, id⟩
  · exact { Offers.refl s with entries := fun z _ _ => he z }
  · intro hw
    have := k.workshop hw
    simpa [State.hasEntry, he] using this
  · intro hw
    have := k.watch hw
    simpa [State.hasEntry, he] using this

/-- A record of the STU that leaves IDLE only where the modes allow it, and holds limits in range. -/
theorem Settles.setStability {x : Stability} (hn : x.lastNegative = s.stability.lastNegative)
    (hs : x.state = .idle ∨ (s.stability.state = .idle → s.channels.mode = .electronic ∧ s.mode.power = .awake))
    (hl : x.liveLimit = s.stability.liveLimit ∨ 200 ≤ x.liveLimit ∧ x.liveLimit ≤ 700)
    (hf : x.frozen = none ∨ x.frozen = s.stability.frozen ∨ x.frozen = some s.stability.liveLimit) :
    Settles s (s.setStability x) := by
  have hidle : s.stability.state = .idle → x.state = .idle ∨ (s.channels.mode = .electronic ∧ s.mode.power = .awake) :=
    fun h => hs.imp_right (· h)
  refine ⟨?_, ?_, id, id, fun k => ⟨?_, k.workshop, ?_⟩, id⟩
  · exact { Offers.refl s with lastNegative := hn }
  · rintro ⟨k, k'⟩
    refine ⟨?_, ?_⟩
    · rcases hl with h | h
      · simpa [h] using k
      · simpa using h
    · intro v hv
      simp only [State.setStability_stability] at hv
      rcases hf with h | h | h
      · rw [h] at hv; cases hv
      · exact k' v (h ▸ hv)
      · rw [h] at hv; cases hv; exact k
  · intro hm
    obtain ⟨h1, h2, h3⟩ := k.fallback hm
    refine ⟨h1, h2, ?_⟩
    rcases hidle h3 with h | h
    · exact h
    · have h' := h.1; simp only [State.setStability_channels] at hm; rw [h'] at hm; cases hm
  · intro hm
    obtain ⟨h1, h2, h3, h4, h5⟩ := k.watch hm
    refine ⟨h1, h2, h3, ?_, h5⟩
    rcases hidle h4 with h | h
    · exact h
    · have := h.2; simp only [State.setStability_mode] at hm; rw [this] at hm; cases hm

/-- A channel record that energises a valve only in ELECTRONIC outside WATCH. -/
theorem Settles.setChannel {c : ChannelId} {r : ChannelRecord} (hd : r.deliveredSince = (s.channel c).deliveredSince)
    (hv : (r.inlet = false ∧ r.exhaust = false) ∨ (r.inlet = (s.channel c).inlet ∧ r.exhaust = (s.channel c).exhaust) ∨
      (s.channels.mode = .electronic ∧ s.mode.power ≠ .watch)) :
    Settles s (s.setChannel c r) := by
  have key : s.channels.mode = .fallback ∨ s.mode.power = .watch →
      (∀ d, (s.channel d).inlet = false ∧ (s.channel d).exhaust = false) →
      ∀ d, ((s.setChannel c r).channel d).inlet = false ∧ ((s.setChannel c r).channel d).exhaust = false := by
    intro hm h d
    rw [State.setChannel_channel]
    split
    · rcases hv with hv | hv | hv
      · exact hv
      · rw [hv.1, hv.2]; exact h c
      · rcases hm with hm | hm
        · rw [hv.1] at hm; cases hm
        · exact absurd hm hv.2
    · exact h d
  refine ⟨?_, id, id, id, fun k => ⟨?_, k.workshop, ?_⟩, id⟩
  · refine { Offers.refl s with deliveredSince := fun d => ?_ }
    rw [State.setChannel_channel]
    split
    · subst d; exact hd
    · rfl
  · intro hm
    obtain ⟨h1, h2, h3⟩ := k.fallback hm
    exact ⟨key (.inl hm) h1, h2, h3⟩
  · intro hm
    obtain ⟨h1, h2, ⟨h3, h3'⟩, h4⟩ := k.watch hm
    exact ⟨h1, h2, ⟨key (.inr hm) h3, h3'⟩, h4⟩

/-- Every channel record changed alike, with no valve energised. -/
theorem Settles.mapChannels (f : ChannelRecord → ChannelRecord) (hd : ∀ r, (f r).deliveredSince = r.deliveredSince)
    (hi : ∀ r, (f r).inlet = r.inlet) (he : ∀ r, (f r).exhaust = r.exhaust) :
    Settles s (s.setChannels { s.channels with records := s.channels.records.map f }) := by
  have hc : ∀ d, (s.setChannels { s.channels with records := s.channels.records.map f }).channel d = f (s.channel d) :=
    fun d => by simp [State.channel]
  refine ⟨?_, id, id, id, fun k => ⟨?_, k.workshop, ?_⟩, id⟩
  · refine { Offers.refl s with deliveredSince := fun d => ?_ }
    rw [hc, hd]
  · intro hm
    obtain ⟨h1, h2, h3⟩ := k.fallback hm
    exact ⟨fun d => by rw [hc, hi, he]; exact h1 d, h2, h3⟩
  · intro hm
    obtain ⟨h1, h2, ⟨h3, h3'⟩, h4⟩ := k.watch hm
    exact ⟨h1, h2, ⟨fun d => by rw [hc, hi, he]; exact h3 d, h3'⟩, h4⟩

/-- The redundancy valve, energised in ELECTRONIC outside WATCH only. -/
theorem Settles.setRedundancy {b : Bool} (h : b = true → s.channels.mode = .electronic ∧ s.mode.power ≠ .watch) :
    Settles s (s.setChannels { s.channels with redundancy := b }) := by
  refine ⟨?_, id, id, id, fun k => ⟨?_, k.workshop, ?_⟩, id⟩
  · exact { Offers.refl s with deliveredSince := fun d => rfl }
  · intro hm
    obtain ⟨h1, h2, h3⟩ := k.fallback hm
    refine ⟨h1, ?_, h3⟩
    cases b with
    | false => rfl
    | true => rw [show s.channels.mode = .fallback from hm] at h; cases (h rfl).1
  · intro hm
    obtain ⟨h1, h2, ⟨h3, h3'⟩, h4⟩ := k.watch hm
    refine ⟨h1, h2, ⟨h3, ?_⟩, h4⟩
    cases b with
    | false => rfl
    | true => exact absurd hm (h rfl).2

/-- The MDU's record outside the workshop's fields. -/
theorem Settles.setPower {m : Mode} (h1 : m.wakeRaw = s.mode.wakeRaw) (h2 : m.wakeRawSince = s.mode.wakeRawSince)
    (h3 : m.wakeTaken = s.mode.wakeTaken) (h4 : m.workshop = s.mode.workshop)
    (h5 : m.running = none ∧ s.mode.running = none ∨ m.running.isSome ∧ s.mode.running.isSome)
    (h6 : m.power = .watch → s.mode.power = .watch) : Settles s (s.setMode m) := by
  refine ⟨?_, id, id, id, fun k => ⟨k.fallback, ?_, ?_⟩, h6⟩
  · exact { Offers.refl s with wakeRaw := h1, wakeRawSince := h2, wakeTaken := h3 }
  · intro hm
    simp only [State.setMode_mode, h4] at hm
    obtain ⟨h, h'⟩ := k.workshop hm
    rcases h5 with h5 | h5
    · exact ⟨h5.1, h'⟩
    · rw [h] at h5; exact absurd h5.2 (by simp)
  · intro hm
    obtain ⟨k1, k2, k3, k4, k5⟩ := k.watch (h6 hm)
    exact ⟨k1, k2, k3, k4, h4.trans k5⟩

/-- R88: a STABILITY or TEST entry retired. -/
theorem Settles.retireEntry {x : Source} (h : x = .stability ∨ x = .test) : Settles s (s.retireEntry x) := by
  have hno : ∀ z, s.hasEntry z = false → (s.retireEntry x).hasEntry z = false := by
    intro z hz
    by_cases hzx : z = x
    · subst hzx; simp [State.hasEntry]
    · simpa [State.hasEntry, State.retireEntry_entry_ne s hzx] using hz
  refine ⟨?_, id, id, State.retireEntry_entryLaw x, fun k => ⟨k.fallback, ?_, ?_⟩, id⟩
  · refine { Offers.refl s with entries := fun z h1 h2 => State.retireEntry_entry_ne s ?_ }
    rintro rfl; rcases h with h | h <;> contradiction
  · intro hm
    exact ⟨(k.workshop hm).1, hno _ (k.workshop hm).2⟩
  · intro hm
    obtain ⟨k1, k2⟩ := k.watch hm
    exact ⟨⟨hno _ k1.1, hno _ k1.2⟩, k2⟩

/-- R93: the STU posts outside IDLE only. -/
theorem Settles.postStability {l : PerChannel Nat} (h : s.stability.state ≠ .idle) : Settles s (s.postStability l) := by
  unfold State.postStability
  have hd : ∀ {β : Type} (f : State → β), (∀ x, f (s.setDemands x) = f s) →
      f (s.postEntry .stability (.channels l)) = f s := by
    intro β f hf; unfold State.postEntry; split <;> exact hf _
  refine ⟨?_, ?_, ?_, State.postEntry_entryLaw _ _, fun k => ⟨?_, ?_, ?_⟩, ?_⟩
  · constructor <;> first
      | exact hd _ (fun _ => rfl)
      | (intro c; exact hd (fun t => (t.channel c).deliveredSince) (fun _ => rfl))
      | (intro a; exact hd (fun t => (t.axle a).layout) (fun _ => rfl))
      | (intro p; rw [hd (fun t => t.position p) (fun _ => rfl)]; exact PositionRecord.SameSensor.refl _)
      | (intro x h1 _; exact State.postEntry_entry_ne s _ h1)
      | (rw [hd (fun t => t.port) (fun _ => rfl)]; exact Notices.Grown.refl _)
      | (rw [hd (fun t => t.port) (fun _ => rfl)])
      | (rw [hd (fun t => t.mode) (fun _ => rfl)])
      | (rw [hd (fun t => t.channels) (fun _ => rfl)])
      | (rw [hd (fun t => t.stability) (fun _ => rfl)])
      | (rw [hd (fun t => t.inputs) (fun _ => rfl)])
  · intro k; unfold State.limitLaw; rw [hd (fun t => t.stability) (fun _ => rfl)]; exact k
  · intro k g; rw [hd (fun t => t.group g) (fun _ => rfl)]; exact k g
  · intro hm
    rw [hd (fun t => t.channels) (fun _ => rfl)] at hm
    exact absurd (k.fallback hm).2.2 h
  · intro hm
    rw [hd (fun t => t.mode) (fun _ => rfl)] at hm ⊢
    refine ⟨(k.workshop hm).1, ?_⟩
    have := (k.workshop hm).2
    simpa [State.hasEntry, State.postEntry_entry_ne] using this
  · intro hm
    rw [hd (fun t => t.mode) (fun _ => rfl)] at hm
    exact absurd (k.watch hm).2.2.2.1 h
  · intro hm; rwa [hd (fun t => t.mode) (fun _ => rfl)] at hm

/-- R144: a change of the workshop state to one other than STEP RUNNING. -/
theorem Settles.enterWorkshopState {m : Mode} (h1 : m.wakeRaw = s.mode.wakeRaw)
    (h2 : m.wakeRawSince = s.mode.wakeRawSince) (h3 : m.wakeTaken = s.mode.wakeTaken) (h4 : m.power = s.mode.power)
    (h6 : m.running = none ∨ m.running = s.mode.running ∧ s.mode.workshop ≠ .stepRunning)
    (h7 : s.RestLaws → s.mode.power = .watch → m.workshop = .off) : Settles s (s.enterWorkshopState m) := by
  have note : ∀ t : State, Settles t (if s.mode.workshop = m.workshop then t else t.noteWorkshopChange) := fun t =>
    .ite (fun _ => .refl t) fun _ => .setNotices t { Notices.Grown.refl _ with workshopChange := fun _ => rfl }
  unfold State.enterWorkshopState
  refine Settles.trans ?_ (note _)
  have hret : Settles s (if s.mode.workshop = .stepRunning then s.retireEntry .test else s) :=
    .ite (fun _ => .retireEntry s (.inr rfl)) fun _ => .refl s
  have hmode : (if s.mode.workshop = .stepRunning then s.retireEntry .test else s).mode = s.mode := by
    split <;> rfl
  have htest : s.RestLaws → (if s.mode.workshop = .stepRunning then s.retireEntry .test else s).hasEntry .test = false := by
    intro k
    split
    · simp [State.hasEntry]
    · exact (k.workshop ‹_›).2
  refine ⟨hret.offers.trans ?_, hret.limit, hret.load, hret.entry, fun k => ⟨(hret.modes k).fallback, ?_, ?_⟩, ?_⟩
  · exact { Offers.refl _ with
      wakeRaw := by rw [hmode]; exact h1
      wakeRawSince := by rw [hmode]; exact h2
      wakeTaken := by rw [hmode]; exact h3 }
  · intro _
    refine ⟨?_, htest k⟩
    rcases h6 with h | h
    · exact h
    · exact h.1.trans (k.workshop h.2).1
  · intro hm
    have hw : s.mode.power = .watch := h4.symm.trans hm
    obtain ⟨k1, k2, k3, k4, _⟩ := (hret.modes k).watch (by rw [hmode]; exact hw)
    exact ⟨k1, k2, k3, k4, h7 k hw⟩
  · intro hm; exact h4.symm.trans hm

end

end Sys2Proof.Machine
end

