-- ==== Sys2Proof/Laws/Settle.lean ====
section
/-! SUPPORT. Every operation that the offers of a change are made of settles, and so does `State.settle`. -/
namespace Sys2Proof.Machine

variable (s : State)

/-- A change that reaches no further than the records of the LDU and the TTU, the workshop record, the table and the
notices. -/
structure LoadChange (s t : State) : Prop where
  settles : Settles s t
  inputs : t.inputs = s.inputs
  channels : t.channels = s.channels
  stability : t.stability = s.stability
  power : t.mode.power = s.mode.power
  driver : t.demands.driver = s.demands.driver
  mismatch : t.demands.mismatch = s.demands.mismatch

theorem LoadChange.refl (s : State) : LoadChange s s := ⟨.refl s, rfl, rfl, rfl, rfl, rfl, rfl⟩

theorem LoadChange.after {s t u : State} (k : LoadChange t u) (h : LoadChange s t) : LoadChange s u :=
  ⟨.after k.settles h.settles, k.inputs.trans h.inputs, k.channels.trans h.channels, k.stability.trans h.stability,
    k.power.trans h.power, k.driver.trans h.driver, k.mismatch.trans h.mismatch⟩

theorem LoadChange.trans {s t u : State} (h : LoadChange s t) (k : LoadChange t u) : LoadChange s u := .after k h

theorem LoadChange.ite {s t u : State} {c : Prop} [Decidable c] (h : c → LoadChange s t) (k : ¬c → LoadChange s u) :
    LoadChange s (if c then t else u) := by
  split
  · exact h ‹_›
  · exact k ‹_›

theorem LoadChange.foldl {α : Type} {f : State → α → State} (hf : ∀ s a, LoadChange s (f s a)) (l : List α) (s : State) :
    LoadChange s (l.foldl f s) := by
  induction l generalizing s with
  | nil => exact .refl s
  | cons a l ih => exact .after (ih _) (hf s a)

theorem LoadChange.setNotices {x : Notices} (h : s.port.notices.Grown x) : LoadChange s (s.setNotices x) :=
  ⟨.setNotices s h, rfl, rfl, rfl, rfl, rfl, rfl⟩

theorem LoadChange.setPosition {p : Position} {r : PositionRecord} (h : (s.position p).SameSensor r) :
    LoadChange s (s.setPosition p r) := ⟨.setPosition s h, rfl, rfl, rfl, rfl, rfl, rfl⟩

theorem LoadChange.setPair (a : AxleId) (sd : Side) (x : PairState) : LoadChange s (s.setPair a sd x) :=
  ⟨.setPair s a sd x, rfl, rfl, rfl, rfl, rfl, rfl⟩

theorem LoadChange.setAxle {a : AxleId} {r : AxleRecord} (h : r.layout = (s.axle a).layout) :
    LoadChange s (s.setAxle a r) := ⟨.setAxle s h, rfl, rfl, rfl, rfl, rfl, rfl⟩

theorem LoadChange.setGroup {g : GroupId} {r : GroupRecord} (h : r.l = (s.group g).l ∨ r.l ≤ 1000) :
    LoadChange s (s.setGroup g r) := ⟨.setGroup s h, rfl, rfl, rfl, rfl, rfl, rfl⟩

theorem LoadChange.enterWorkshopState {m : Mode} (h1 : m.wakeRaw = s.mode.wakeRaw)
    (h2 : m.wakeRawSince = s.mode.wakeRawSince) (h3 : m.wakeTaken = s.mode.wakeTaken) (h4 : m.power = s.mode.power)
    (h6 : m.running = none ∨ m.running = s.mode.running ∧ s.mode.workshop ≠ .stepRunning)
    (h7 : s.RestLaws → s.mode.power = .watch → m.workshop = .off) : LoadChange s (s.enterWorkshopState m) := by
  refine ⟨.enterWorkshopState s h1 h2 h3 h4 h6 h7, ?_, ?_, ?_, ?_, ?_, ?_⟩ <;>
    · unfold State.enterWorkshopState
      split <;> split <;> first | rfl | exact h4

/-! ### Notices -/

theorem LoadChange.noteTyreLevel (p : Position) : LoadChange s (s.noteTyreLevel p) :=
  .setNotices s { Notices.Grown.refl _ with tyreLevel := mask_grown_or _ _ }

theorem LoadChange.notePairMismatch (a : AxleId) (sd : Side) : LoadChange s (s.notePairMismatch a sd) :=
  .setNotices s { Notices.Grown.refl _ with pairMismatch := mask_grown_or _ _ }

theorem LoadChange.noteLiftChange (a : AxleId) : LoadChange s (s.noteLiftChange a) :=
  .setNotices s { Notices.Grown.refl _ with liftChange := mask_grown_or _ _ }

theorem LoadChange.noteLiftConflict (a : AxleId) : LoadChange s (s.noteLiftConflict a) :=
  .setNotices s { Notices.Grown.refl _ with liftConflict := mask_grown_or _ _ }

theorem LoadChange.noteLiftFault (a : AxleId) : LoadChange s (s.noteLiftFault a) :=
  .setNotices s { Notices.Grown.refl _ with liftFault := mask_grown_or _ _ }

theorem LoadChange.noteStabilityAction (n : Nat) : LoadChange s (s.noteStabilityAction n) :=
  .setNotices s { Notices.Grown.refl _ with stabilityAction := fun _ => rfl }

/-! ### The workshop state -/

/-- R148: a running step, which the mode laws leave no room for in WATCH. -/
theorem LoadChange.endStep {m : Mode} (h1 : m.wakeRaw = s.mode.wakeRaw) (h2 : m.wakeRawSince = s.mode.wakeRawSince)
    (h3 : m.wakeTaken = s.mode.wakeTaken) (h4 : m.power = s.mode.power) (h6 : m.running = none)
    (hr : s.mode.running ≠ none) : LoadChange s (s.enterWorkshopState m) := by
  refine .enterWorkshopState s h1 h2 h3 h4 (.inl h6) fun k hw => ?_
  have := (k.workshop (by rw [(k.watch hw).2.2.2.2]; decide)).1
  exact absurd this hr

theorem LoadChange.stepDone (hr : s.mode.running ≠ none) : LoadChange s s.stepDone := .endStep s rfl rfl rfl rfl rfl hr

theorem LoadChange.stepFaults (c : StepFault) (hr : s.mode.running ≠ none) : LoadChange s (s.stepFaults c) :=
  .endStep s rfl rfl rfl rfl rfl hr

theorem LoadChange.workshopOff : LoadChange s s.workshopOff := by
  unfold State.workshopOff
  refine .ite (fun _ => .refl s) fun _ => .ite (fun _ => ?_) fun _ => ?_
  · exact .enterWorkshopState s rfl rfl rfl rfl (.inl rfl) fun _ _ => rfl
  · exact .enterWorkshopState s rfl rfl rfl rfl (.inl rfl) fun _ _ => rfl

theorem LoadChange.followReadiness : LoadChange s s.followReadiness := by
  unfold State.followReadiness
  refine .ite (fun h => ?_) fun _ => .refl s
  refine .enterWorkshopState s rfl rfl rfl rfl (.inr ⟨rfl, by rw [h.1]; decide⟩) fun _ hw => ?_
  have := h.2
  simp [State.workshopReady, hw] at this

theorem LoadChange.followBand : LoadChange s s.followBand := by
  unfold State.followBand
  split
  · exact .refl s
  · rename_i r hr
    split
    · refine .ite (fun _ => .refl s) fun _ => ?_
      exact ⟨.setPower s rfl rfl rfl rfl (.inr ⟨rfl, by simp [hr]⟩) id, rfl, rfl, rfl, rfl, rfl, rfl⟩
    · exact .refl s
    · exact .refl s

/-! ### Tyres -/

theorem LoadChange.noteLevels (p : Position) (r : PositionRecord) : LoadChange s (s.noteLevels p r) :=
  .ite (fun _ => .refl s) fun _ => .noteTyreLevel s p

theorem LoadChange.comparePair (a : AxleId) (sd : Side) : LoadChange s (s.comparePair a sd) := by
  unfold State.comparePair
  refine .ite (fun _ => .refl s) fun _ => ?_
  exact .ite (fun _ => .after (.notePairMismatch _ a sd) (.setPair s a sd _)) fun _ => .setPair s a sd _

theorem LoadChange.comparePairOf (p : Position) : LoadChange s (s.comparePairOf p) := by
  cases p with
  | road a sl => exact .comparePair s a sl.side
  | sp1 => exact .refl s
  | sp2 => exact .refl s

theorem LoadChange.evaluate (p : Position) : LoadChange s (s.evaluate p) := by
  unfold State.evaluate
  refine .ite (fun _ => ?_) fun _ => .refl s
  refine .after (.comparePairOf _ p) (.after (.noteLevels _ p _) (.setPosition s ?_))
  constructor <;> rfl

theorem LoadChange.evaluateAxle (a : AxleId) : LoadChange s (s.evaluateAxle a) :=
  .foldl (fun t sl => .evaluate t (.road a sl)) _ s

/-! ### Loads and lifts -/

theorem GroupRecord.entered_l (r : GroupRecord) : r.entered.l = r.l := by
  unfold GroupRecord.entered; split <;> rfl

theorem loadL_le (c : Calibration) (w : Nat) : loadL c w ≤ 1000 := by
  unfold loadL clampInt; split
  · simp
  · split
    · simp
    · omega

theorem GroupRecord.loaded_l (r : GroupRecord) (c : Calibration) (pb : Int) : (r.loaded c pb).l ≤ 1000 := loadL_le _ _

theorem LoadChange.reportLift (a : AxleId) (x : LiftState) : LoadChange s (s.reportLift a x) := by
  unfold State.reportLift
  split
  · exact .refl s
  · rename_i r hr
    have hn : s.mode.running ≠ none := by simp [hr]
    refine .ite (fun _ => ?_) fun _ => .ite (fun _ => ?_) fun _ => .refl s
    · cases x
      · exact .refl s
      · exact .refl s
      · exact .stepDone s hn
      · exact .stepFaults s _ hn
    · cases x
      · exact .stepDone s hn
      · exact .refl s
      · exact .refl s
      · exact .refl s

theorem LoadChange.recount (g : GroupId) : LoadChange s (s.recount g) := .setGroup s (.inl rfl)

theorem LoadChange.followTransition (g : GroupId) : LoadChange s (s.followTransition g) := by
  unfold State.followTransition
  refine .ite (fun _ => .setGroup s (.inl ?_)) fun _ => .ite (fun _ => .setGroup s (.inl rfl)) fun _ => .refl s
  exact GroupRecord.entered_l _

theorem LoadChange.noteArrival (a : AxleId) (x : LiftState) : LoadChange s (s.noteArrival a x) := by
  cases x
  · exact .noteLiftChange s a
  · exact .refl s
  · exact .noteLiftChange s a
  · exact .refl s

theorem LoadChange.setLift (a : AxleId) (x : LiftState) : LoadChange s (s.setLift a x) := by
  unfold State.setLift
  refine .ite (fun _ => .refl s) fun _ => ?_
  refine .after (.reportLift _ a x) (.after (.evaluateAxle _ a) (.after (.noteArrival _ a x) ?_))
  refine .after (.followTransition _ _) (.after (.followTransition _ _) (.after (.recount _ _) (.after (.recount _ _) ?_)))
  exact .setAxle s rfl

theorem LoadChange.lowerAxle (a : AxleId) : LoadChange s (s.lowerAxle a) :=
  .ite (fun _ => .setLift s a _) fun _ => .refl s

theorem LoadChange.modeToAuto (a : AxleId) : LoadChange s (s.modeToAuto a) :=
  .ite (fun _ => .setAxle s rfl) fun _ => .refl s

theorem LoadChange.lowerToAuto (a : AxleId) : LoadChange s (s.lowerToAuto a) :=
  .ite (fun _ => .after (.setLift _ a _) (.modeToAuto s a)) fun _ => .refl s

theorem LoadChange.forceAxle (a : AxleId) : LoadChange s (s.forceAxle a) := by
  unfold State.forceAxle
  refine .after (.lowerAxle _ a) (.after (.setAxle _ rfl) ?_)
  exact .ite (fun _ => .modeToAuto s a) fun _ => .refl s

theorem LoadChange.forceLower : LoadChange s s.forceLower := .foldl LoadChange.forceAxle _ s

/-- The raise pending flags of a list of axles dropped. -/
theorem LoadChange.dropFlags (l : List AxleId) : LoadChange s (l.foldl
    (fun t a => if (t.axle a).mode = .auto then t.setAxle a { t.axle a with raisePending := false } else t) s) :=
  .foldl (f := fun t a => if (t.axle a).mode = .auto then t.setAxle a { t.axle a with raisePending := false } else t)
    (fun t _ => .ite (fun _ => .setAxle t rfl) fun _ => .refl t) l s

theorem LoadChange.endRaise (g : GroupId) (keep : Bool) : LoadChange s (s.endRaise g keep) := by
  unfold State.endRaise
  exact .ite (fun _ => .setGroup s (.inl rfl)) fun _ => .after (.dropFlags _ _) (.setGroup s (.inl rfl))

theorem LoadChange.boundHeldUp (a : AxleId) : LoadChange s (s.boundHeldUp a) :=
  .ite (fun _ => .lowerToAuto s a) fun _ => .refl s

theorem LoadChange.boundGroup (g : GroupId) : LoadChange s (s.boundGroup g) := .foldl LoadChange.boundHeldUp _ s

theorem LoadChange.formLoad (g : GroupId) : LoadChange s (s.formLoad g) := by
  unfold State.formLoad
  split
  · exact .after (.boundGroup _ g) (.setGroup s (.inr (GroupRecord.loaded_l _ _ _)))
  · exact .refl s

theorem GroupRecord.released_l (r : GroupRecord) (c : Calibration) (b : Option Int) :
    (r.released c b).l = r.l ∨ (r.released c b).l ≤ 1000 := by
  unfold GroupRecord.released
  split
  · exact .inl rfl
  · split
    · exact .inr (GroupRecord.loaded_l _ _ _)
    · exact .inl rfl

theorem LoadChange.releaseGroup (g : GroupId) : LoadChange s (s.releaseGroup g) := by
  unfold State.releaseGroup
  refine .ite (fun _ => .refl s) fun _ => .ite (fun _ => ?_) fun _ => .refl s
  exact .after (.boundGroup _ g) (.setGroup s (GroupRecord.released_l _ _ _))

theorem LoadChange.rollArrives : LoadChange s s.rollArrives :=
  .foldl (f := fun t g => if t.groupInUse g then t.setGroup g { (t.group g).entered with holdRoll := true } else t)
    (fun t _ => .ite (fun _ => .setGroup t (.inl (GroupRecord.entered_l _))) fun _ => .refl t) _ s

theorem LoadChange.rollEnds : LoadChange s s.rollEnds :=
  .foldl (f := fun t g =>
      if (t.group g).holdRoll then (t.setGroup g { t.group g with holdRoll := false }).releaseGroup g else t)
    (fun t g => .ite (fun _ => .after (.releaseGroup _ g) (.setGroup t (.inl rfl))) fun _ => .refl t) _ s

theorem LoadChange.testRaise (g : GroupId) : LoadChange s (s.testRaise g) := by
  unfold State.testRaise
  refine (LoadChange.setGroup s (r := { s.group g with seen := s.startConditions g }) (.inl rfl)).trans ?_
  dsimp only
  split
  · exact .refl _
  · refine .ite (fun _ => .setAxle _ rfl) fun _ => ?_
    exact .ite (fun _ => .after (.setLift _ _ _) (.dropFlags _ _)) fun _ => .dropFlags _ _

theorem LoadChange.dropFlag (a : AxleId) : LoadChange s (s.dropFlag a) :=
  .ite (fun _ => .setAxle s rfl) fun _ => .refl s

theorem LoadChange.followRaise (g : GroupId) : LoadChange s (s.followRaise g) := by
  unfold State.followRaise
  refine .ite (fun _ => ?_) fun _ => .ite (fun _ => .endRaise s g _) fun _ => .refl s
  refine (LoadChange.setGroup s (r := { s.group g with raiseSince := some ((s.group g).raiseSince.getD s.now) })
    (.inl rfl)).trans ?_
  exact .ite (fun _ => .testRaise _ g) fun _ => .refl _

theorem LoadChange.followLower (a : AxleId) : LoadChange s (s.followLower a) :=
  .ite (fun _ => .setAxle s rfl) fun _ => .setAxle s rfl

theorem LoadChange.retryHeldUp (a : AxleId) : LoadChange s (s.retryHeldUp a) := by
  unfold State.retryHeldUp
  refine .ite (fun _ => ?_) fun _ => .refl s
  exact .ite (fun _ => .setAxle s rfl) fun _ => .after (.setLift _ a _) (.setAxle s rfl)

theorem LoadChange.followLifts : LoadChange s s.followLifts :=
  (LoadChange.foldl LoadChange.retryHeldUp _ s).trans ((LoadChange.foldl LoadChange.dropFlag _ _).trans
    ((LoadChange.foldl LoadChange.followRaise _ _).trans (.foldl LoadChange.followLower _ _)))

theorem LoadChange.abortRaise (a : AxleId) : LoadChange s (s.abortRaise a) :=
  .ite (fun _ => .lowerToAuto s a) fun _ => .refl s

theorem LoadChange.takeBraking (b : Bool) : LoadChange s (s.takeBraking b) := by
  have h : LoadChange s (s.setDemands { s.demands with braking := b }) := ⟨.setDemands s rfl, rfl, rfl, rfl, rfl, rfl, rfl⟩
  exact .ite (fun _ => .after (.foldl LoadChange.abortRaise _ _) h) fun _ => h

theorem LoadChange.testTyres (a : AxleId) : LoadChange s (s.testTyres a) := by
  unfold State.testTyres
  refine .ite (fun _ => .ite (fun _ => .ite (fun _ => .ite (fun _ => .refl s) fun _ => ?_) fun _ => ?_) fun _ => ?_)
    fun _ => .refl s
  · exact .after (.noteLiftConflict _ a) (.setAxle s rfl)
  · exact .after (.lowerToAuto _ a) (.setAxle s rfl)
  · exact .setAxle s rfl

theorem LoadChange.testAllTyres : LoadChange s s.testAllTyres := .foldl LoadChange.testTyres _ s

theorem LoadChange.evaluateOffering (p : Position) : LoadChange s (s.evaluateOffering p) :=
  .ite (fun _ => .evaluate s p) fun _ => .after (.testAllTyres _) (.evaluate s p)

theorem LoadChange.judgeLiftFault (a : AxleId) : LoadChange s (s.judgeLiftFault a) := by
  unfold State.judgeLiftFault
  refine .ite (fun _ => ?_) fun _ => .refl s
  refine .after (.setLift _ a _) ?_
  have hset : LoadChange s ((s.noteLiftFault a).setAxle a { s.axle a with mode := .heldDown }) :=
    .after (.setAxle _ rfl) (.noteLiftFault s a)
  refine .ite (fun h => .after (.stepFaults _ _ ?_) hset) fun _ => hset
  intro hn
  rw [State.liftStepOn, hn] at h
  cases h

/-! ### Stability -/

/-- A change that leaves P_d and the mismatch record. -/
structure Steady (s t : State) : Prop where
  settles : Settles s t
  driver : t.demands.driver = s.demands.driver
  mismatch : t.demands.mismatch = s.demands.mismatch

theorem LoadChange.steady {s t : State} (h : LoadChange s t) : Steady s t := ⟨h.settles, h.driver, h.mismatch⟩

theorem Steady.refl (s : State) : Steady s s := ⟨.refl s, rfl, rfl⟩

theorem Steady.after {s t u : State} (k : Steady t u) (h : Steady s t) : Steady s u :=
  ⟨.after k.settles h.settles, k.driver.trans h.driver, k.mismatch.trans h.mismatch⟩

theorem Steady.ite {s t u : State} {c : Prop} [Decidable c] (h : c → Steady s t) (k : ¬c → Steady s u) :
    Steady s (if c then t else u) := by
  split
  · exact h ‹_›
  · exact k ‹_›

theorem Steady.foldl {α : Type} {f : State → α → State} (hf : ∀ s a, Steady s (f s a)) (l : List α) (s : State) :
    Steady s (l.foldl f s) := by
  induction l generalizing s with
  | nil => exact .refl s
  | cons a l ih => exact .after (ih _) (hf s a)

theorem Steady.setInputs {x : Inputs} (h : x.analog = s.inputs.analog) (k : x.wheels = s.inputs.wheels) :
    Steady s (s.setInputs x) := ⟨.setInputs s h k, rfl, rfl⟩

theorem Steady.setStability {x : Stability} (hn : x.lastNegative = s.stability.lastNegative)
    (hs : x.state = .idle ∨ (s.stability.state = .idle → s.channels.mode = .electronic ∧ s.mode.power = .awake))
    (hl : x.liveLimit = s.stability.liveLimit ∨ 200 ≤ x.liveLimit ∧ x.liveLimit ≤ 700)
    (hf : x.frozen = none ∨ x.frozen = s.stability.frozen ∨ x.frozen = some s.stability.liveLimit) :
    Steady s (s.setStability x) := ⟨.setStability s hn hs hl hf, rfl, rfl⟩

theorem Steady.setChannel {c : ChannelId} {r : ChannelRecord} (hd : r.deliveredSince = (s.channel c).deliveredSince)
    (hv : (r.inlet = false ∧ r.exhaust = false) ∨ (r.inlet = (s.channel c).inlet ∧ r.exhaust = (s.channel c).exhaust) ∨
      (s.channels.mode = .electronic ∧ s.mode.power ≠ .watch)) :
    Steady s (s.setChannel c r) := ⟨.setChannel s hd hv, rfl, rfl⟩

theorem Steady.mapChannels (f : ChannelRecord → ChannelRecord) (hd : ∀ r, (f r).deliveredSince = r.deliveredSince)
    (hi : ∀ r, (f r).inlet = r.inlet) (he : ∀ r, (f r).exhaust = r.exhaust) :
    Steady s (s.setChannels { s.channels with records := s.channels.records.map f }) :=
  ⟨.mapChannels s f hd hi he, rfl, rfl⟩

theorem Steady.setRedundancy {b : Bool} (h : b = true → s.channels.mode = .electronic ∧ s.mode.power ≠ .watch) :
    Steady s (s.setChannels { s.channels with redundancy := b }) := ⟨.setRedundancy s h, rfl, rfl⟩

theorem Steady.setPower {m : Mode} (h1 : m.wakeRaw = s.mode.wakeRaw) (h2 : m.wakeRawSince = s.mode.wakeRawSince)
    (h3 : m.wakeTaken = s.mode.wakeTaken) (h4 : m.workshop = s.mode.workshop)
    (h5 : m.running = none ∧ s.mode.running = none ∨ m.running.isSome ∧ s.mode.running.isSome)
    (h6 : m.power = .watch → s.mode.power = .watch) : Steady s (s.setMode m) :=
  ⟨.setPower s h1 h2 h3 h4 h5 h6, rfl, rfl⟩

theorem Steady.retireEntry {x : Source} (h : x = .stability ∨ x = .test) : Steady s (s.retireEntry x) :=
  ⟨.retireEntry s h, rfl, rfl⟩

theorem Steady.postStability {l : PerChannel Nat} (h : s.stability.state ≠ .idle) : Steady s (s.postStability l) := by
  refine ⟨.postStability s h, ?_, ?_⟩ <;> · unfold State.postStability State.postEntry; split <;> rfl

theorem Steady.liftSuppressions : Steady s s.liftSuppressions :=
  .mapChannels s _ (fun _ => rfl) (fun _ => rfl) (fun _ => rfl)

theorem Steady.retireStability : Steady s s.retireStability :=
  .after (.liftSuppressions _) (.retireEntry s (.inl rfl))

theorem Steady.stuIdle : Steady s s.stuIdle := by
  unfold State.stuIdle
  exact .after (LoadChange.rollEnds _).steady (.after (.retireStability _)
    (.setStability s (x := s.stability.quiet .idle) rfl (.inl rfl) (.inl rfl) (.inl rfl)))

theorem Steady.freeRecord (c : ChannelId) (f : ChannelRecord → ChannelRecord)
    (hd : ∀ r, (f r).deliveredSince = r.deliveredSince) (hi : ∀ r, (f r).inlet = r.inlet)
    (he : ∀ r, (f r).exhaust = r.exhaust) : Steady s (s.setChannel c (f (s.channel c))) :=
  .setChannel s (hd _) (.inr (.inl ⟨hi _, he _⟩))

theorem Steady.suppress (c : ChannelId) : Steady s (s.suppress c) :=
  .after (.freeRecord _ c (fun r => { r.freed with suppressed := true }) (fun _ => rfl) (fun _ => rfl) (fun _ => rfl))
    (.liftSuppressions s)

/-- An update of the STU's record from a state other than IDLE. -/
theorem Steady.setActing {x : Stability} (hs : s.stability.state ≠ .idle)
    (hn : x.lastNegative = s.stability.lastNegative) (hl : x.liveLimit = s.stability.liveLimit)
    (hf : x.frozen = none ∨ x.frozen = s.stability.frozen ∨ x.frozen = some s.stability.liveLimit) :
    Steady s (s.setStability x) :=
  .setStability s hn (.inr fun h => absurd h hs) (.inl hl) hf

theorem State.postStability_stability (l : PerChannel Nat) : (s.postStability l).stability = s.stability := by
  unfold State.postStability State.postEntry; split <;> rfl

theorem Steady.enterProbing {a : Int} (h : s.stability.state ≠ .idle) : Steady s (s.enterProbing a) := by
  unfold State.enterProbing
  have h0 : Steady s (s.setStability { s.stability with
      state := .probing, probeSince := some s.now, inner := some (innerChannel a) }) :=
    .setActing s h rfl rfl (.inr (.inl rfl))
  have h1 := LoadChange.after (.rollArrives _) (LoadChange.forceLower (s.setStability { s.stability with
      state := .probing, probeSince := some s.now, inner := some (innerChannel a) }))
  have hst := h1.stability
  simp only [State.setStability_stability] at hst
  dsimp only
  refine .ite (fun _ => ?_) fun _ => ?_
  · refine .after (.suppress _ _) (.after (.postStability _ ?_) (.after (.setActing _ ?_ rfl rfl (.inr (.inl rfl)))
      (.after h1.steady h0)))
    · rw [State.setStability_stability, hst]; simp
    · rw [hst]; simp
  · refine .after (.setActing _ ?_ rfl rfl (.inr (.inl rfl))) (.after h1.steady h0)
    rw [hst]; simp

theorem Steady.enterIntervening (h : s.stability.state ≠ .idle) : Steady s s.enterIntervening := by
  unfold State.enterIntervening
  dsimp only
  generalize hx : ({ s.stability with
    state := .intervening, frozen := some s.stability.liveLimit,
    pInt := some (interventionPressure s.stability.lr), inner := none, pulse := none, probeSince := none,
    exitSince := none, latSince := none } : Stability) = x
  have h0 : Steady s (s.setStability x) := by
    subst hx
    exact .setActing s h rfl rfl (.inr (.inr rfl))
  have h1 := LoadChange.after (.rollArrives _) (LoadChange.forceLower (s.setStability x))
  have hst : (s.setStability x).forceLower.rollArrives.liftSuppressions.stability = x := by
    rw [State.liftSuppressions, State.setChannels_stability, h1.stability, State.setStability_stability]
  have hact : x.state ≠ .idle := by rw [← hx]; simp
  refine .after (LoadChange.noteStabilityAction _ _).steady (.after (.postStability _ ?_) (.after
    (.setActing _ ?_ rfl rfl (.inr (.inl rfl))) (.after (.liftSuppressions _) (.after h1.steady h0))))
  · rw [State.setStability_stability, hst]; exact hact
  · rw [hst]; exact hact

theorem Steady.resumeIntervening (h : s.stability.state ≠ .idle) : Steady s s.resumeIntervening :=
  .after (LoadChange.rollArrives _).steady (.after (LoadChange.forceLower _).steady
    (.setActing s h rfl rfl (.inr (.inl rfl))))

theorem Steady.enterRecovering (h : s.stability.state ≠ .idle) : Steady s s.enterRecovering :=
  .setActing s h rfl rfl (.inr (.inl rfl))

theorem Steady.compareArmed (a : Int) (h : s.stability.state ≠ .idle) : Steady s (s.compareArmed a) := by
  unfold State.compareArmed
  refine .ite (fun _ => .enterIntervening s h) fun _ => .ite (fun _ => ?_) fun _ => .refl s
  split
  · exact .enterProbing s h
  · exact .ite (fun _ => .enterProbing s h) fun _ => .refl s

theorem Steady.takeWheelLift (c : ChannelId) : Steady s (s.takeWheelLift c) :=
  .ite (fun h => .enterIntervening s (by rw [h.1]; decide)) fun _ => .refl s

theorem Steady.takeDriverPart (c : ChannelId) : Steady s (s.takeDriverPart c) :=
  .ite (fun h => .after (.liftSuppressions _)
    (.setActing s (by rw [h.1]; decide) rfl rfl (.inr (.inl rfl)))) fun _ => .refl s

theorem Steady.takeLateral (a : Int) : Steady s (s.takeLateral a) := by
  unfold State.takeLateral
  split
  · exact .refl s
  · rename_i h; exact .compareArmed s a (by rw [h]; decide)
  · rename_i h; exact .ite (fun _ => .enterIntervening s (by rw [h]; decide)) fun _ => .refl s
  · rename_i h
    exact .ite (fun _ => .setActing s (by rw [h]; decide) rfl rfl (.inr (.inl rfl)))
      fun _ => .setActing s (by rw [h]; decide) rfl rfl (.inr (.inl rfl))
  · rename_i h; exact .ite (fun _ => .resumeIntervening s (by rw [h]; decide)) fun _ => .refl s

/-- An update of the STU's record that leaves its state. -/
theorem Steady.setSameState {x : Stability} (hs : x.state = s.stability.state)
    (hn : x.lastNegative = s.stability.lastNegative)
    (hl : x.liveLimit = s.stability.liveLimit ∨ 200 ≤ x.liveLimit ∧ x.liveLimit ≤ 700)
    (hf : x.frozen = s.stability.frozen) : Steady s (s.setStability x) := by
  by_cases h : s.stability.state = .idle
  · exact .setStability s hn (.inl (hs.trans h)) hl (.inr (.inl hf))
  · exact .setStability s hn (.inr fun k => absurd k h) hl (.inr (.inl hf))

theorem Steady.followLateralValidity : Steady s s.followLateralValidity := by
  unfold State.followLateralValidity
  refine .ite (fun h => ?_) fun _ => .refl s
  split
  · exact .setSameState s rfl rfl (.inl rfl) rfl
  · exact .setSameState s rfl rfl (.inl rfl) rfl
  · exact .refl s

theorem Steady.arm : Steady s s.arm := by
  refine .ite (fun h => ?_) fun _ => .refl s
  refine .setStability s rfl (.inr fun _ => ?_) (.inl rfl) (.inr (.inl rfl))
  have hi := h.2.1
  simp only [State.idleCondition, Bool.or_eq_false_iff, decide_eq_false_iff_not, ne_eq, Decidable.not_not] at hi
  refine ⟨?_, hi.1.2⟩
  cases hm : s.channels.mode
  · rfl
  · exact absurd hm hi.1.1.1

theorem Steady.followStates : Steady s s.followStates := by
  unfold State.followStates
  dsimp only
  split
  · exact .refl s
  · exact .ite (fun _ => .stuIdle s) fun _ => .refl s
  · exact .ite (fun _ => .stuIdle s) fun _ => .refl s
  · rename_i h
    exact .ite (fun _ => .stuIdle s) fun _ => .ite (fun _ => .enterRecovering s (by rw [h]; decide))
      fun _ => .followLateralValidity s
  · exact .ite (fun _ => .stuIdle s) fun _ => .refl s

theorem rolloverLimit_range (p : StabilityParameters) (lr d : Nat) :
    200 ≤ rolloverLimit p lr d ∧ rolloverLimit p lr d ≤ 700 := by
  unfold rolloverLimit clampInt
  split
  · omega
  · split <;> omega

theorem Steady.formLimit : Steady s s.formLimit := by
  unfold State.formLimit
  dsimp only
  have h : Steady s (s.setStability { s.stability with
      lr := s.loadRatioInUse, derate := s.tyreDerate,
      liveLimit := rolloverLimit s.settings.stability s.loadRatioInUse s.tyreDerate }) :=
    .setSameState s rfl rfl (.inr (rolloverLimit_range _ _ _)) rfl
  refine .ite (fun _ => h) fun _ => ?_
  split
  · rename_i hs _; exact .after (.compareArmed _ _ (by rw [hs]; decide)) h
  · exact h

theorem Steady.takeAccel : Steady s s.takeAccel := .setSameState s rfl rfl (.inl rfl) rfl

theorem Steady.followStability : Steady s s.followStability :=
  .after (.formLimit _) (.after (.followStates _) (.takeAccel s))

/-! ### Channels -/

/-- An update of a channel record that leaves its valves and its delivered-input measurement. -/
theorem Steady.setPlain {c : ChannelId} {r : ChannelRecord} (hd : r.deliveredSince = (s.channel c).deliveredSince)
    (hi : r.inlet = (s.channel c).inlet) (he : r.exhaust = (s.channel c).exhaust) : Steady s (s.setChannel c r) :=
  .setChannel s hd (.inr (.inl ⟨hi, he⟩))

theorem Steady.enterRelease (c : ChannelId) : Steady s (s.enterRelease c) :=
  .after (.takeWheelLift _ c) (.setPlain s rfl rfl rfl)

theorem Steady.enterHold (c : ChannelId) : Steady s (s.enterHold c) := .setPlain s rfl rfl rfl

theorem Steady.enterReapply (c : ChannelId) : Steady s (s.enterReapply c) := .setPlain s rfl rfl rfl

theorem Steady.freeChannel (c : ChannelId) : Steady s (s.freeChannel c) := .setPlain s rfl rfl rfl

theorem Steady.testActivity (c : ChannelId) : Steady s (s.testActivity c) :=
  .ite (fun _ => .refl s) fun _ => .freeChannel s c

theorem Steady.lockOnSlip (c : ChannelId) : Steady s (s.lockOnSlip c) := by
  unfold State.lockOnSlip
  refine .ite (fun _ => ?_) fun _ => .freeChannel s c
  dsimp only
  split
  · exact .ite (fun _ => .enterRelease s c) fun _ => .refl s
  · exact .ite (fun _ => .enterHold s c) fun _ => .refl s
  · exact .refl s
  · exact .ite (fun _ => .enterRelease s c) fun _ => .refl s

theorem Steady.lockOnTarget (c : ChannelId) : Steady s (s.lockOnTarget c) := by
  unfold State.lockOnTarget
  refine .ite (fun _ => ?_) fun _ => .freeChannel s c
  split
  · exact .ite (fun _ => .enterRelease s c) fun _ => .refl s
  · exact .ite (fun _ => .freeChannel s c) fun _ => .refl s
  · exact .ite (fun _ => .freeChannel s c) fun _ => .refl s
  · exact .ite (fun _ => .freeChannel s c) fun _ => .refl s

theorem Steady.rampCap (c : ChannelId) : Steady s (s.rampCap c) := by
  unfold State.rampCap
  dsimp only
  split
  · exact .ite (fun _ => .after (.freeChannel _ c) (.setPlain s rfl rfl rfl)) fun _ => .setPlain s rfl rfl rfl
  · exact .refl s
  · exact .refl s
  · exact .refl s

theorem Steady.followSlip (c : ChannelId) : Steady s (s.followSlip c) := by
  unfold State.followSlip
  dsimp only
  have h : Steady s (s.setChannel c { s.channel c with
      wheelSpeed := s.formedWheelSpeed c, slip := s.formedSlip c }) := .setPlain s rfl rfl rfl
  refine .ite (fun _ => h) fun _ => ?_
  have h1 := Steady.after (.lockOnSlip _ c) h
  split
  · exact .ite (fun _ => .after (.takeWheelLift _ c) h1) fun _ => h1
  · exact h1

theorem Steady.followSlips : Steady s s.followSlips :=
  .foldl (f := fun t c => (t.followSlip c).testActivity c) (fun t c => .after (.testActivity _ c) (.followSlip t c)) _ s

theorem State.drivesValves_modes {s : State} {c : ChannelId} (h : s.drivesValves c = true) :
    s.channels.mode = .electronic ∧ s.mode.power ≠ .watch := by
  simp only [State.drivesValves, Bool.and_eq_true, decide_eq_true_eq] at h
  exact h.1

theorem Steady.followValves (c : ChannelId) : Steady s (s.followValves c) := by
  unfold State.followValves
  dsimp only
  refine .after (.setPlain _ rfl rfl rfl) (.setChannel s ?_ ?_)
  · split <;> rfl
  · split
    · exact .inr (.inl ⟨rfl, rfl⟩)
    · exact .inl ⟨rfl, rfl⟩

theorem Steady.followRedundancy : Steady s s.followRedundancy :=
  .setRedundancy s fun h => by simpa using h

theorem Steady.followAllValves : Steady s s.followAllValves :=
  .after (.followRedundancy _) (.foldl Steady.followValves _ s)

theorem Steady.takeDelivered (c : ChannelId) (pm : Nat) : Steady s (s.takeDelivered c pm) := by
  unfold State.takeDelivered
  dsimp only
  refine .after (.rampCap _ c) (.setChannel s ?_ ?_)
  · split <;> rfl
  · split
    · exact .inr (.inr (State.drivesValves_modes ‹_›))
    · exact .inl ⟨rfl, rfl⟩

theorem Steady.clearSuspensions : Steady s s.clearSuspensions :=
  .mapChannels s _ (fun _ => rfl) (fun _ => rfl) (fun _ => rfl)

/-! ### Demands -/

theorem Settles.followMismatch : Settles s s.followMismatch := by
  unfold State.followMismatch
  refine .ite (fun _ => ?_) fun _ => .setDemands s rfl
  split
  · exact .ite (fun _ => .setDemands s rfl) fun _ => .refl s
  · exact .ite (fun _ => .refl s) fun _ => .setDemands s rfl
  · exact .ite (fun _ => .refl s) fun _ => .setDemands s rfl
  · exact .ite (fun _ => .setDemands s rfl) fun _ => .refl s

theorem Settles.followDriver : Settles s s.followDriver := by
  unfold State.followDriver
  have h : Settles s (s.setDemands { s.demands with driver := s.formedDriver }) := .setDemands s rfl
  exact .ite (fun _ => h) fun _ => .after (LoadChange.takeBraking _ _).settles h

theorem LoadChange.followRatio (g : GroupId) : LoadChange s (s.followRatio g) := .setGroup s (.inl rfl)

theorem Steady.followTarget (c : ChannelId) : Steady s (s.followTarget c) := by
  unfold State.followTarget
  dsimp only
  have h : Steady s (s.setChannel c { s.channel c with
      target := s.formedTarget c, driverPart := s.formedDriverPart c }) := .setPlain s rfl rfl rfl
  exact .after (.takeDriverPart _ c) (.ite (fun _ => h) fun _ => .after (.lockOnTarget _ c) h)

/-- R106 to R111: what follows P_d in the BDU's part of a round. -/
theorem Steady.followTargets : Steady s
    ((((((s.followRatio .g1).followRatio .g2).followTarget .chL).followTarget .chR).followTarget .chX)) :=
  .after (.followTarget _ _) (.after (.followTarget _ _) (.after (.followTarget _ _)
    (.after (LoadChange.followRatio _ _).steady (LoadChange.followRatio s _).steady)))

theorem Settles.followDemands : Settles s s.followDemands :=
  .after (Steady.followTargets _).settles (.after (.followDriver _) (.followMismatch s))

/-! ### Motion and power -/

theorem running_same (m : Mode) :
    m.running = none ∧ m.running = none ∨ m.running.isSome ∧ m.running.isSome := by
  cases m.running <;> simp

theorem Steady.enterRunOn : Steady s s.enterRunOn :=
  .setPower s rfl rfl rfl rfl (running_same _) (by simp)

theorem Steady.wake : Steady s s.wake := by
  unfold State.wake
  have h : Steady s (s.setMode { s.mode with power := .awake, awaited := true, runOnSince := none }) :=
    .setPower s rfl rfl rfl rfl (running_same _) (by simp)
  refine .ite (fun _ => .setPower s rfl rfl rfl rfl (running_same _) (by simp)) fun _ => ?_
  exact .ite (fun _ => .after (.enterRunOn _) h) fun _ => h

theorem Steady.enterMotion (m : Motion) : Steady s (s.enterMotion m) := by
  unfold State.enterMotion
  dsimp only
  have h : Steady s (s.setInputs { s.inputs with motion := m }) := .setInputs s rfl rfl
  cases m with
  | standstill =>
    have h1 := Steady.after (.clearSuspensions _) h
    dsimp only
    split
    · exact .ite (fun _ => .after (.enterRunOn _) h1) fun _ => h1
    · exact h1
    · exact h1
  | rolling => exact h
  | moving =>
    dsimp only
    split
    · exact h
    · exact .after (.setPower _ rfl rfl rfl rfl (running_same _) (by simp)) h
    · exact .after (.wake _) h

theorem Steady.takeMotion : Steady s s.takeMotion := by
  unfold State.takeMotion
  dsimp only
  have h : ∀ x, Steady s (s.setInputs { s.inputs with belowSince := x }) := fun _ => .setInputs s rfl rfl
  exact .ite (fun _ => h _) fun _ => .after (.enterMotion _ _) (h _)

theorem Steady.followReference : Steady s s.followReference := by
  unfold State.followReference
  dsimp only
  have h : Steady s (s.setInputs { s.inputs with reference := s.formedReference }) := .setInputs s rfl rfl
  refine .ite (fun _ => h) fun _ => ?_
  refine .after (LoadChange.foldl LoadChange.boundHeldUp _ _).steady
    (.after (LoadChange.foldl LoadChange.judgeLiftFault _ _).steady (.after (.takeMotion _) ?_))
  exact .ite (fun _ => .after (LoadChange.workshopOff _).steady h) fun _ => h

theorem Steady.followSupply : Steady s s.followSupply := by
  unfold State.followSupply
  dsimp only
  have h : Steady s (s.setInputs { s.inputs with supplyLow := s.supplyBelow }) := .setInputs s rfl rfl
  exact .ite (fun _ => .after (LoadChange.forceLower _).steady h) fun _ => h

/-! ### The whole -/

/-- What stands before the BDU in a round. -/
theorem Steady.roundStart : Steady s s.followReference.followSupply.testAllTyres :=
  .after (LoadChange.testAllTyres _).steady (.after (.followSupply _) (.followReference s))

theorem Steady.roundMiddle : Steady s s.followSlips.followStability := .after (.followStability _) (.followSlips s)

/-- What stands behind the BDU in a round. -/
theorem Steady.roundEnd : Steady s s.followReadiness.followBand.followLifts.followAllValves :=
  .after (.followAllValves _) (.after (LoadChange.followLifts _).steady (.after (LoadChange.followBand _).steady
    (LoadChange.followReadiness s).steady))

theorem Settles.round : Settles s s.round :=
  .after (Steady.roundEnd _).settles (.after (.followDemands _) (.after (Steady.roundMiddle _).settles
    (.after (.followDemands _) (Steady.roundStart s).settles)))

theorem Settles.followLevels : Settles s s.followLevels := .setNotices s { Notices.Grown.refl _ with }

theorem Settles.close : Settles s s.close :=
  .after (Steady.arm _).settles (.after (.followDemands _) (.after (.followDemands _) (Steady.followReference s).settles))

theorem State.settle_eq : s.settle = s.round.round.round.close.followLevels := rfl

/-- What the offers of a change never touch is as the change left it, and the laws are kept. -/
theorem Settles.settle : Settles s s.settle := by
  rw [State.settle_eq]
  exact .after (.followLevels _) (.after (.close _) (.after (.round _) (.after (.round _) (.round s))))

/-- What the offers of a change never touch. -/
theorem State.settle_offers : Offers s s.settle := (Settles.settle s).offers

/-! ### The driver demand and the mismatch record -/

theorem Offers.entry_same {s t : State} (h : Offers s t) {x : Source} (h1 : x ≠ .stability) (h2 : x ≠ .test) :
    t.entry x = s.entry x ∧ t.hasEntry x = s.hasEntry x ∧ t.sourcePressure x = s.sourcePressure x := by
  have := h.entries x h1 h2
  exact ⟨this, by simp [State.hasEntry, this], by simp [State.sourcePressure, this]⟩

theorem Offers.watched_same {s t : State} (h : Offers s t) :
    t.mismatchWatched = s.mismatchWatched ∧ t.demandGap = s.demandGap := by
  have hd := h.entry_same (x := .digital) (by decide) (by decide)
  have hp := h.entry_same (x := .pneumatic) (by decide) (by decide)
  have hc : t.pressureOf .ctl = s.pressureOf .ctl := by
    have ha : t.analog .ctl = s.analog .ctl := by rw [State.analog, h.analog, ← State.analog]
    unfold State.pressureOf State.offered
    rw [ha]
    rfl
  exact ⟨by simp [State.mismatchWatched, hd, hc], by simp [State.demandGap, hd, hp]⟩

/-- R95: P_d of equal entries and equal mismatch records is equal. -/
theorem Offers.formedDriver_same {s t : State} (h : Offers s t) (hm : t.demands.mismatch = s.demands.mismatch) :
    t.formedDriver = s.formedDriver := by
  have hd := h.entry_same (x := .digital) (by decide) (by decide)
  have hp := h.entry_same (x := .pneumatic) (by decide) (by decide)
  have hi : t.mismatchInForce = s.mismatchInForce := by rw [State.mismatchInForce, hm, ← State.mismatchInForce]
  rw [State.formedDriver, hd.2.1, hd.2.2, hp.2.2, hi, ← State.formedDriver]

/-- R95: after the BDU's part of a round P_d is as the entries and the mismatch record give it. -/
theorem State.followDriver_driver : s.followDriver.demands.driver = s.followDriver.formedDriver ∧
    s.followDriver.demands.mismatch = s.demands.mismatch := by
  have hset : Settles s (s.setDemands { s.demands with driver := s.formedDriver }) := .setDemands s rfl
  have hm : s.followDriver.demands.mismatch = s.demands.mismatch := by
    unfold State.followDriver
    dsimp only
    split
    · rfl
    · exact (LoadChange.takeBraking _ _).mismatch
  refine ⟨?_, hm⟩
  rw [(Settles.followDriver s).offers.formedDriver_same hm]
  unfold State.followDriver
  dsimp only
  split
  · rfl
  · exact (LoadChange.takeBraking _ _).driver

theorem State.followDemands_eq : s.followDemands =
    (((((s.followMismatch.followDriver.followRatio .g1).followRatio .g2).followTarget .chL).followTarget .chR).followTarget
      .chX) := rfl

theorem State.followDemands_driver : s.followDemands.demands.driver = s.followDemands.formedDriver ∧
    s.followDemands.demands.mismatch = s.followMismatch.demands.mismatch := by
  have h := Steady.followTargets s.followMismatch.followDriver
  obtain ⟨h1, h2⟩ := s.followMismatch.followDriver_driver
  rw [State.followDemands_eq, h.driver, h.mismatch, h.settles.offers.formedDriver_same h.mismatch]
  exact ⟨h1, h2⟩

theorem State.round_eq : s.round =
    s.followReference.followSupply.testAllTyres.followDemands.followSlips.followStability.followDemands.followReadiness.followBand.followLifts.followAllValves :=
  rfl

theorem State.round_driver : s.round.demands.driver = s.round.formedDriver := by
  rw [State.round_eq]
  generalize s.followReference.followSupply.testAllTyres.followDemands.followSlips.followStability = u
  have h : Steady u.followDemands u.followDemands.followReadiness.followBand.followLifts.followAllValves :=
    Steady.roundEnd u.followDemands
  rw [h.driver, h.settles.offers.formedDriver_same h.mismatch]
  exact (State.followDemands_driver u).1

theorem State.followLevels_demands : s.followLevels.demands = s.demands := rfl

theorem State.followLevels_formedDriver : s.followLevels.formedDriver = s.formedDriver := rfl

/-- R95: the end of a change leaves P_d as the entries and the mismatch record give it. -/
theorem State.close_driver : s.close.demands.driver = s.close.formedDriver := by
  unfold State.close
  generalize s.followReference.followDemands = u
  have h := Steady.arm u.followDemands
  rw [h.driver, h.settles.offers.formedDriver_same h.mismatch]
  exact (State.followDemands_driver u).1

/-- R95: after every settled change P_d is as the entries and the mismatch record give it. -/
theorem State.settle_driver : s.settle.demands.driver = s.settle.formedDriver := by
  rw [State.settle_eq, State.followLevels_demands, State.followLevels_formedDriver]
  exact State.close_driver _

/-- R96, R97: the mismatch record that the watch, the difference and the record before give. -/
def mismatchAfter (watched : Bool) (gap : Nat) (m : Mismatch) : Mismatch :=
  if watched then
    match m with
    | .agreed => if 80 < gap then .diverging else .agreed
    | .diverging => if 80 < gap then .diverging else .agreed
    | .inForce => if 80 < gap then .inForce else .converging
    | .converging => if 80 < gap then .inForce else .converging
  else .agreed

theorem State.followMismatch_eq : s.followMismatch.demands.mismatch =
    mismatchAfter s.mismatchWatched s.demandGap s.demands.mismatch := by
  unfold State.followMismatch mismatchAfter
  split
  · cases h : s.demands.mismatch <;> simp only <;> split <;> first | rfl | exact h
  · rfl

theorem mismatchAfter_idem (w : Bool) (g : Nat) (m : Mismatch) :
    mismatchAfter w g (mismatchAfter w g m) = mismatchAfter w g m := by
  unfold mismatchAfter
  by_cases h : 80 < g <;> cases w <;> cases m <;> simp [h]

theorem State.followDemands_mismatch (w : Bool) (g : Nat) (hw : s.mismatchWatched = w) (hg : s.demandGap = g) :
    s.followDemands.demands.mismatch = mismatchAfter w g s.demands.mismatch := by
  rw [(State.followDemands_driver s).2, State.followMismatch_eq, hw, hg]

theorem State.round_mismatch : s.round.demands.mismatch =
    mismatchAfter s.mismatchWatched s.demandGap s.demands.mismatch := by
  rw [State.round_eq]
  have h1 := Steady.roundStart s
  have o1 := h1.settles.offers.watched_same
  have hm := h1.mismatch
  generalize s.followReference.followSupply.testAllTyres = u at *
  have h3 := Steady.roundMiddle u.followDemands
  have o3 := ((h1.settles.trans (Settles.followDemands u)).trans h3.settles).offers.watched_same
  rw [(Steady.roundEnd _).mismatch, State.followDemands_mismatch _ _ _ o3.1 o3.2, h3.mismatch,
    State.followDemands_mismatch _ _ _ o1.1 o1.2, hm, mismatchAfter_idem]

theorem State.close_mismatch : s.close.demands.mismatch =
    mismatchAfter s.mismatchWatched s.demandGap s.demands.mismatch := by
  have h1 := Steady.followReference s
  have o1 := h1.settles.offers.watched_same
  have hm := h1.mismatch
  unfold State.close
  generalize s.followReference = u at *
  have o2 := (h1.settles.trans (Settles.followDemands u)).offers.watched_same
  rw [(Steady.arm _).mismatch, State.followDemands_mismatch _ _ _ o2.1 o2.2, State.followDemands_mismatch _ _ _ o1.1 o1.2,
    hm, mismatchAfter_idem]

/-- R96, R97: the mismatch record after a settled change. -/
theorem State.settle_mismatch : s.settle.demands.mismatch =
    mismatchAfter s.mismatchWatched s.demandGap s.demands.mismatch := by
  have o1 := (Settles.round s).offers.watched_same
  have o2 := ((Settles.round s).trans (Settles.round _)).offers.watched_same
  have o3 := (((Settles.round s).trans (Settles.round _)).trans (Settles.round _)).offers.watched_same
  rw [State.settle_eq, State.followLevels_demands, State.close_mismatch, State.round_mismatch, State.round_mismatch s.round,
    State.round_mismatch s, o1.1, o1.2, o2.1, o2.2, o3.1, o3.2, mismatchAfter_idem, mismatchAfter_idem, mismatchAfter_idem]

end Sys2Proof.Machine
end

