-- ==== Sys2Proof/Laws/Port.lean ====
section
/-! SUPPORT. One exchange with a request: what its reply is, from what the request's own rule answers (R156 to R158),
and what the reads tell. -/
namespace Sys2Proof.Machine

variable {s u : State} {dt code : Nat} {p : Params} {accepts : Nat → Bool} {own : State → State × Answer}
  {named : Named}

/-- R157: a request carried out whole. -/
theorem State.request_done {d : List Byte} (hc : p.count ≤ 28) (ha : accepts p.count = true)
    (ho : own (s.taken dt) = (u, .done d)) : (s.elapse dt).request code p accepts own named = u.answered code d := by
  have : (s.taken dt).answer p accepts own named = (u, .done d) := by simp [State.answer, hc, ha, ho]
  unfold State.request
  rw [show ((s.elapse dt).clockOut.endBatch.ageDetail) = s.taken dt from rfl, this]
  rfl

/-- R157, R158: a request carried out in part. -/
theorem State.request_stopped {d : List Byte} {n : Named} (hc : p.count ≤ 28) (ha : accepts p.count = true)
    (ho : own (s.taken dt) = (u, .stopped d n)) : (s.elapse dt).request code p accepts own named =
      u.setPort { u.port with
        reply := { code := code, status := .stopped, data := d }
        detail := some { request := code, refusal := none, named := n, later := false } } := by
  have : (s.taken dt).answer p accepts own named = (u, .stopped d n) := by simp [State.answer, hc, ha, ho]
  unfold State.request
  rw [show ((s.elapse dt).clockOut.endBatch.ageDetail) = s.taken dt from rfl, this]
  rfl

theorem State.reply_refused (s : State) (code : Nat) (c : RefusalCode) (n : Named) :
    s.reply code (.refused c n) = s.turnedAway code c n := by
  cases c <;> rfl

/-- R157, R158: a request refused by its own rule. -/
theorem State.request_refused {c : RefusalCode} {n : Named} (hc : p.count ≤ 28) (ha : accepts p.count = true)
    (ho : own (s.taken dt) = (u, .refused c n)) :
    (s.elapse dt).request code p accepts own named = u.turnedAway code c n := by
  have : (s.taken dt).answer p accepts own named = (u, .refused c n) := by simp [State.answer, hc, ha, ho]
  unfold State.request
  rw [show ((s.elapse dt).clockOut.endBatch.ageDetail) = s.taken dt from rfl, this]
  exact State.reply_refused _ _ _ _

/-- R157: a parameter count above 28, or one that the request does not accept. -/
theorem State.request_badCount (h : ¬(p.count ≤ 28 ∧ accepts p.count = true)) :
    (s.elapse dt).request code p accepts own named = (s.taken dt).turnedAway code .badParameter named := by
  have : (s.taken dt).answer p accepts own named = (s.taken dt, .refused .badParameter named) := by
    simp only [State.answer, Bool.and_eq_true, decide_eq_true_eq, if_neg h, State.refuse]
  unfold State.request
  rw [show ((s.elapse dt).clockOut.endBatch.ageDetail) = s.taken dt from rfl, this]
  rfl

/-- R147: a Stage Step with a count that no kind has spells no step. -/
theorem stepOf_of_badCount (h : stepCount p.count = false) : stepOf p = .error (unfitNamed p) := by
  have e : ∃ n, stepOf p = .error n := by
    simp only [stepCount, exactly, Bool.or_eq_false_iff, decide_eq_false_iff_not] at h
    unfold stepOf
    split
    · exact ⟨_, rfl⟩
    · split <;> simp [h.1.1, h.1.2, h.2]
  obtain ⟨n, e⟩ := e
  rw [e, unfitNamed, e]

/-- R156, R173: what is left of the port in an accepted Restart: the pending reply is clocked out, and NONE takes its
place. -/
@[simp] theorem State.clockOut_restartPort_port (s : State) : (s.clockOut.restartPort).port =
    { s.port with sent := s.port.reply, reply := .empty, detail := none, batchSize := 1, batch := .idle } := rfl

/-! ### What the reads tell of an input that no unit may act on -/

/-- R51, R52: an input that is not in use or not VALID is offered without a value. -/
theorem State.offered_eq_none {i : AnalogId} (h : s.analogInUse i = false ∨ (s.analog i).validity ≠ .valid) :
    s.offered i = none := by
  unfold State.offered
  rcases h with h | h <;> simp [h]

/-- R113: p_m is what the delivered input offers, absent where it offers nothing. -/
@[simp] theorem State.followValves_delivered (s : State) (c : ChannelId) :
    ((s.followValves c).channel c).delivered = s.pressureOf c.delivered := by
  simp only [State.followValves]
  split <;> simp

/-- R132: a is what LAT offers. -/
@[simp] theorem State.takeAccel_accel (s : State) : s.takeAccel.stability.accel = s.offered .lat := rfl

/-- 10.4: an absent value of two bytes reads FFFFh. -/
theorem opt2_none : opt2 none = [0xFF, 0xFF] := by decide

/-! ### What a request's own rule finds -/

@[simp] theorem State.taken_powered : (s.taken dt).powered = s.powered := rfl
@[simp] theorem State.taken_now : (s.taken dt).now = s.now + dt := rfl
@[simp] theorem State.taken_settings : (s.taken dt).settings = s.settings := rfl
@[simp] theorem State.taken_inputs : (s.taken dt).inputs = s.inputs := rfl
@[simp] theorem State.taken_tyres : (s.taken dt).tyres = s.tyres := rfl
@[simp] theorem State.taken_intake : (s.taken dt).intake = s.intake := rfl
@[simp] theorem State.taken_loads : (s.taken dt).loads = s.loads := rfl
@[simp] theorem State.taken_demands : (s.taken dt).demands = s.demands := rfl
@[simp] theorem State.taken_channels : (s.taken dt).channels = s.channels := rfl
@[simp] theorem State.taken_stability : (s.taken dt).stability = s.stability := rfl
@[simp] theorem State.taken_mode : (s.taken dt).mode = s.mode := rfl
@[simp] theorem State.taken_store : (s.taken dt).store = s.store := rfl
@[simp] theorem State.taken_pending : (s.taken dt).pending = s.pending := rfl
@[simp] theorem State.taken_port : (s.taken dt).port =
    { s.port with sent := s.port.reply, batch := .idle, detail := agedDetail s.port.detail } := rfl

end Sys2Proof.Machine
end

