-- ==== Sys2Proof/Laws/Tyres.lean ====
section
/-! SUPPORT. What the pair comparison and the evaluation of a record can do (R10, R15, R18). -/
namespace Sys2Proof.Machine

/-- R160: a set bit stands at its own place alone. -/
theorem bit_getLsbD {n : Nat} (h : n < 24) (i : Nat) : (bit n).getLsbD i = decide (i = n) := by
  rw [Bool.eq_iff_iff]
  simp only [bit, BitVec.getLsbD_shiftLeft, BitVec.getLsbD_one, Bool.and_eq_true, decide_eq_true_eq,
    Bool.not_eq_true', decide_eq_false_iff_not]
  omega

theorem pairNumber_lt (a : AxleId) (sd : Side) : pairNumber a sd < 24 := by cases a <;> cases sd <;> decide

variable (s : State)

/-- R18: the state a pair takes in a comparison hangs on its own state before, its members, the motion state and the pair
delta. -/
theorem comparedPair_congr {s t : State} {a : AxleId} {sd : Side} (hp : t.pair a sd = s.pair a sd)
    (hq : ∀ q, t.position q = s.position q) (hm : t.inputs.motion = s.inputs.motion)
    (hd : t.settings.pairDelta = s.settings.pairDelta) : t.comparedPair a sd = s.comparedPair a sd := by
  simp only [State.comparedPair, State.judgeable, State.silenceTimeout, hp, hq, hm, hd]
  rfl

/-- R18: what a comparison leaves of everything but its own pair and PAIR MISMATCH. -/
theorem comparePair_frame (a : AxleId) (sd : Side) :
    s.comparePair a sd = ((s.setTyres { s.tyres with pairs := (s.comparePair a sd).tyres.pairs }).setNotices
      { s.port.notices with pairMismatch := (s.comparePair a sd).port.notices.pairMismatch }) := by
  unfold State.comparePair
  split
  · rfl
  · dsimp only; split <;> rfl

theorem comparePair_pair (a : AxleId) (sd : Side) (b : AxleId) (e : Side) :
    (s.comparePair a sd).pair b e =
      if (b = a ∧ e = sd) ∧ s.pair a sd ≠ .notAPair then s.comparedPair a sd else s.pair b e := by
  unfold State.comparePair
  by_cases h : s.pair a sd = .notAPair
  · simp [h]
  · simp only [h, if_false, ne_eq, not_false_eq_true, and_true]
    split <;> exact State.setPair_pair ..

/-- R18: the comparison of one pair. -/
theorem comparePair_compared (a : AxleId) (sl : Slot) :
    s.PairsCompared (s.comparePair a sl.side) [.road a sl] := by
  have hf := comparePair_frame s a sl.side
  have hp := comparePair_pair s a sl.side
  refine ⟨?_, ?_, ?_⟩
  · intro b e hb hn
    simp only [List.mem_singleton, Position.road.injEq] at hb
    obtain ⟨rfl, rfl⟩ := hb
    rw [hp, if_pos ⟨⟨rfl, rfl⟩, hn⟩]
    refine (comparedPair_congr ?_ ?_ ?_ ?_).symm
    · rw [State.setPair_pair]; simp
    all_goals rw [hf]; intros; rfl
  · intro b e h
    rw [hp, if_neg]
    rintro ⟨⟨rfl, rfl⟩, hn⟩
    rcases h with h | h
    · exact hn h
    · exact h sl rfl (List.mem_singleton.2 rfl)
  · intro i
    by_cases hn : s.pair a sl.side = .notAPair
    · have : s.comparePair a sl.side = s := by simp [State.comparePair, hn]
      rw [this]; simp
    · have hm : (s.comparePair a sl.side).port.notices.pairMismatch =
          if s.comparedPair a sl.side = .mismatched ∧ s.pair a sl.side ≠ .mismatched then
            s.port.notices.pairMismatch ||| bit (pairNumber a sl.side) else s.port.notices.pairMismatch := by
        simp only [State.comparePair, hn, if_false]; split <;> rfl
      rw [hm]
      constructor
      · split
        · rename_i hc
          simp only [BitVec.getLsbD_or, Bool.or_eq_true, bit_getLsbD (pairNumber_lt a sl.side), decide_eq_true_eq]
          rintro (h | rfl)
          · exact .inl h
          · exact .inr ⟨a, sl.side, rfl, by rw [hp, if_pos ⟨⟨rfl, rfl⟩, hn⟩]; exact hc.1, hc.2⟩
        · exact .inl
      · rintro (h | ⟨b, e, rfl, h, k⟩)
        · split
          · simp [BitVec.getLsbD_or, h]
          · exact h
        · rw [hp] at h
          split at h
          · rename_i hc
            obtain ⟨⟨rfl, rfl⟩, -⟩ := hc
            rw [if_pos ⟨h, k⟩]
            simp [BitVec.getLsbD_or, bit_getLsbD (pairNumber_lt b sl.side)]
          · exact absurd h k

/-- R10 step 5, R18: the comparison of a position's pair. -/
theorem comparePairOf_compared (q : Position) : s.PairsCompared (s.comparePairOf q) [q] := by
  cases q with
  | road a sl => exact comparePair_compared s a sl
  | _ => exact ⟨fun _ _ h => by simp at h, fun _ _ _ => rfl, fun _ => by simp [State.comparePairOf]⟩

/-- R18: a comparison that starts from the pairs and the notice of another state. -/
theorem State.PairsCompared.from {s t u : State} {l : List Position} (h : t.PairsCompared u l)
    (hp : ∀ a sd, t.pair a sd = s.pair a sd) (hn : t.port.notices.pairMismatch = s.port.notices.pairMismatch) :
    s.PairsCompared u l :=
  ⟨fun a sl hl hs => by rw [← hp]; exact h.compared a sl hl (by rwa [hp]),
    fun a sd k => by rw [← hp]; exact h.kept a sd (by rwa [hp]), fun i => by rw [← hn]; simpa only [hp] using h.notice i⟩

theorem comparePairOf_frame (q : Position) :
    ∃ pairs m, s.comparePairOf q =
      (s.setTyres { s.tyres with pairs := pairs }).setNotices { s.port.notices with pairMismatch := m } := by
  cases q with
  | road a sl => exact ⟨_, _, comparePair_frame s a sl.side⟩
  | _ => exact ⟨s.tyres.pairs, s.port.notices.pairMismatch, rfl⟩

/-- R10, R15, R18: the evaluation of a bound record. -/
theorem evaluate_evaluated (q : Position) (h : (s.position q).state.isBound = true) :
    s.Evaluated (s.evaluate q) q (s.position q) := by
  have he : s.evaluate q =
      ((s.setPosition q (s.evaluatedRecord q)).noteLevels q (s.position q)).comparePairOf q := by
    simp [State.evaluate, h]
  have hv : ∀ t : State, t = (s.setPosition q (s.evaluatedRecord q)).noteLevels q (s.position q) →
      t.tyres = (s.setPosition q (s.evaluatedRecord q)).tyres ∧ t.loads = s.loads ∧ t.settings = s.settings ∧
      t.port.notices.pairMismatch = s.port.notices.pairMismatch ∧
      t.port.notices.tyreLevel = s.port.notices.tyreLevel |||
        (if (s.evaluatedRecord q).levels = (s.position q).levels then 0 else bit q.index) := by
    rintro _ rfl
    unfold State.noteLevels
    rw [State.setPosition_position, if_pos rfl]
    split
    · exact ⟨rfl, rfl, rfl, rfl, by simp⟩
    · exact ⟨rfl, rfl, rfl, rfl, rfl⟩
  obtain ⟨h1, h2, h3, h4, h5⟩ := hv _ rfl
  generalize (s.setPosition q (s.evaluatedRecord q)).noteLevels q (s.position q) = t at he h1 h2 h3 h4 h5
  obtain ⟨pairs, m, hf⟩ := comparePairOf_frame t q
  have hc := comparePairOf_compared t q
  rw [← he] at hc hf
  have hq : (s.evaluate q).position q = s.evaluatedRecord q := by
    rw [hf]
    simp only [State.position, State.setNotices_tyres, State.setTyres_tyres, h1]
    exact State.setPosition_position_self s q (s.evaluatedRecord q)
  have hset : (s.evaluate q).setpointAt q = s.setpointAt q := by
    have hl : (s.evaluate q).loads = s.loads := by rw [hf]; exact h2
    cases q <;> simp only [State.setpointAt, State.loadRatioAt, State.axle, State.group, hl, hq] <;> rfl
  have hs : (s.evaluate q).settings = s.settings := by rw [hf]; exact h3
  refine ⟨⟨?_, ?_, ?_⟩, ?_, hc.from (fun a sd => ?_) h4⟩
  · rw [hq, hset]; rfl
  · rw [hq, hset]; rfl
  · rw [hq, hs]; rfl
  · rw [State.levelBit, hq, hf]; exact h5
  · simp only [State.pair, h1]; rfl

end Sys2Proof.Machine
end

