-- ==== Sys2Proof/Tests/Slice0.lean ====
section
/-! SUPPORT. The model's own tests: the checks of WellFormed, single steps and formulas from the manual's worked figures and
sequences, and for each statement with hypotheses a state and operands that meet them, clause by clause. -/
namespace Sys2Proof.Tests
open Sys2Proof.Machine

-- The kernel evaluates these tests one after another: left to wait in parallel, each would hold a thread of its own.
set_option Elab.async false

/-! ### Helpers -/

/-- A request's parameters. -/
def params (l : List Nat) : Params := ⟨l.length, l.map (BitVec.ofNat 8)⟩

/-- The reset state with one waiting command. -/
def asked (i : Instr) : State := State.reset.setPending [i]

/-- The state a command leads to. -/
def after (i : Instr) (s : State) : State :=
  match exec i s with
  | .next t => t
  | .fault _ => s
  | .refused _ => s

/-- The reset state in the workshop's READY. -/
def ready : State := State.reset.setMode { State.reset.mode with workshop := .ready }

/-- The reset state in WATCH. -/
def watching : State := State.reset.setMode { State.reset.mode with power := .watch }

/-- The reset state in RUN-ON since time 0, the wake line LOW. -/
def resting : State := State.reset.setMode (.fresh 0 false)

def bound1 : Binding := ⟨0x5A01C3E7#32, .valve⟩

/-- The reset state with A1 LO bound to `bound1` and LIVE at a pressure. -/
def live (kPa : Nat) : State :=
  State.reset.setPosition (.road .a1 .lo)
    { State.reset.position (.road .a1 .lo) with
      state := .live, bound := some bound1, pressure := some kPa, temperature := some 20, age := some 0 }

def candidate1 : Candidate :=
  { bound := ⟨0x22334455#32, .rim⟩, firstHeard := 5, age := 3, sightings := 2, sinceSighting := none,
    pressure := some 790, ready := false }

/-- The reset state with one candidate. -/
def listed : State := State.reset.setIntake { State.reset.intake with candidates := [candidate1] }

def trigger1 : Trigger :=
  { bound := bound1, arrival := 0, pressure := some 780, temperature := some 18, fastLoss := false, batteryLow := false }

/-- The reset state with the learn window open on A1 LO. -/
def learning (x : Option Trigger) : State :=
  (State.reset.setPosition (.road .a1 .lo) (State.reset.position (.road .a1 .lo)).targeted).setIntake
    { State.reset.intake with window := some ⟨.road .a1 .lo, 0, x⟩ }

/-- A telegram laid out by R29: kind 01, 780 kPa, 18 °C, TRIGGERED. -/
def telegramBytes : List Byte :=
  [0x5A#8, 0x01#8, 0xC3#8, 0xE7#8, 0x01#8, 0x03#8, 0x0C#8, 0x44#8, 0x80#8, 0x4C#8]

/-- A state whose receiver line holds ten characters that ended at time 0. -/
def received (s : State) (chars : List Byte) : State :=
  s.setIntake { s.intake with rx := ⟨true, chars, false, 0⟩ }

/-- An analog input that is VALID at an average. -/
def steady (v : Int) : AnalogInput := ⟨[v, v, v, v], some v, .valid, 4⟩

/-- A state with an analog input VALID at an average. -/
def withInput (s : State) (i : AnalogId) (v : Int) : State := s.setAnalog i (steady v)

/-- A state whose input, VALID at 300, took a conversion out of band. -/
def fallenInput (i : AnalogId) : State := after (.conversion 5000 i 100) (withInput State.reset i 300)

/-- A state with A3 liftable and AUTO, in a lift state. -/
def lifting (s : State) (x : LiftState) : State :=
  s.setAxle .a3 { s.axle .a3 with
    layout := { (s.axle .a3).layout with liftable := true }, mode := .auto, lift := x }

/-- The reset state with the STU in a state. -/
def stuIn (x : StuState) : State := State.reset.setStability { State.reset.stability with state := x }

/-- The reset state with a fault detail held. -/
def detailed (later : Bool) : State :=
  State.reset.setPort { State.reset.port with detail := some ⟨0x50, some .badParameter, unnamed, later⟩ }

/-- The reset state with a batch read. -/
def reading (b : BatchRead) : State := listed.setPort { listed.port with batch := b }

/-- The reset state with seven latched kinds pending. -/
def noticed : State :=
  State.reset.setNotices { State.reset.port.notices with
    tyreLevel := 1, pairMismatch := 1, sensorSilent := 1, positionsRetired := 1, candidateReady := true, liftChange := 1 }

/-- The reset state with A3 liftable and AUTO, every load light, SUP VALID and the raise measurement of G1 started. -/
def raising (kPa : Nat) (braking : Bool) : State :=
  let s := withInput (lifting State.reset .down) .sup kPa
  (s.setGroup .g1 { s.group .g1 with
    status := .valid, holdStart := false, w := 300, l := 76, raiseSince := some 0 }).setDemands
      { s.demands with braking := braking }

/-- The reset state with a channel's lock-release state. -/
def locking (x : Lock) (slip : Option Nat) : State :=
  State.reset.setChannel .chL { State.reset.channel .chL with lock := x, slip := slip, target := 300 }

/-- A part with an image saved. -/
def saved : State := ready.setStore ⟨some (programmed ready.snapshot), true, none⟩

/-- A part in SAVING. -/
def saving : State := State.reset.setStore ⟨none, false, some ⟨State.reset.snapshot, 0⟩⟩

/-- The reset state in FALLBACK. -/
def fallen : State :=
  State.reset.setChannels { State.reset.channels with mode := .fallback, cause := some .controlInvalid, redundancy := false }

/-- READY with a staged step. -/
def staged (x : Step) : State := ready.setMode { ready.mode with staged := some x }

/-- STEP RUNNING with a running step. -/
def running (x : Step) (inBand : Bool) : State :=
  ready.setMode { ready.mode with workshop := .stepRunning, running := some ⟨x, 0, inBand, 0⟩ }

/-! ### WellFormed refuses the ill-formed -/

theorem test_wf_refuses_count : (Instr.noOperation 0 ⟨256, List.replicate 28 0#8⟩).wf = false := by decide
theorem test_wf_refuses_bytes : (Instr.noOperation 0 ⟨0, List.replicate 27 0#8⟩).wf = false := by decide
theorem test_wf_refuses_known_code : (Instr.unknownRequest 0 0x50#8).wf = false := by decide
theorem test_wf_refuses_millivolts : (Instr.conversion 0 .ctl 5001).wf = false := by decide
theorem test_wf_accepts : (Instr.noOperation 0 ⟨0, List.replicate 28 0#8⟩).wf = true ∧
    (Instr.unknownRequest 0 0x77#8).wf = true ∧ (Instr.conversion 0 .ctl 5000).wf = true := by decide

/-! ### Worked figures of the manual -/

/-- Chapter 1, R11 and R12. -/
theorem test_expected_pressure : effectiveSetpoint 850 (some 650) 600 = 770 ∧ effectiveSetpoint 850 (some 650) 0 = 650 ∧
    expectedPressure 770 (some 50) = 859 ∧ pressureRatio 700 859 = 814 := by decide

/-- Chapter 1.5: the levels of A3 LI through the day. -/
theorem test_levels_of_a_day : levelAtRatio .none 814 = .lowAdvisory ∧ levelAtRatio .lowAdvisory 803 = .lowAdvisory ∧
    levelAtRatio .lowAdvisory 791 = .lowWarning ∧ levelAtRatio .lowWarning 803 = .lowWarning ∧
    levelAtRatio .lowWarning 950 = .none := by decide

/-- Chapter 3: conversions, and R57: a last edge 400 ms ago. -/
theorem test_conversions : convertedValue .sup 3600 = 775 ∧ convertedValue .lat 2884 = 384 ∧
    toothSpeed 3200 100 400000 = 2 := by decide

/-- Chapter 4, R68. -/
theorem test_load : loadW defaultCalibration 290 = 640 ∧ loadL defaultCalibration 640 = 600 ∧
    loadW defaultCalibration 45 = 242 ∧ loadL defaultCalibration 242 = 0 := by decide

/-- Chapter 6.6. -/
theorem test_load_dependent : brakeRatio 400 600 = 760 ∧ loadDependent 60 760 400 = 318 ∧
    loadDependent 60 760 1000 = 774 ∧ loadDependent 60 400 1000 = 436 := by decide

/-- Chapter 8, the figures of R131. -/
theorem test_rollover_limit : rolloverLimit defaultSettings.stability 0 0 = 499 ∧
    rolloverLimit defaultSettings.stability 600 0 = 384 ∧ rolloverLimit defaultSettings.stability 600 50 = 334 ∧
    probeThreshold 384 = 230 ∧ exitThreshold 384 = 192 := by decide

/-! ### Single steps -/

/-- R157: the reply waits for the next exchange. -/
theorem test_noOperation : (after (.noOperation 0 (params [])) State.reset).port.reply = ⟨1, .done, []⟩ := by decide

/-- R157: an unknown code, and the count of No Operation. -/
theorem test_refusals : (after (.unknownRequest 0 0x77#8) State.reset).port.reply = ⟨0x77, .refused, [1]⟩ ∧
    (after (.noOperation 0 (params [0])) State.reset).port.reply = ⟨1, .refused, [2]⟩ := by decide

/-- R95: a posted demand is P_d; the answer to 318 kPa. -/
theorem test_postDemand : (after (.postDemand 0 (params [0x01, 0x3E])) State.reset).demands.driver = 318 ∧
    (after (.postDemand 0 (params [0x01, 0x3E])) State.reset).port.reply = ⟨0x50, .done, [0x01, 0x3E, 0]⟩ := by
  decide +kernel

/-- R98: a demand of 19 is no braking, one of 20 is. -/
theorem test_braking_bound : (after (.postDemand 0 (params [0, 19])) State.reset).demands.braking = false ∧
    (after (.postDemand 0 (params [0, 20])) State.reset).demands.braking = true := by decide +kernel

/-- Chapter 1.6: the write stops at the position that does not exist. -/
theorem test_writeSetpoints_stops :
    (after (.writeSetpoints 0 (params [4, 6, 3, 0x52, 0, 0, 0, 0, 0, 0, 3, 0x84, 0, 0]))
      (State.reset.setAxle .a2 { State.reset.axle .a2 with
        layout := { (State.reset.axle .a2).layout with dual := false } })).port.reply = ⟨0x26, .stopped, [5, 5]⟩ := by
  decide +kernel

/-- R24: a retired sensor's record is EMPTY, and its TYRE LEVEL bit stays clear at level NONE. -/
theorem test_retire : ((after (.retireSensor 0 (params [0])) (live 800)).position (.road .a1 .lo)).state = .empty ∧
    (after (.retireSensor 0 (params [0])) (live 800)).port.notices.tyreLevel = 0 := by decide +kernel

/-- R38: the confirmation binds the sensor. -/
theorem test_learned :
    ((after (.learnConfirmation 2000000) (learning (some trigger1))).position (.road .a1 .lo)).state = .live ∧
    (after (.learnConfirmation 2000000) (learning (some trigger1))).port.notices.learnResult =
      some (.done, .road .a1 .lo) := by decide +kernel

/-- R37, R28: a triggered telegram becomes the pending trigger. -/
theorem test_triggered :
    ((after (.telegramArrival 1100) (received (learning none) telegramBytes)).intake.window.bind
      LearnWindow.trigger).map Trigger.pressure = some (some 780) := by decide +kernel

/-- R51: three in-band conversions are no average yet, and the fourth makes the input VALID. -/
theorem test_fourth_conversion :
    ((after (.conversion 0 .ctl 900) (State.reset.setAnalog .ctl ⟨[100, 100, 100], none, .starting, 3⟩)).analog .ctl) =
      ⟨[100, 100, 100, 100], some 100, .valid, 4⟩ := by decide +kernel

/-- R91: at 14 no PNEUMATIC entry is created, at 15 one is. -/
theorem test_pneumatic_bound : (State.reset.takeControl 14).hasEntry .pneumatic = false ∧
    (State.reset.takeControl 15).hasEntry .pneumatic = true := by decide

/-- R92: SUP below 450 creates the EMERGENCY entry, and 500 retires it. -/
theorem test_emergency_bounds : (State.reset.takeSupply 450).hasEntry .emergency = false ∧
    (State.reset.takeSupply 449).hasEntry .emergency = true ∧
    ((State.reset.takeSupply 449).takeSupply 499).hasEntry .emergency = true ∧
    ((State.reset.takeSupply 449).takeSupply 500).hasEntry .emergency = false := by decide +kernel

/-- Chapter 9.4: Enter Workshop passes on to READY in the same change. -/
theorem test_enterWorkshop :
    (after (.enterWorkshop 0 (params []))
      (State.reset.setInputs { State.reset.inputs with motion := .standstill })).mode.workshop = .ready := by
  decide +kernel

/-- Chapter 9.4: the band measurement faults the step, and the next Run Step is refused. -/
theorem test_band_fault :
    (after (.bandMeasurement 2000000) (running (.channelPressure none 600 3) false)).mode.cause = some .outOfBand ∧
    (after (.runStep 0 (params []))
      (after (.bandMeasurement 2000000) (running (.channelPressure none 600 3) false))).port.reply =
        ⟨0x63, .refused, [3]⟩ := by decide +kernel

/-- R123: CTL INVALID for 500 ms brings FALLBACK. -/
theorem test_fallback :
    (after (.controlInvalid 500000)
      (State.reset.setChannels { State.reset.channels with controlSince := some 0 })).channels.mode = .fallback := by
  decide +kernel

/-- R74: a lowered axle arrives at DOWN. -/
theorem test_lowered : ((after (.lowerComplete 2000000 .a3) (lifting State.reset .lowering)).axle .a3).lift = .down ∧
    (after (.lowerComplete 2000000 .a3) (lifting State.reset .lowering)).port.notices.liftChange = 4#24 := by
  decide +kernel

/-- R160: at reset STORE INVALID is pending and ATTN is asserted. -/
theorem test_attn_at_reset : State.reset.attn = true ∧ State.reset.port.notices.mask = 0x80000#20 := by decide +kernel

/-- R161: the fetch clears it. -/
theorem test_fetchNotices : (after (.fetchNotices 0 (params [])) State.reset).attn = false ∧
    (after (.fetchNotices 0 (params [])) State.reset).port.reply = ⟨0x10, .done, [8, 0, 0, 20, 0, 0, 0]⟩ := by
  decide +kernel

/-- R170: the part without supply takes no request. -/
theorem test_no_supply : (after (.noOperation 7 (params [])) (after (.lossOfSupply 0) State.reset)).port =
    State.reset.port := by decide +kernel

/-! ### States and operands that meet the hypotheses of the statements, clause by clause -/

theorem witness_StepTakesTheFrontCommand : State.reset.pending = [] := rfl

theorem witness_FramesSpellTheirRequests :
    (⟨2, List.replicate 28 0#8⟩ : Params).wf = true ∧
    requestOfCode 0x50 0 ⟨2, List.replicate 28 0#8⟩ = some (.postDemand 0 ⟨2, List.replicate 28 0#8⟩) ∧
    (requestParts (commandOfExchange 0 (requestFrame 0x50 ⟨2, List.replicate 28 0#8⟩))).isSome = true := by decide +kernel

/-- A frame of a request and one of an unknown request; data that fill a reply. -/
theorem witness_FramesAreJudgedAndFormed :
    requestParts (commandOfExchange 0 (requestFrame 0x50 ⟨2, List.replicate 28 0#8⟩)) =
      some (0x50, ⟨2, List.replicate 28 0#8⟩) ∧
    commandOfExchange 0 (requestFrame 0x77 ⟨0, List.replicate 28 0#8⟩) = .unknownRequest 0 0x77#8 ∧
    (List.replicate 27 0#8 : List Byte).length ≤ 27 := by decide +kernel

theorem reset_limits : State.reset.limitLaw ∧ State.reset.loadLaw :=
  ⟨⟨by decide, fun _ h => (nomatch h)⟩, fun g => by cases g <;> decide⟩

theorem witness_LimitsAndLoadRatiosStayInRange :
    ∃ t, (asked (.ageCount 1)).limitLaw ∧ (asked (.ageCount 1)).loadLaw ∧ step (asked (.ageCount 1)) = .next t :=
  ⟨_, reset_limits.1, reset_limits.2, rfl⟩

theorem reset_pressures : State.reset.pressureLaw where
  driver := nofun
  emergency := nofun
  listed := nofun
  control := ⟨nofun, nofun, by decide, by decide⟩
  staged := nofun
  ratio := by decide
  pressure := by decide
  target := nofun
  ramp := nofun

theorem witness_TableAndCandidatesStayWithinBounds :
    ∃ t, (asked (.ageCount 1)).entryLaw ∧ (asked (.ageCount 1)).candidateLaw ∧ (asked (.ageCount 1)).pressureLaw ∧
      (asked (.ageCount 1)).loadLaw ∧ step (asked (.ageCount 1)) = .next t :=
  ⟨_, List.nodup_nil, ⟨Nat.zero_le 16, List.nodup_nil⟩, { reset_pressures with }, reset_limits.2, rfl⟩

/-- An intervention with its entry posted and its ramp running, every axle DOWN, and one waiting command. -/
def intervening : State :=
  ((asked (.ageCount 1)).setStability { State.reset.stability with
    state := .intervening, frozen := some 333, pInt := some 600, pressure := 200
    ramp := some { up := true, start := 200, since := 0 } }).postStability (evenly 200)

/-- The laws with a STABILITY entry in the table, and with the workshop record in READY. -/
theorem witness_ModesStayLawful :
    (∃ t, intervening.ModeLaws ∧ intervening.hasEntry .stability = true ∧ step intervening = .next t) ∧
      ready.ModeLaws ∧ ready.mode.workshop ≠ .off := by
  refine ⟨⟨_, ⟨⟨nofun, fun _ => ⟨rfl, rfl⟩, nofun⟩, nofun, ⟨fun _ => rfl, fun _ => rfl, fun _ a => ?_, fun h => absurd rfl h⟩,
    fun _ a _ => ?_⟩, rfl, rfl⟩, ⟨⟨nofun, fun _ => ⟨rfl, rfl⟩, nofun⟩, nofun, ⟨nofun, nofun, nofun, fun _ => rfl⟩, nofun⟩, by decide⟩
  · cases a <;> rfl
  · cases a <;> decide

theorem reset_record (p : Position) : State.reset.position p = .unbound 800 none := by
  rcases p with ⟨a, sl⟩ | _ | _ <;> first | (cases a <;> cases sl <;> rfl) | rfl

theorem reset_binding : State.reset.bindingLaw ∧ State.reset.learnLaw :=
  ⟨fun p => by rw [reset_record]; rfl,
    fun p => by rw [reset_record]; exact ⟨fun h => (nomatch h), fun ⟨_, h, _⟩ => (nomatch h)⟩⟩

theorem reset_tableLaws : State.reset.TableLaws where
  binding := reset_binding.1
  learn := reset_binding.2
  exist := fun p _ => by rw [reset_record]; rfl
  id := ⟨fun p _ _ h => by rw [reset_record] at h; exact (nomatch h), fun p _ _ h => by
    rw [reset_record] at h; exact (nomatch h)⟩
  image := fun _ h => (nomatch h)
  snapshot := fun _ h => (nomatch h)

theorem witness_TableStaysLawful : ∃ t, (asked (.ageCount 1)).TableLaws ∧ step (asked (.ageCount 1)) = .next t :=
  ⟨_, { reset_tableLaws with }, rfl⟩

theorem default_inRange : defaultSettings.InRange := by
  constructor <;> first | decide | (intro g; cases g <;> decide)

theorem reset_rangeLaws : State.reset.RangeLaws where
  settings := default_inRange
  setpoints := fun p => by rw [reset_record]; exact ⟨by decide, fun _ h => (nomatch h)⟩
  image := fun _ h => (nomatch h)
  snapshot := fun _ h => (nomatch h)
  batch := .inl rfl

theorem witness_ParametersStayInRange : ∃ t, (asked (.ageCount 1)).RangeLaws ∧ step (asked (.ageCount 1)) = .next t :=
  ⟨_, { reset_rangeLaws with }, rfl⟩

theorem reset_formed : State.reset.formedLaw := ⟨by decide, fun g => by cases g <;> decide, fun _ h => (nomatch h)⟩

theorem witness_DriverDemandAndRatiosStayFormed :
    ∃ t, (asked (.ageCount 1)).formedLaw ∧ step (asked (.ageCount 1)) = .next t := ⟨_, reset_formed, rfl⟩

theorem witness_EveryCommandEnds :
    (after (.lossOfSupply 0) State.reset).powered = false ∧ ∀ dt w x, Instr.ageCount 1 ≠ .powerOn dt w x :=
  ⟨rfl, fun _ _ _ h => (nomatch h)⟩

/-- No watch; a watch with a gap of 81; a watch with a gap of 80. -/
theorem witness_SettlingFormsTheDriverDemand :
    State.reset.mismatchWatched = false ∧
    ((withInput State.reset .ctl 0).postEntry .digital (.whole 81)).mismatchWatched = true ∧
    80 < ((withInput State.reset .ctl 0).postEntry .digital (.whole 81)).demandGap ∧
    ((withInput State.reset .ctl 0).postEntry .digital (.whole 80)).mismatchWatched = true ∧
    ((withInput State.reset .ctl 0).postEntry .digital (.whole 80)).demandGap ≤ 80 := by decide +kernel

theorem witness_OnlyWritesChangeTheConfiguration : ∃ t, exec (.ageCount 1) State.reset = .next t ∧
    writesSettings (.ageCount 1) = false ∧ writesLayout (.ageCount 1) = false ∧
    writesSetpoints (.ageCount 1) = false ∧ writesStore (.ageCount 1) = false := ⟨_, rfl, rfl, rfl, rfl, rfl⟩

theorem witness_OnlyBindingCommandsBind : ∃ t, State.reset.bindingLaw ∧ State.reset.learnLaw ∧
    exec (.ageCount 1) State.reset = .next t ∧ writesBindings (.ageCount 1) = false :=
  ⟨_, reset_binding.1, reset_binding.2, rfl, rfl⟩

/-- The entry into FALLBACK, a stay in it, the return from it, and the entry into WATCH. -/
theorem witness_ModesChangeByTheirCauses :
    (∃ s t, exec (.controlInvalid 500000) s = .next t ∧ s.channels.mode = .electronic ∧ t.channels.mode = .fallback) ∧
    (∃ t, exec (.ageCount 1) fallen = .next t ∧ fallen.channels.mode = .fallback ∧ t.channels.mode = .fallback) ∧
    (∃ s t, exec (.clearBrakeFault 0 (params [])) s = .next t ∧ s.channels.mode = .fallback ∧
      t.channels.mode = .electronic) ∧
    ∃ s t, exec (.runOnExpiry 60000000) s = .next t ∧ s.mode.power ≠ .watch ∧ t.mode.power = .watch :=
  ⟨⟨State.reset.setChannels { State.reset.channels with controlSince := some 0 }, _, rfl, rfl, by decide +kernel⟩,
    ⟨_, rfl, rfl, by decide +kernel⟩,
    ⟨ready.setChannels fallen.channels, _, rfl, rfl, by decide +kernel⟩,
    ⟨resting, _, rfl, by decide, by decide +kernel⟩⟩

/-- WATCH left by the wake line, by a Restart and by a power-on; and by the entry into MOVING, at
an edge of a wheel of A1. -/
theorem witness_ModesChangeByTheirCauses_wake : watching.asleepLaw ∧
    (∃ s t, exec (.wakeLineLevel 50000) s = .next t ∧ s.mode.power = .watch ∧ t.mode.power ≠ .watch) ∧
    (∃ t, exec (.restart 0 (params [])) watching = .next t ∧ watching.mode.power = .watch ∧ t.mode.power ≠ .watch) ∧
    (∃ t, exec (.powerOn 0 true ⟨true, true, true, true, true, true⟩) watching = .next t ∧ t.mode.power ≠ .watch) ∧
    ∃ s t, exec (.wheelEdge 10000 .s1) s = .next t ∧ s.mode.power = .watch ∧ s.inputs.motion ≠ .moving ∧
      t.inputs.motion = .moving ∧ t.mode.power ≠ .watch :=
  ⟨fun _ => ⟨fun a => by cases a <;> rfl, fun g => by cases g <;> rfl⟩,
    ⟨watching.setMode { watching.mode with wakeTaken := false, wakeRaw := true, wakeRawSince := 0 }, _, rfl, rfl,
      by decide +kernel⟩,
    ⟨_, rfl, rfl, by decide +kernel⟩, ⟨_, rfl, by decide +kernel⟩,
    ⟨watching.setWheel .s1 { watching.wheel .s1 with valid := true, lastEdge := some 0 }, _, rfl, rfl, by decide +kernel,
      by decide +kernel, by decide +kernel⟩⟩

theorem witness_ExchangesClockTheReplyOut : ∃ t u, State.reset.powered = true ∧
    exec (.noOperation 0 (params [])) State.reset = .next t ∧ isExchange (.noOperation 0 (params [])) = true ∧
    exec (.ageCount 1) State.reset = .next u ∧ isExchange (.ageCount 1) = false ∧
    ∀ dt w x, Instr.ageCount 1 ≠ .powerOn dt w x :=
  ⟨_, _, rfl, rfl, rfl, rfl, rfl, fun _ _ _ h => (nomatch h)⟩

theorem witness_ExchangesClockTheReplyOut_restart : ∃ t, State.reset.powered = true ∧
    exec (.restart 0 (params [])) State.reset = .next t ∧ isExchange (.restart 0 (params [])) = true ∧
    (params []).count = 0 ∧ State.reset.store.saving = none := ⟨_, rfl, rfl, rfl, rfl, rfl⟩

/-- R156: a Restart's exchange clocks out the reply to the Post Demand before it, and the next one returns NONE. -/
theorem test_restart_clocks_the_post_out :
    let t := after (.restart 0 (params [])) (State.reset.answered 0x50 [0, 200, 0])
    t.port.sent = { code := 0x50, status := .done, data := [0, 200, 0] } ∧ t.port.reply = .empty := by decide +kernel

theorem witness_EntriesFollowTheirOwnSource : ∃ t, exec (.digitalTimeout 0) State.reset = .next t ∧
    Source.pneumatic ≠ .stability ∧ Source.pneumatic ≠ .test ∧ writesEntry .pneumatic (.digitalTimeout 0) = false :=
  ⟨_, rfl, by decide, by decide, rfl⟩

/-- A spare; a road position without and with a light setpoint; the ends of the ranges of P_set and T. -/
theorem witness_ExpectedPressureIsFormed :
    isSpare .sp1 = true ∧ isSpare (.road .a1 .lo) = false ∧ (State.reset.position (.road .a1 .lo)).pe = none ∧
    (∃ s : State, (s.position (.road .a1 .lo)).pe = some 650 ∧ s.loadLaw ∧ 650 ≤ (s.position (.road .a1 .lo)).pl) ∧
    (300 ≤ 300 ∧ (300 : Nat) ≤ 1200 ∧ (-40 : Int) ≤ -40 ∧ (-40 : Int) ≤ 150) ∧
    (300 ≤ 1200 ∧ (1200 : Nat) ≤ 1200 ∧ (-40 : Int) ≤ 150 ∧ (150 : Int) ≤ 150) :=
  ⟨rfl, rfl, rfl,
    ⟨State.reset.setPosition (.road .a1 .lo) { State.reset.position (.road .a1 .lo) with pe := some 650 }, rfl,
      reset_limits.2, by decide⟩, by decide, by decide⟩

/-- A ratio in every band of the table, at the band's lower end. -/
theorem witness_TyreLevelTables :
    [0, 700, 730, 800, 830, 900, 930, 1220, 1221, 1251].map (fun v => pressureRatio v 1000) =
      [0, 700, 730, 800, 830, 900, 930, 1220, 1221, 1251] := by decide

/-- A pair with no member LIVE, one with both, one with the outer one alone, a pair, and no pair. -/
theorem witness_PairComparisonTable :
    (∀ sl, sl = Side.left.inner ∨ sl = Side.left.outer → (State.reset.position (.road .a1 sl)).state ≠ .live) ∧
    (∃ s : State, (s.position (.road .a1 Side.left.inner)).state = .live ∧
      (s.position (.road .a1 Side.left.outer)).state = .live ∧
      (s.position (.road .a1 Side.left.inner)).pressure = some 700 ∧
      (s.position (.road .a1 Side.left.outer)).pressure = some 800 ∧
      (s.position (.road .a1 Side.left.inner)).age.getD 0 ≤ s.silenceTimeout / 2 ∧
      (s.position (.road .a1 Side.left.outer)).age.getD 0 ≤ s.silenceTimeout / 2) ∧
    (((live 800).position (.road .a1 Side.left.outer)).state = .live ∧
      ((live 800).position (.road .a1 Side.left.outer)).pressure = some 800 ∧
      ((live 800).position (.road .a1 Side.left.inner)).state ≠ .live) ∧
    State.reset.pair .a1 .left ≠ .notAPair ∧ State.reset.pair .a4 .left = .notAPair :=
  ⟨fun sl _ => by rw [reset_record]; decide,
    ⟨(live 800).setPosition (.road .a1 .li)
      { (live 700).position (.road .a1 .lo) with bound := some ⟨0x22334455#32, .rim⟩ }, by decide +kernel⟩,
    by decide, by decide, by decide⟩

theorem witness_ConversionsAreFormed : AnalogId.ctl ≠ .lat ∧ 500 ≤ 500 ∧ 500 ≤ 4500 ∧ 4500 ≤ 4500 := by decide

theorem witness_LoadsAndRatiosAreFormed :
    defaultCalibration.pe < defaultCalibration.pl ∧ defaultCalibration.we < defaultCalibration.wl ∧
    defaultCalibration.wl ≤ 3000 ∧ (45 : Int) ≤ 290 ∧ (1000 : Nat) ≤ 1000 ∧ 0 ≤ 1000 := by decide

theorem witness_LoadDependentPressureIsFormed : (1000 : Nat) ≤ 1000 ∧ 60 ≤ 60 ∧ 60 < 61 ∧ 61 ≤ 1000 ∧ 400 ≤ 760 := by
  decide

/-- The reset state with a PNEUMATIC entry, its driver demand formed. -/
def braked : State :=
  (State.reset.takeControl 300).setDemands { (State.reset.takeControl 300).demands with driver := 300 }

theorem braked_laws : braked.RangeLaws ∧ braked.loadLaw ∧ braked.formedLaw ∧ braked.pressureLaw ∧
    braked.demands.table ≠ [] := by
  refine ⟨{ reset_rangeLaws with }, reset_limits.2, ⟨by decide, fun g => by cases g <;> decide, nofun⟩,
    { reset_pressures with driver := fun x e h k => ?_, emergency := nofun, listed := fun x e h k => ?_ }, by decide⟩
  · rcases k with rfl | rfl
    · cases h
    · cases h; exact ⟨300, rfl, by decide⟩
  · rcases k with rfl | rfl <;> cases h

/-- CH-X without and CH-L with serving axles; SUP VALID and not; an empty table and one entry. -/
theorem witness_TargetsStayWithinTheEntries :
    State.reset.servingAxles .chX = [] ∧ State.reset.servingAxles .chL = [.a1, .a2, .a3] ∧
    (withInput State.reset .sup 820).pressureOf .sup = some 820 ∧ State.reset.pressureOf .sup = none ∧
    State.reset.RangeLaws ∧ State.reset.loadLaw ∧ State.reset.formedLaw ∧ State.reset.pressureLaw ∧
    State.reset.demands.table = [] :=
  ⟨by decide, by decide, by decide, by decide, reset_rangeLaws, reset_limits.2, reset_formed, reset_pressures, rfl⟩

theorem witness_RolloverLimitIsFormed : defaultSettings.InRange ∧ (0 : Nat) ≤ 1000 ∧ (1000 : Nat) ≤ 1000 ∧ 0 ≤ 50 :=
  ⟨default_inRange, by decide, by decide, by decide⟩

theorem witness_PortRequestsAreAnswered :
    State.reset.powered = true ∧ (params []).count = 0 ∧ (params [0]).count = 1 ∧ byteAt (params [0]) 0 = 0 ∧
    byteAt (params [1]) 0 = 1 ∧ 1 < byteAt (params [2]) 0 ∧ (params [0, 0, 0]).count = 3 ∧
    byteAt (params [2]) 0 = 2 ∧ ¬(byteAt (params [3]) 0 = 1 ∨ byteAt (params [3]) 0 = 2) := by decide

theorem witness_FaultDetailIsKeptForOneRequest :
    State.reset.powered = true ∧ (params []).count = 0 ∧ State.reset.port.detail = none ∧
    (∃ d, (detailed false).port.detail = some d ∧ d.later = false) ∧
    ∃ d, (detailed true).port.detail = some d ∧ d.later = true :=
  ⟨rfl, rfl, rfl, ⟨_, rfl, rfl⟩, ⟨_, rfl, rfl⟩⟩

/-- An exchange that is carried out and one that is refused, neither of them one of the three exceptions. -/
theorem witness_FaultDetailIsKeptForOneRequest_exchange :
    (∃ t, exec (.continueRead 0 (params [])) (reading (.candidates 1)) = .next t ∧ t.port.reply.status = .done) ∧
    (∃ t, exec (.unknownRequest 0 0x77#8) (detailed true) = .next t ∧ t.port.reply.status ≠ .done) ∧
    isExchange (.continueRead 0 (params [])) = true ∧ isExchange (.unknownRequest 0 0x77#8) = true ∧
    requestParts (.continueRead 0 (params [])) = some (0x24, params []) ∧
    ∀ i, i = Instr.continueRead 0 (params []) ∨ i = Instr.unknownRequest 0 0x77#8 →
      (∀ k q, i ≠ .faultDetail k q) ∧ (∀ k q, i ≠ .restart k q) ∧ ∀ k, i ≠ .frameError k := by
  refine ⟨⟨_, rfl, by decide +kernel⟩, ⟨_, rfl, by decide⟩, rfl, rfl, rfl, ?_⟩
  rintro i (rfl | rfl) <;> exact ⟨nofun, nofun, nofun⟩

/-- The whole table, its last position, a start and a count past its end, and the reads in flight. -/
theorem witness_BatchReadsAreFormed :
    (reading .idle).powered = true ∧ (params [0, 0]).count = 2 ∧ byteAt (params [0, 0]) 1 = 0 ∧
    byteAt (params [21, 1]) 0 = 21 ∧ byteAt (params [21, 1]) 0 + byteAt (params [21, 1]) 1 ≤ 22 ∧
    21 < byteAt (params [22, 0]) 0 ∧ 22 < byteAt (params [21, 2]) 0 + byteAt (params [21, 2]) 1 ∧
    (reading (.positions 21 21)).port.batch = .positions 21 21 ∧
    (reading (.candidates 1)).port.batch = .candidates 1 ∧
    (reading (.candidates 1)).intake.candidates.drop (1 - 1) = [candidate1] ∧
    (reading .idle).port.batch = .idle := by decide

/-- A candidate with a pressure; a LEARNING position with the window open, a bound one, and one that does not exist. -/
theorem witness_BatchReadsAreFormed_summaries :
    candidate1.pressure = some 790 ∧ ((learning none).position (.road .a1 .lo)).state = .learning ∧
    (learning none).intake.window.isSome = true ∧ (learning none).positionExists (.road .a1 .lo) = true ∧
    ((live 800).position (.road .a1 .lo)).bound = some bound1 ∧
    ((live 800).position (.road .a1 .lo)).pressure = some 800 ∧
    ((live 800).position (.road .a1 .lo)).temperature = some 20 ∧
    (State.reset.position .sp1).bound = none ∧ State.reset.positionExists (.road .a4 .lo) = false := by decide

/-- The details of a set of bit 16 and of bit 0, and of each kind with a value. -/
theorem test_detailBytes :
    { Notices.clear with tyreLevel := bit 16 }.detailBytes .tyreLevel = [1, 0, 0] ∧
    { Notices.clear with liftFault := bit 0 }.detailBytes .liftFault = [0, 0, 1] ∧
    { Notices.clear with learnResult := some (.cancelled, .sp2) }.detailBytes .learnResult = [5, 21, 0] ∧
    { Notices.clear with stabilityAction := some 420 }.detailBytes .stabilityAction = [1, 164, 0] ∧
    { Notices.clear with workshopChange := some ⟨.stepFault, .fault, some .noTelegram⟩ }.detailBytes .workshopChange =
      [4, 2, 5] ∧
    { Notices.clear with storeResult := some false }.detailBytes .storeResult = [2, 0, 0] := by decide

/-- A kind that is fetched, and a pending latched one that the first six leave. -/
theorem witness_FetchNoticesClearsTheFirstSix :
    noticed.powered = true ∧ NoticeKind.tyreLevel ∈ noticed.port.notices.firstSix ∧
    NoticeKind.storeInvalid.latched = true ∧ noticed.port.notices.pendingOf .storeInvalid = true ∧
    NoticeKind.storeInvalid ∉ noticed.port.notices.firstSix := by decide +kernel

theorem witness_StateReadsAnswer :
    State.reset.powered = true ∧ Position.ofIndex (byteAt (params [11]) 0) = some (.road .a3 .ro) ∧
    State.reset.positionExists (.road .a3 .ro) = true ∧
    Position.ofIndex (byteAt (params [12]) 0) = some (.road .a4 .lo) ∧
    State.reset.positionExists (.road .a4 .lo) = false ∧ 21 < byteAt (params [22]) 0 ∧
    idAt (params [0, 0, 0, 0]) 0 = 0#32 ∧ idAt (params [255, 255, 255, 255]) 0 = 0xFFFFFFFF#32 ∧
    idAt (params [0x5A, 1, 0xC3, 0xE7]) 0 = bound1.id ∧ ((live 800).position (.road .a1 .lo)).bound = some bound1 ∧
    idAt (params [0x22, 0x33, 0x44, 0x55]) 0 = candidate1.bound.id ∧ listed.intake.candidates[0]? = some candidate1 ∧
    AxleId.ofNumber (byteAt (params [5]) 0) = some .a5 ∧ AxleId.ofNumber (byteAt (params [6]) 0) = none ∧
    GroupId.ofNumber (byteAt (params [2]) 0) = some .g2 ∧ GroupId.ofNumber (byteAt (params [3]) 0) = none ∧
    ChannelId.ofNumber (byteAt (params [3]) 0) = some .chX ∧ byteAt (params [4]) 0 = 4 ∧
    4 < byteAt (params [5]) 0 ∧ byteAt (params [1]) 0 = 1 ∧ 1 < byteAt (params [2]) 0 := by decide +kernel

/-- A delivered input that is INVALID, DX out of use, and LAT STARTING. -/
theorem witness_StateReadsAnswer_absent :
    ((fallenInput .dl).analog .dl).validity ≠ .valid ∧ (fallenInput .dl).offered (ChannelId.chL).delivered = none ∧
    State.reset.analogInUse .dx = false ∧ (withInput State.reset .dx 300).offered (ChannelId.chX).delivered = none ∧
    State.reset.offered .lat = none := by decide +kernel

/-- R113, R127, R132, R165: p_m of an INVALID DL, whose last average was 300 kPa, reads FFFFh, and a of an INVALID LAT
8000h; Read Axle gives seven bytes (A3 at reset: present and DUAL, S5 and S6, HELD DOWN, DOWN, no raise, no time). -/
theorem test_invalid_input_reads_absent :
    ((fallenInput .dl).analog .dl).average = some 300 ∧ ((fallenInput .lat).analog .lat).average = some 300 ∧
    (((fallenInput .dl).channelData .chL).drop 8).take 2 = [0xFF, 0xFF] ∧
    ((fallenInput .lat).stabilityData.drop 1).take 2 = [0x80, 0x00] ∧
    State.reset.axleData .a3 = [0x03, 0x56, 0x01, 0x00, 0x00, 0xFF, 0xFF] := by decide +kernel

theorem live_idLaw : (live 800).idLaw ∧ listed.candidateLaw ∧
    (∀ q b, (listed.position q).bound = some b → b.id ≠ candidate1.bound.id) ∧
    (∀ c ∈ State.reset.intake.candidates, c.bound.id ≠ bound1.id) := by
  refine ⟨⟨?_, fun _ _ _ _ h => (nomatch h)⟩, ⟨by decide, by decide⟩, ?_, fun _ h => (nomatch h)⟩
  · have only : ∀ p, ((live 800).position p).bound.isSome = true → p = .road .a1 .lo := by
      rintro (⟨a, sl⟩ | _ | _) <;> first | (cases a <;> cases sl <;> decide) | decide
    intro p q b h k
    rw [only p (by rw [h]; rfl), only q (by cases e : ((live 800).position q).bound <;> simp_all)]
  · intro q b h
    have : State.reset.position q = .unbound 800 none := reset_record q
    exact absurd (this ▸ h : (PositionRecord.unbound 800 none).bound = some b) (by simp [PositionRecord.unbound])

theorem witness_BadCountsAreRefused :
    State.reset.powered = true ∧
    requestParts (.setPositionSetpoints 0 (params [0, 0, 0, 0])) = some (0x25, params [0, 0, 0, 0]) ∧
    requestCounts (.setPositionSetpoints 0 (params [0, 0, 0, 0])) = some [3, 5] ∧
    (params [0, 0, 0, 0]).count ∉ [3, 5] := by decide

/-- Stage Step with the count 4 and without parameters; Fault Detail with and without a detail held. -/
theorem witness_BadCountsAreRefused_named :
    requestParts (.stageStep 0 (params [1, 0, 0, 0])) = some (0x62, params [1, 0, 0, 0]) ∧
    requestCounts (.stageStep 0 (params [1, 0, 0, 0])) = some [2, 3, 5] ∧ (params [1, 0, 0, 0]).count ∉ [2, 3, 5] ∧
    (params []).count ∉ [2, 3, 5] ∧ (params [0]).count ≠ 0 ∧ State.reset.port.detail = none ∧
    (detailed false).port.detail ≠ none := by decide

/-- A Write Setpoints of one value with three parameters, of no value with four, and with 30 parameters. -/
theorem witness_BadCountsAreRefused_lists :
    State.reset.powered = true ∧ (params [0, 1, 3]).count ≠ 2 + 2 * byteAt (params [0, 1, 3]) 1 ∧
    (params [0, 0, 3, 82]).count ≠ 2 + 2 * byteAt (params [0, 0, 3, 82]) 1 ∧
    28 < (params ([0, 14] ++ List.replicate 28 3)).count := by decide

theorem witness_GatedAndSleepingRequestsAreRefused :
    State.reset.powered = true ∧ requestParts (.restoreTables 0 (params [])) = some (0x71, params []) ∧
    requestCounts (.restoreTables 0 (params [])) = some [0] ∧ (params []).count ∈ [0] ∧
    isGated (.restoreTables 0 (params [])) = true ∧ State.reset.mode.workshop ≠ .ready ∧
    watching.powered = true ∧ watching.mode.power = .watch ∧ byteAt (params [21]) 0 ≤ 21 ∧
    (AxleId.ofNumber (byteAt (params [1, 2]) 0)).isSome = true ∧ byteAt (params [1, 2]) 1 ≤ 2 ∧
    (params [3, 232]).count = 2 := by decide

theorem witness_SetpointsAreWritten :
    (live 800).powered = true ∧ (params [0, 3, 82, 2, 138]).count = 5 ∧ wordAt (params [0, 3, 82, 2, 138]) 1 = 850 ∧
    wordAt (params [0, 3, 82, 2, 138]) 3 = 650 ∧ Position.ofIndex 0 = some (.road .a1 .lo) ∧
    (live 800).positionExists (.road .a1 .lo) = true ∧ setpointsInRange (.road .a1 .lo) 850 (some 650) ∧
    setpointsInRange (.road .a1 .lo) 300 none ∧ setpointsInRange .sp1 1200 none ∧
    ((live 800).position (.road .a1 .lo)).state.isBound = true ∧ 21 < byteAt (params [22, 3, 82]) 0 ∧
    State.reset.positionExists (.road .a4 .lo) = false ∧ wordAt (params [0, 1, 43]) 1 < 300 ∧
    1200 < wordAt (params [0, 4, 177]) 1 ∧ ¬setpointsInRange .sp1 850 (some 650) ∧
    ¬setpointsInRange (.road .a1 .lo) 850 (some 851) ∧
    (30 ≤ wordAt (params [0, 30, 120]) 0 ∧ byteAt (params [0, 30, 120]) 2 ≤ 120) ∧
    ¬(30 ≤ wordAt (params [0, 29, 70]) 0) :=
  ⟨rfl, rfl, rfl, rfl, rfl, rfl, ⟨by decide, fun _ h => by cases h; decide⟩, ⟨by decide, fun _ h => (nomatch h)⟩,
    ⟨by decide, fun _ h => (nomatch h)⟩, rfl, by decide, rfl, by decide, by decide,
    fun h => absurd (h.2 650 rfl).1 (by decide), fun h => absurd (h.2 851 rfl).2.2 (by decide), by decide, by decide⟩

/-- A record whose evaluation changes its pressure level, one whose evaluation changes none, and one that is not bound. -/
theorem witness_SetpointsAreWritten_evaluation :
    ((live 300).evaluatedRecord (.road .a1 .lo)).pressureLevel ≠ ((live 300).position (.road .a1 .lo)).pressureLevel ∧
    ((live 800).evaluatedRecord (.road .a1 .lo)).pressureLevel = ((live 800).position (.road .a1 .lo)).pressureLevel ∧
    ((live 800).evaluatedRecord (.road .a1 .lo)).temperatureLevel =
      ((live 800).position (.road .a1 .lo)).temperatureLevel ∧
    (State.reset.position (.road .a1 .lo)).state.isBound = false := by decide +kernel

/-- The list of chapter 1.6; lists of 0, 14 and 13 values; 28 and 30 parameters. -/
theorem witness_WriteSetpointsStopsAtTheFirstFailure :
    State.reset.powered = true ∧
    writeSetpointsRefusal (params [4, 6, 3, 82, 0, 0, 0, 0, 0, 0, 3, 132, 0, 0]) = none ∧
    resolved 0 (sentValues (params [4, 6, 3, 82, 0, 0, 0, 0, 0, 0, 3, 132, 0, 0])) =
      [850, 850, 850, 850, 900, 900] ∧
    writeSetpointsRefusal (params [0, 0]) = some (namedAt 1) ∧
    writeSetpointsRefusal (params ([0, 14] ++ List.replicate 28 3)) = some (namedAt 1) ∧
    28 < (params ([0, 14] ++ List.replicate 28 3)).count ∧
    writeSetpointsRefusal (params ([9, 13] ++ List.replicate 26 3)) = none ∧
    (params ([9, 13] ++ List.replicate 26 3)).count ≤ 28 ∧ Position.ofIndex (4 + 1) = some (.road .a2 .li) := by decide

/-- R83: A3 UP, A1 LO and A3 LO LIVE at 700: a Write Setpoints of 1200 from A1 LO to A3 LO puts A1 LO in LOW ALARM first, so
that A3 is on its way down when its own alarm comes. -/
theorem test_writeSetpoints_lowers :
    ((live 700).setPosition (.road .a3 .lo) ((live 700).position (.road .a1 .lo))).settings = defaultSettings ∧
    (let s := lifting ((live 700).setPosition (.road .a3 .lo) ((live 700).position (.road .a1 .lo))) .up
     let u := (s.writeValues 0 1 (List.replicate 9 1200)).1
     (u.axle .a3).lift = .lowering ∧ u.ownAlarm .a3 = true ∧ (u.axle .a3).conflict = false ∧
       s.powered = true ∧ (s.axle .a3).lift = .up ∧ (s.axle .a1).lift = .down) := by decide +kernel

theorem witness_SwapExchangesTheSensors :
    (live 800).powered = true ∧ (params [0, 1]).count = 2 ∧ Position.ofIndex 0 = some (.road .a1 .lo) ∧
    Position.ofIndex 1 = some (.road .a1 .li) ∧ Position.road .a1 .lo ≠ .road .a1 .li ∧
    (live 800).positionExists (.road .a1 .lo) = true ∧ (live 800).positionExists (.road .a1 .li) = true ∧
    ((live 800).position (.road .a1 .lo)).state = .live ∧ ((live 800).position (.road .a1 .li)).state = .empty ∧
    21 < byteAt (params [22, 0]) 0 ∧ byteAt (params [21, 22]) 0 ≤ 21 ∧ 21 < byteAt (params [21, 22]) 1 ∧
    byteAt (params [5, 5]) 0 = byteAt (params [5, 5]) 1 ∧ (live 800).positionExists (.road .a4 .lo) = false ∧
    ((learning none).position (.road .a1 .lo)).state = .learning ∧
    ((learning none).position (.road .a1 .li)).state ≠ .learning := by decide

/-- A1 LO LIVE at 800 and A1 LI LIVE at 500, as the commands of the table may leave them. -/
def twins : State :=
  (live 800).setPosition (.road .a1 .li)
    { (live 800).position (.road .a1 .lo) with bound := some ⟨0x22334455#32, .rim⟩, pressure := some 500 }

/-- R23: of twins at 800 and 500 that are swapped the outer becomes LOW ALARM and the pair MISMATCHED; swapped with an empty
position, the alarm and the mismatch end. -/
theorem test_swap_judges :
    (let u := twins.swap (.road .a1 .lo) (.road .a1 .li)
     u.port.notices.tyreLevel = bit 0 ∧ u.port.notices.pairMismatch = bit 0 ∧ u.pair .a1 .left = .mismatched ∧
       (u.position (.road .a1 .lo)).pressureLevel = .lowAlarm ∧ (u.position (.road .a1 .li)).pressureLevel = .none ∧
       u.pair .a1 .right = .unordered) ∧
    (let u := (twins.swap (.road .a1 .lo) (.road .a1 .li)).swap (.road .a1 .lo) .sp1
     (u.position (.road .a1 .lo)).pressureLevel = .none ∧ (u.position .sp1).pressureLevel = .lowAlarm ∧
       u.port.notices.tyreLevel = bit 0 ||| bit 20 ∧ u.pair .a1 .left = .unordered) := by decide +kernel

/-- R24, R26: the retirement of a record at LOW ALARM, and the adoption of a candidate at 450. -/
theorem test_retire_and_adopt_judge :
    (let u := (twins.swap (.road .a1 .lo) (.road .a1 .li)).setNotices Notices.clear |>.retirePosition (.road .a1 .lo)
     u.port.notices.tyreLevel = bit 0 ∧ u.pair .a1 .left = .unordered) ∧
    (let c := { candidate1 with pressure := some 450 }
     let u := (((live 800).setPosition (.road .a1 .li) (((live 800).position (.road .a1 .li)).adopting c)).evaluate
       (.road .a1 .li))
     u.port.notices.tyreLevel = bit 1 ∧ u.pair .a1 .left = .mismatched ∧
       (u.position (.road .a1 .li)).pressureLevel = .lowAlarm) := by decide +kernel

theorem learning_learnLaw (x : Option Trigger) : (learning x).learnLaw := by
  rintro (⟨a, sl⟩ | _ | _)
  · cases a <;> cases sl <;>
      first
      | exact ⟨fun _ => ⟨_, rfl, rfl⟩, fun _ => rfl⟩
      | exact ⟨fun h => (nomatch h), fun ⟨_, h, k⟩ => by cases h; cases k⟩
  all_goals exact ⟨fun h => (nomatch h), fun ⟨_, h, k⟩ => by cases h; cases k⟩

theorem witness_SensorsAreRetiredAndAdopted :
    State.reset.powered = true ∧ (params [0]).count = 1 ∧ Position.ofIndex (byteAt (params [0]) 0) = some (.road .a1 .lo) ∧
    State.reset.positionExists (.road .a1 .lo) = true ∧ State.reset.learnLaw ∧ (learning none).learnLaw ∧
    ((learning none).position (.road .a1 .lo)).state = .learning ∧
    ((live 800).position (.road .a1 .lo)).state.isBound = true ∧ 21 < byteAt (params [22]) 0 ∧
    State.reset.positionExists (.road .a4 .lo) = false ∧
    (params [0x22, 0x33, 0x44, 0x55, 0]).count = 5 ∧ idAt (params [0x22, 0x33, 0x44, 0x55, 0]) 0 = candidate1.bound.id ∧
    Position.ofIndex (byteAt (params [0x22, 0x33, 0x44, 0x55, 0]) 4) = some (.road .a1 .lo) ∧
    (listed.position (.road .a1 .lo)).state = .empty ∧ listed.candidateLaw ∧ candidate1 ∈ listed.intake.candidates ∧
    21 < byteAt (params [0, 0, 0, 1, 22]) 4 ∧ ((live 800).position (.road .a1 .lo)).state ≠ .empty ∧
    ∀ c ∈ State.reset.intake.candidates, c.bound.id ≠ candidate1.bound.id :=
  ⟨rfl, rfl, rfl, rfl, reset_binding.2, learning_learnLaw none, rfl, rfl, by decide, rfl, rfl, rfl, rfl, rfl,
    live_idLaw.2.1, by decide, by decide, by decide, fun _ h => (nomatch h)⟩

theorem witness_LearnWindowRuns :
    State.reset.powered = true ∧ Position.ofIndex (byteAt (params [0]) 0) = some (.road .a1 .lo) ∧
    State.reset.mode.power ≠ .watch ∧ State.reset.positionExists (.road .a1 .lo) = true ∧
    State.reset.intake.window = none ∧ (State.reset.position (.road .a1 .lo)).state = .empty ∧
    State.reset.positionExists (.road .a4 .lo) = false ∧ (learning none).intake.window.isSome = true ∧
    21 < byteAt (params [22]) 0 ∧ (learning none).intake.window = some ⟨.road .a1 .lo, 0, none⟩ ∧
    0 + 120000000 ≤ (learning none).now + 120000000 ∧ (learning none).now + 119999999 < 0 + 120000000 ∧
    (learning (some trigger1)).intake.window = some ⟨.road .a1 .lo, 0, some trigger1⟩ ∧
    trigger1.arrival + 2000000 ≤ (learning none).now + 2000000 ∧
    (learning none).now + 1999999 < trigger1.arrival + 2000000 ∧
    (∃ q b, ((learning (some trigger1)).setPosition .sp1
        { (live 800).position (.road .a1 .lo) with pl := 800 } |>.position q).bound = some b ∧ b.id = trigger1.bound.id) ∧
    ∀ q b, ((learning (some trigger1)).position q).bound = some b → b.id ≠ trigger1.bound.id := by
  refine ⟨rfl, rfl, by decide, rfl, rfl, rfl, rfl, rfl, by decide, rfl, by decide, by decide, rfl, by decide,
    by decide, ⟨.sp1, _, rfl, rfl⟩, ?_⟩
  rintro (⟨a, sl⟩ | _ | _) b h
  · cases a <;> cases sl <;> exact absurd h (by decide +revert)
  all_goals exact absurd h (by decide +revert)

/-- R29, R30: the bounds of the pressure and of the temperature, and bytes that spell no telegram: an unsupported kind, a
wrong check, the reserved IDs. -/
theorem test_telegramOf_bounds :
    (∀ x ∈ [(0x05, 0x78, 1400), (0x05, 0x79, 1400), (0xFF, 0xFE, 1400), (0x00, 0x00, 0)],
      pressureField (ofBytes2 x.1 x.2.1) = some x.2.2) ∧ pressureField (ofBytes2 0xFF#8 0xFF#8) = none ∧
    temperatureField 9 = some (-40) ∧ temperatureField 10 = some (-40) ∧ temperatureField 200 = some 150 ∧
    temperatureField 201 = none ∧
    (∀ l ∈ [[0x5A#8, 1, 0xC3, 0xE7, 4, 3, 12, 68, 0], [0, 0, 0, 0, 1, 3, 12, 68, 0],
        [0xFF, 0xFF, 0xFF, 0xFF, 1, 3, 12, 68, 0]], telegramOf (l ++ [crc8 l]) = none) ∧
    telegramOf (telegramBytes.take 9 ++ [0x4D#8]) = none := by decide +kernel

/-- A collected character, one before the first gap, and an arrival on each route. -/
theorem witness_TelegramsReachTheirRoutes :
    [candidate1] ≠ [] ∧
    State.reset.powered = true ∧ State.reset.intake.rx.synced = false ∧ (State.reset.elapse 1562).idleBits 30 = false ∧
    (State.reset.elapse 1563).idleBits 30 = true ∧
    (received State.reset telegramBytes).intake.rx.synced = true ∧ (State.reset.elapse 1041).idleBits 20 = false ∧
    ((received State.reset telegramBytes).elapse 1042).idleBits 20 = true ∧
    (received State.reset []).intake.rx.telegram = none ∧
    ((received (live 800) telegramBytes).intake.rx.telegram.bind fun t => (live 800).boundPosition t.id) =
      some (.road .a1 .lo) ∧
    ((received State.reset telegramBytes).intake.rx.telegram.map Telegram.kind) = some (.sensor .valve) ∧
    ((received State.reset telegramBytes).intake.rx.telegram.map Telegram.triggered) = some true ∧
    ((received State.reset telegramBytes).intake.rx.telegram.bind fun t => State.reset.boundPosition t.id) = none ∧
    ((received State.reset [0x5A, 1, 0xC3, 0xE7, 0, 3, 12, 68, 0, 0xA7]).intake.rx.telegram.map Telegram.kind) =
      some .failed ∧
    ((received State.reset [0x5A, 1, 0xC3, 0xE7, 255, 3, 12, 68, 0, 0x9E]).intake.rx.telegram.map Telegram.kind) =
      some .test ∧
    (learning (some trigger1)).intake.window.bind LearnWindow.trigger = some trigger1 ∧
    State.reset.intake.window = none ∧ State.reset.mode.power ≠ .watch ∧ watching.mode.power = .watch ∧
    ready.mode.workshop = .ready ∧ (running (.sensorListen (.road .a1 .lo)) false).mode.workshop = .stepRunning := by
  decide +kernel

theorem witness_AgesCount :
    (live 800).powered = true ∧ ((live 800).position .sp1).state.isBound = false ∧
    ((live 800).position (.road .a1 .lo)).state.isBound = true ∧ listed.intake.candidates[0]? = some candidate1 ∧
    candidate1.age < 600 ∧ candidate1.firstHeard < 65535 ∧
    (∃ s : State, (s.position (.road .a1 .lo)).silenceDue = true ∧ (s.position (.road .a1 .lo)).state = .live) ∧
    ((live 800).position (.road .a1 .lo)).silenceDue = false ∧ candidate1.sinceSighting = none ∧
    (∃ c : Candidate, c.sinceSighting = some 0) ∧ ∃ c : Candidate, c.sinceSighting = some 60 :=
  ⟨rfl, rfl, rfl, rfl, by decide, by decide,
    ⟨(live 800).setPosition (.road .a1 .lo) { (live 800).position (.road .a1 .lo) with silenceDue := true }, rfl, rfl⟩,
    rfl, rfl, ⟨{ candidate1 with sinceSighting := some 0 }, rfl⟩, ⟨{ candidate1 with sinceSighting := some 60 }, rfl⟩⟩

/-- R42: the time since the last sighting stops at 60 s, and is not counted before the first. -/
theorem test_candidate_sighting_time :
    ({ candidate1 with sinceSighting := some 59 } : Candidate).aged.sinceSighting = some 60 ∧
    ({ candidate1 with sinceSighting := some 60 } : Candidate).aged.sinceSighting = some 60 ∧
    candidate1.aged.sinceSighting = none := by decide

/-- The default layout with the mode of every axle HELD DOWN, C 3200 and N 100, as Write Axle Layout carries it. -/
def layoutBytes : List Nat := [3, 0x12, 1, 3, 0x34, 1, 3, 0x56, 1, 2, 0, 1, 2, 0, 1, 12, 128, 100]

theorem witness_GatedParametersAreWritten :
    ready.powered = true ∧ ready.mode.workshop = .ready ∧
    stabilityRefusal (params [3, 32, 3, 232, 3, 232, 1, 244, 1]) = none ∧
    byteAt (params [3, 32, 3, 232, 3, 232, 1, 244, 1]) 8 = 1 ∧
    stabilityRefusal (params [3, 31, 3, 232, 3, 232, 1, 244, 1]) = some (limitedAt 0 800) ∧
    stabilityRefusal (params [3, 32, 3, 232, 3, 231, 1, 244, 1]) = some (limitedAt 4 1000) ∧
    stabilityRefusal (params [3, 32, 3, 232, 3, 232, 3, 133, 1]) = some (limitedAt 6 900) ∧
    1 < byteAt (params [3, 32, 3, 232, 3, 232, 1, 244, 2]) 8 ∧
    (params [1, 0, 0, 3, 232, 0, 0, 11, 184]).count = 9 ∧
    GroupId.ofNumber (byteAt (params [1, 0, 0, 3, 232, 0, 0, 11, 184]) 0) = some .g1 ∧
    (0 < wordAt (params [1, 0, 0, 3, 232, 0, 0, 11, 184]) 3 ∧ wordAt (params [1, 0, 0, 3, 232, 0, 0, 11, 184]) 3 ≤ 1000 ∧
      wordAt (params [1, 0, 0, 3, 232, 0, 0, 11, 184]) 7 ≤ 3000) ∧
    ¬(wordAt (params [1, 0, 0, 3, 233, 0, 0, 11, 184]) 3 ≤ 1000) ∧ GroupId.ofNumber (byteAt (params [0]) 0) = none ∧
    (ready.group .g1).status = .held ∧
    (∃ s : State, (s.group .g1).status = .valid ∧ s.offered GroupId.g1.bellows = some 290) ∧
    (∃ s : State, (s.group .g1).status = .substituted) ∧
    (params [0, 150, 0, 200, 3, 232, 1]).count = 7 ∧ wordAt (params [0, 150, 0, 200, 3, 232, 1]) 0 ≤ 150 ∧
    (200 ≤ wordAt (params [0, 150, 0, 200, 3, 232, 1]) 2 ∧ wordAt (params [0, 150, 0, 200, 3, 232, 1]) 4 ≤ 1000) ∧
    150 < wordAt (params [0, 151, 0, 200, 3, 232, 1]) 0 ∧ wordAt (params [0, 150, 0, 199, 3, 232, 1]) 2 < 200 ∧
    1000 < wordAt (params [0, 150, 0, 200, 3, 233, 1]) 4 ∧ 1 < byteAt (params [0, 150, 0, 200, 3, 232, 2]) 6 ∧
    byteAt (params [0, 150, 0, 200, 3, 232, 0]) 6 = 0 ∧ ready.servingAxles .chX = [] ∧
    ∃ s : State, s.servingAxles .chX = [.a3] :=
  ⟨rfl, rfl, by decide, rfl, by decide, by decide, by decide, by decide, rfl, rfl, by decide, by decide, rfl, rfl,
    ⟨withInput (State.reset.setGroup .g1 { State.reset.group .g1 with status := .valid }) .b1 290, rfl, rfl⟩,
    ⟨State.reset.setGroup .g1 { State.reset.group .g1 with status := .substituted }, rfl⟩, rfl, by decide, by decide,
    by decide, by decide, by decide, by decide, rfl, by decide,
    ⟨State.reset.setAxle .a3 { State.reset.axle .a3 with layout := { (State.reset.axle .a3).layout with brakeX := true } },
      by decide⟩⟩

/-- The default layout is consistent, whichever of two clashing axles is named. -/
theorem default_consistent : inconsistentAt defaultAxles ready.settings.third = none := by
  unfold inconsistentAt failsAt
  generalize Config.clashNamesEarlier = earlier
  cases earlier <;> decide

theorem witness_AxleLayoutIsWritten :
    ready.powered = true ∧ ready.mode.workshop = .ready ∧ (params layoutBytes).count = 18 ∧
    axlesAt (params layoutBytes) = .ok defaultAxles ∧ wheelRefusal 3200 100 = none ∧
    inconsistentAt defaultAxles ready.settings.third = none ∧ (∀ a, (ready.axle a).lift = .down) ∧ ready.TableLaws ∧
    axlesAt (params [3, 0x70]) = .error 1 ∧ axlesAt (params [3, 0x12, 3]) = .error 2 ∧
    wheelRefusal 2799 100 = some (limitedAt 15 2800) ∧ wheelRefusal 3800 121 = some (limitedAt 17 120) ∧
    ((lifting ready .up).axle .a3).lift ≠ .down ∧
    (∀ b, b.number < AxleId.a3.number → ((lifting ready .up).axle b).lift = .down) ∧
    inconsistentAt { defaultAxles with a1 := ⟨.fixed none none false, .heldDown⟩ } false = some .a1 :=
  ⟨rfl, rfl, rfl, rfl, by decide, default_consistent, fun a => by cases a <;> rfl, { reset_tableLaws with }, rfl, rfl,
    by decide, by decide, by decide, fun b => by cases b <;> decide, by decide⟩

/-- The default layout with A3 on CH-X. -/
def layoutX : PerAxle StoredAxle :=
  { defaultAxles with a3 := { defaultAxles.a3 with layout := { defaultAxles.a3.layout with brakeX := true } } }

/-- A layout with A1 that is consistent in no axle but A1 and A2, and one without A1. -/
theorem witness_AxleLayoutIsWritten_consistency :
    (∃ t, axlesAt (params layoutBytes) = .ok t) ∧ layoutX.a1.layout.present = true ∧
    inconsistentAt layoutX false = some .a3 ∧ ({ defaultAxles with
      a1 := ⟨.fixed none none false, .heldDown⟩ } : PerAxle StoredAxle).a1.layout.present = false := by
  refine ⟨⟨_, rfl⟩, rfl, ?_, rfl⟩
  unfold inconsistentAt failsAt
  generalize Config.clashNamesEarlier = earlier
  cases earlier <;> decide

/-- The default layout with a DUAL A4 on CH-X and in G2, and with a SINGLE A3. -/
def layoutG2 : PerAxle StoredAxle :=
  { defaultAxles with
    a3 := { defaultAxles.a3 with layout := { defaultAxles.a3.layout with dual := false } }
    a4 := { defaultAxles.a4 with layout :=
      { defaultAxles.a4.layout with present := true, dual := true, group := .g2, brakeX := true } } }

/-- READY with the third channel and A3 LI at LOW ALARM. -/
def readyThird : State :=
  ((ready.setSettings { ready.settings with third := true }).setPosition (.road .a3 .li)
    { (live 300).position (.road .a1 .lo) with pressureLevel := .lowAlarm })

theorem layoutG2_consistent : inconsistentAt layoutG2 true = none := by
  unfold inconsistentAt failsAt
  generalize Config.clashNamesEarlier = earlier
  cases earlier <;> decide

/-- R25, R73: G2 enters use while B2 is STARTING, INVALID or VALID, and leaves it; A3 LI goes with its level. -/
theorem witness_AxleLayoutIsWritten_groups :
    readyThird.groupInUse .g2 = false ∧ readyThird.groupInUse .g1 = true ∧
    (readyThird.analog .b2).validity = .starting ∧
    (let u := readyThird.writeLayout layoutG2 3200 100
     u.groupInUse .g2 = true ∧ u.groupInUse .g1 = true ∧ (u.group .g2).status = .held ∧ (u.group .g2).holdStart = true ∧
       (u.group .g2).w = (u.calibration .g2).wl ∧ (u.group .g2).l = 1000 ∧ u.pair .a4 .left = .unordered ∧
       u.pair .a3 .left = .notAPair ∧ u.port.notices.tyreLevel = bit 9 ∧ u.port.notices.positionsRetired = bit 9 ∧
       (u.writeLayout defaultAxles 3200 100).group .g2 = .unused (u.calibration .g2).re) ∧
    (let u := (withInput readyThird .b2 300).writeLayout layoutG2 3200 100
     (u.group .g2).status = .valid ∧ (u.group .g2).w = loadW (u.calibration .g2) 300) ∧
    (let b := readyThird.setAnalog .b2 { readyThird.analog .b2 with validity := .invalid }
     let u := b.writeLayout layoutG2 3200 100
     (u.group .g2).status = .held ∧ (u.group .g2).holdSensor = true ∧ (u.group .g2).sensorSince = some u.now) := by
  decide +kernel

/-- A part with A3 HELD UP in a lift state, with a pending raise, under an STU state, a reference speed and a load. -/
def heldUp (x : LiftState) (stu : StuState) (reference kPa : Nat) : State :=
  let s := raising kPa false
  ((s.setAxle .a3 { s.axle .a3 with mode := .heldUp, lift := x, raisePending := true }).setStability
    { s.stability with state := stu }).setInputs { s.inputs with reference := reference }

/-- Pending raises that wait, start and are given up; the speed bound at 300 and below it; a raise for braking to abort. -/
theorem witness_LiftModesAreSet_operations :
    ((heldUp .down .probing 0 820).axle .a3).mode = .heldUp ∧ ((heldUp .down .probing 0 820).axle .a3).lift = .down ∧
    ((heldUp .down .probing 0 820).axle .a3).raisePending = true ∧
    (heldUp .down .probing 0 820).stability.state = .probing ∧ (heldUp .down .armed 0 820).stability.state = .armed ∧
    (heldUp .down .armed 0 820).demands.braking = false ∧ (heldUp .down .armed 0 820).heldUpRefusal .a3 = none ∧
    (heldUp .down .probing 0 820).heldUpRefusal .a3 = none ∧
    ((heldUp .down .armed 300 820).heldUpRefusal .a3).isSome = true ∧
    ((heldUp .up .armed 300 820).axle .a3).lift = .up ∧ 300 ≤ (heldUp .up .armed 300 820).inputs.reference ∧
    (heldUp .up .armed 299 820).inputs.reference < 300 ∧
    ((heldUp .up .armed 299 820).group .g1).w ≤ 1300 * ((heldUp .up .armed 299 820).calibration .g1).wl / 1000 ∧
    ((heldUp .raising .idle 0 820).axle .a3).lift = .raising ∧ ((raising 820 true).axle .a3).lift ≠ .raising := by
  decide +kernel

theorem witness_LiftModesAreSet :
    State.reset.powered = true ∧ (params [3, 2]).count = 2 ∧ AxleId.ofNumber (byteAt (params [3, 2]) 0) = some .a3 ∧
    AxleId.ofNumber (byteAt (params [0, 0]) 0) = none ∧ 2 < byteAt (params [3, 3]) 1 ∧
    State.reset.mode.power ≠ .watch ∧ (State.reset.axle .a4).layout.present = false ∧
    (State.reset.axle .a3).layout.present = true ∧ (State.reset.axle .a3).layout.liftable = false ∧
    ((lifting State.reset .down).axle .a3).layout.liftable = true ∧ byteAt (params [3, 0]) 1 = 0 ∧
    byteAt (params [3, 1]) 1 = 1 ∧ byteAt (params [3, 2]) 1 = 2 ∧
    (withInput (lifting State.reset .down) .sup 440).heldUpRefusal .a3 = some ⟨none, none, none⟩ ∧
    (lifting State.reset .down).heldUpRefusal .a3 = some ⟨none, none, some 1170⟩ ∧
    (raising 820 false).heldUpRefusal .a3 = none ∧ ((raising 820 false).axle .a3).lift = .down ∧
    (raising 820 false).demands.braking = false ∧ (raising 820 true).demands.braking = true ∧
    (raising 820 true).heldUpRefusal .a3 = none ∧ (lifting State.reset .up).heldUpRefusal .a3 = none ∧
    ((lifting State.reset .up).axle .a3).lift ≠ .down := by decide +kernel

/-- A part whose A3 is UP and AUTO under a load W of G1, its lift valve energised. -/
def loaded (w : Nat) : State :=
  let s := withInput (lifting State.reset .up) .sup 820
  s.setGroup .g1 { s.group .g1 with w := w }

/-- The decisions run with and without an eligible axle and stand still in READY; the lower condition at 811 and not at 810;
a second of it. -/
theorem witness_LiftTransitionsRun_measurements :
    (raising 820 false).decisionsRun = true ∧ ((raising 820 false).axle .a3).layout.present = true ∧
    ((raising 820 false).axle .a3).layout.group = .g1 ∧ ((raising 820 false).axle .a3).layout.liftable = true ∧
    ((raising 820 false).axle .a3).lift = .down ∧ ((raising 820 false).axle .a3).mode = .auto ∧
    (raising 820 false).raiseRuns .g1 = true ∧ ((raising 820 false).group .g1).raiseDue = false ∧
    ready.raiseRuns .g1 = false ∧ ready.decisionsRun = false ∧ (loaded 811).raiseRuns .g1 = false ∧
    (loaded 811).decisionsRun = true ∧ ((loaded 811).axle .a3).layout.serves .g1 = true ∧
    ((loaded 811).axle .a3).layout.liftable = true ∧ ((loaded 811).axle .a3).lift = .up ∧
    900 * ((loaded 811).calibration .g1).wl / 1000 < ((loaded 811).group .g1).w ∧
    ¬900 * ((loaded 810).calibration .g1).wl / 1000 < ((loaded 810).group .g1).w ∧
    ((loaded 811).axle .a3).layout.valve2 = false ∧ (loaded 811).mode.power ≠ .watch := by decide +kernel

/-- A raise due with its conditions, while braking, and barred by the supply; a transition at its end and a microsecond
before it; a lower due. -/
theorem witness_LiftTransitionsRun :
    (raising 820 false).raiseRuns .g1 = true ∧ ((raising 820 false).group .g1).raiseDue = false ∧
    (raising 820 false).chosenAxle .g1 = some .a3 ∧
    ((raising 820 false).elapse 5000000).reached ((raising 820 false).group .g1).raiseSince 5000000 = true ∧
    ((raising 820 false).elapse 4999999).reached ((raising 820 false).group .g1).raiseSince 5000000 = false ∧
    (raising 820 true).raiseRuns .g1 = true ∧ (raising 820 true).demands.braking = true ∧
    (raising 440 false).raiseRuns .g1 = true ∧ (raising 440 false).supplySound = false ∧
    State.reset.raiseRuns .g1 = false ∧
    ((lifting State.reset .raising).axle .a3).lift = .raising ∧
    ((lifting State.reset .raising).axle .a3).liftSince + 3000000 ≤ State.reset.now + 3000000 ∧
    State.reset.now + 2999999 < ((lifting State.reset .raising).axle .a3).liftSince + 3000000 ∧
    (State.reset.axle .a3).lift ≠ .raising ∧ ((lifting State.reset .lowering).axle .a3).lift = .lowering ∧
    ((lifting State.reset .lowering).axle .a3).liftSince + 2000000 ≤ State.reset.now + 2000000 ∧
    State.reset.now + 1999999 < ((lifting State.reset .lowering).axle .a3).liftSince + 2000000 ∧
    (∃ s : State, (s.axle .a3).layout.serves .g1 = true ∧ (s.elapse 1000000).lowerDue .a3 = true ∧
      (s.axle .a3).lift = .up) ∧
    (State.reset.axle .a3).layout.serves .g1 = true ∧ (State.reset.elapse 1000000).lowerDue .a3 = false := by
  and_intros <;> first
    | decide +kernel
    | exact ⟨(lifting State.reset .up).setAxle .a3 { (lifting State.reset .up).axle .a3 with lowerSince := some 0 },
        by decide⟩

/-- A part with A3 in a lift state, an alarm on A1, and one on A3 itself or none. -/
def alarmed (x : LiftState) (own : Bool) : State :=
  let s := lifting State.reset x
  let t := s.setPosition (.road .a1 .lo) { s.position (.road .a1 .lo) with pressureLevel := .lowAlarm }
  if own then t.setPosition (.road .a3 .lo) { t.position (.road .a3 .lo) with pressureLevel := .lowAlarm } else t

/-- A part with A3 UP, its left wheel turning, at a reference speed, with a LIFT step on it. -/
def turning (speed reference : Nat) : State :=
  let s := lifting (running (.lift .a3 true) false) .up
  (s.setWheel .s5 { s.wheel .s5 with speed := speed }).setInputs
    { (s.setWheel .s5 { s.wheel .s5 with speed := speed }).inputs with reference := reference }

/-- The tyre tests, and the lift fault at 51 and 101 and just below. -/
theorem witness_LiftTransitionsRun_tests :
    ((alarmed .up false).axle .a3).layout.present = true ∧ ((alarmed .up false).axle .a3).layout.liftable = true ∧
    ((alarmed .up false).axle .a3).lift = .up ∧ (alarmed .up false).otherTyre .a3 isAlarm = true ∧
    (alarmed .up false).ownAlarm .a3 = false ∧ (alarmed .raising true).otherTyre .a3 isAlarm = true ∧
    (alarmed .raising true).ownAlarm .a3 = true ∧ (lifting State.reset .up).otherTyre .a3 isAlarm = false ∧
    ((lifting State.reset .lowering).axle .a3).lift = .lowering ∧ (turning 51 101).wheelTurns .a3 = true ∧
    100 < (turning 51 101).inputs.reference ∧ ((turning 51 101).axle .a3).lift = .up ∧
    (turning 51 101).mode.running = some ⟨.lift .a3 true, 0, false, 0⟩ ∧ (turning 50 101).wheelTurns .a3 = false ∧
    (turning 51 100).inputs.reference ≤ 100 ∧
    (lifting (running (.lift .a3 true) false) .raising).mode.running = some ⟨.lift .a3 true, 0, false, 0⟩ ∧
    (lifting (running (.lift .a3 false) false) .lowering).mode.running = some ⟨.lift .a3 false, 0, false, 0⟩ := by
  decide +kernel

theorem witness_LoadHoldsEnd :
    (∃ (s : State) (r : GroupRecord), s.powered = true ∧ s.group .g1 = r ∧ r.holdTransition = true ∧
      r.transitionEndSince = some 0 ∧ 0 + 1000000 ≤ s.now + 1000000 ∧ r.holdStart = false ∧ r.holdRoll = false ∧
      r.holdSensor = false ∧ r.status ≠ .valid ∧ s.offered GroupId.g1.bellows = some 290) ∧
    (∀ a, (State.reset.axle a).mode ≠ .heldUp) ∧ (State.reset.group .g1).holdStart = true ∧
    (State.reset.group .g1).holdTransition = false ∧
    (∃ s : State, (s.group .g1).holdSensor = true ∧ (s.group .g1).sensorSince = some 0 ∧
      0 + 10000000 ≤ s.now + 10000000) ∧
    (State.reset.group .g1).holdSensor = false :=
  ⟨⟨withInput (State.reset.setGroup .g1 { State.reset.group .g1 with
      holdStart := false, holdTransition := true, transitionEndSince := some 0 }) .b1 290, _, rfl, rfl, rfl, rfl,
      by decide, rfl, rfl, rfl, by decide, rfl⟩,
    fun a => by cases a <;> decide, rfl, rfl,
    ⟨State.reset.setGroup .g1 { State.reset.group .g1 with holdSensor := true, sensorSince := some 0 }, rfl, rfl,
      by decide⟩, rfl⟩

theorem witness_DemandsFollowTheirTimers :
    State.reset.powered = true ∧ (params [3, 232]).count = 2 ∧ State.reset.mode.power ≠ .watch ∧
    wordAt (params [3, 232]) 0 = 1000 ∧ 1000 < wordAt (params [3, 233]) 0 ∧ State.reset.entry .digital = none ∧
    (State.reset.postEntry .digital (.whole 300)).entry .digital = some ⟨.digital, .whole 300, 0, some 0⟩ ∧
    0 + 150000 ≤ State.reset.now + 150000 ∧ State.reset.now + 149999 < 0 + 150000 ∧
    (State.reset.setDemands { State.reset.demands with mismatch := .diverging, mismatchSince := some 0 }).demands.mismatchSince
      = some 0 ∧ 0 + 400000 ≤ State.reset.now + 400000 ∧
    (State.reset.elapse 400000).reached State.reset.demands.mismatchSince 400000 = false := by decide

/-- Slip at the bounds of each row, and the timers at their ends and a microsecond before. -/
theorem witness_LockReleaseRuns :
    (∃ s : State, s.formedWheelSpeed .chL = some 40 ∧ 50 ≤ s.inputs.reference) ∧
    (locking .free (some 201)).lockActive .chL = true ∧ 0 < ((locking .free (some 201)).channel .chL).target ∧
    (locking .free (some 200)).lockActive .chL = true ∧ (locking .release (some 99)).lockActive .chL = true ∧
    (locking .release (some 100)).lockActive .chL = true ∧ (locking .hold (some 0)).lockActive .chL = true ∧
    (locking .reapply (some 201)).lockActive .chL = true ∧ (locking .reapply (some 200)).lockActive .chL = true ∧
    ((locking .release (some 99)).channel .chL).lockSince + 1500000 ≤ State.reset.now + 1500000 ∧
    State.reset.now + 1499999 < ((locking .release (some 99)).channel .chL).lockSince + 1500000 ∧
    ((locking .free none).channel .chL).lock ≠ .release ∧
    ((locking .hold (some 201)).channel .chL).lockSince + 150000 ≤ State.reset.now + 150000 ∧
    200 < ((locking .hold (some 201)).channel .chL).slip.getD 0 ∧
    ((locking .hold none).channel .chL).slip.getD 0 ≤ 200 ∧
    State.reset.now + 149999 < ((locking .hold none).channel .chL).lockSince + 150000 := by
  refine ⟨⟨(WheelId.list.foldl (fun s w => s.setWheel w { s.wheel w with speed := 40 }) State.reset).setInputs
    { (WheelId.list.foldl (fun s w => s.setWheel w { s.wheel w with speed := 40 }) State.reset).inputs with
      reference := 50 }, by decide⟩, ?_⟩
  decide

/-- The reset state with CH-L in a lock-release state, at a target and a cap. -/
def capped (x : Lock) (slip : Option Nat) (target cap : Nat) : State :=
  State.reset.setChannel .chL
    { State.reset.channel .chL with lock := x, slip := slip, target := target, cap := cap, reapplyFrom := cap }

/-- Each row of a new target, an inactive lock release, and the ramp below and at the target. -/
theorem witness_LockReleaseRuns_targets :
    (∃ s : State, s.inputs.reference < 50 ∧ s.wheelSet .chL ≠ []) ∧ State.reset.wheelSet .chX = [] ∧
    (capped .free (some 201) 1 1000).lockActive .chL = true ∧ (capped .free none 1 1000).lockActive .chL = false ∧
    (capped .free (some 200) 1 1000).lockActive .chL = true ∧ (capped .free (some 201) 0 1000).lockActive .chL = true ∧
    (capped .hold (some 90) 0 50).lockActive .chL = true ∧ (capped .release (some 300) 300 0).lockActive .chL = true ∧
    (capped .reapply (some 90) 300 300).lockActive .chL = true ∧
    ((capped .reapply (some 90) 300 300).channel .chL).target ≤ ((capped .reapply (some 90) 300 300).channel .chL).cap ∧
    ((capped .reapply (some 90) 301 300).channel .chL).cap < ((capped .reapply (some 90) 301 300).channel .chL).target ∧
    ((capped .reapply (some 90) 303 300).elapse 5000).now - 0 = 5000 ∧
    min 1000 (300 + 600 * (5000 / 1000) / 1000) ≤ ((capped .reapply (some 90) 303 300).channel .chL).target ∧
    min 1000 (300 + 600 * (4999 / 1000) / 1000) < ((capped .reapply (some 90) 303 300).channel .chL).target := by
  refine ⟨⟨State.reset, by decide⟩, ?_⟩
  decide

/-- A channel whose inlet, then whose exhaust is energised, with both monitors' conditions met or just not. -/
def driving (inlet exhaust : Bool) (target supply kPa : Nat) : State :=
  let s := withInput (withInput State.reset .sup supply) .dl kPa
  s.setChannel .chL { s.channel .chL with
    target := target, inlet := inlet, exhaust := exhaust, inletMonitor := some ⟨100, 0⟩, exhaustMonitor := some ⟨100, 0⟩ }

theorem witness_FaultsBringFallback_monitors :
    (driving true false 300 350 100).channels.mode = .electronic ∧ (driving true false 300 350 100).mode.power ≠ .watch ∧
    (driving true false 300 350 100).pressureOf .dl = some 100 ∧
    (driving true false 300 350 100).pressureOf .sup = some 350 ∧
    (((driving true false 300 350 100).followValves .chL).channel .chL).inlet = true ∧
    (driving true false 300 349 100).pressureOf .sup = some 349 ∧
    (((driving false true 0 350 41).followValves .chL).channel .chL).exhaust = true ∧
    (((driving false true 0 350 41).followValves .chL).channel .chL).delivered = some 41 ∧
    (((driving false true 0 350 40).followValves .chL).channel .chL).delivered = some 40 ∧
    State.reset.pressureOf .dl = none ∧ fallen.channels.mode = .fallback ∧ watching.mode.power = .watch := by
  decide +kernel

theorem witness_FaultsBringFallback :
    State.reset.powered = true ∧
    (State.reset.elapse 1500000).reached ((some (⟨0, 0⟩ : Monitor)).map Monitor.since) 1500000 = true ∧
    (State.reset.elapse 1499999).reached ((some (⟨0, 0⟩ : Monitor)).map Monitor.since) 1500000 = false ∧
    (State.reset.elapse 500000).reached (some 0) 500000 = true ∧ (State.reset.elapse 500000).reached none 500000 = false ∧
    State.reset.channels.mode = .electronic ∧ fallen.channels.mode = .fallback ∧
    (running (.channelPressure none 600 3) false).channels.mode = .electronic ∧ State.reset.mode.running = none ∧
    (params []).count = 0 ∧ ready.mode.workshop = .ready ∧
    (∀ i, i = .ctl ∨ i = .dl ∨ i = .dr ∨ (i = .dx ∧ ready.settings.third = true) →
      (ready.analog i).validity ≠ .invalid) ∧
    (ready.setAnalog .dr ⟨[], none, .invalid, 0⟩).faultInputs.find?
      (fun i => decide (((ready.setAnalog .dr ⟨[], none, .invalid, 0⟩).analog i).validity = .invalid)) = some .dr :=
  ⟨rfl, by decide, by decide, by decide, by decide, rfl, rfl, rfl, rfl, rfl, rfl, fun i => by cases i <;> decide,
    by decide⟩

/-- The default limit is 333 and its probe threshold 199. -/
theorem witness_ProbesAndInterventionsAreFormed :
    (stuIn .armed).stability.state = .armed ∧ (stuIn .armed).stability.frozen = none ∧
    (stuIn .armed).stability.liveLimit = 333 ∧ 333 ≤ (-333 : Int).natAbs ∧ (332 : Int).natAbs < 333 ∧
    600 * 333 / 1000 ≤ (199 : Int).natAbs ∧ (198 : Int).natAbs < 600 * 333 / 1000 ∧
    (stuIn .armed).stability.lastNegative = none ∧ ((stuIn .armed).channel .chL).driverPart < 60 ∧
    60 ≤ (((stuIn .armed).setChannel .chL { (stuIn .armed).channel .chL with driverPart := 60 }).channel .chL).driverPart ∧
    (stuIn .armed).groupInUse .g1 = true ∧ (stuIn .armed).now < 0 + 1000000 ∧ (5 : Nat) ≤ 5 := by decide

/-- A part with the STU in a state, at a reference speed, with an acceleration or none. -/
def moving (x : StuState) (reference : Nat) (a : Option Int) : State :=
  let s := stuIn x
  (s.setStability { s.stability with accel := a }).setInputs { s.inputs with reference := reference }

/-- The bounds 200 and 150, the loss of LAT, an idle condition, and a new live limit. -/
theorem witness_ProbesAndInterventionsAreFormed_arming :
    (moving .idle 200 (some 0)).stability.state = .idle ∧ (moving .idle 200 (some 0)).idleCondition = false ∧
    200 ≤ (moving .idle 200 (some 0)).inputs.reference ∧ (moving .idle 199 (some 0)).inputs.reference < 200 ∧
    (moving .idle 200 (some 0)).stability.accel.isSome = true ∧ (moving .probing 150 none).stability.accel = none ∧
    (moving .armed 149 (some 0)).inputs.reference < 150 ∧ 150 ≤ (moving .armed 150 (some 0)).inputs.reference ∧
    ready.idleCondition = true ∧ ((moving .recovering 200 none).setMode ready.mode).idleCondition = true ∧
    (∃ s : State, s.stability.state = .armed ∧ s.stability.accel = some 250 ∧
      rolloverLimit s.settings.stability s.loadRatioInUse s.tyreDerate ≠ s.stability.liveLimit) := by
  and_intros <;> first
    | decide
    | exact ⟨(moving .armed 200 (some 250)).setStability
        { (moving .armed 200 (some 250)).stability with liveLimit := 400 }, by decide⟩

/-- A part in PROBING on CH-L with a posted pulse, at a driver-derived part. -/
def probing (part : Nat) : State :=
  let s := moving .probing 200 (some 250)
  (s.setStability { s.stability with inner := some .chL, pulse := some .posted }).setChannel .chL
    { s.channel .chL with driverPart := part }

/-- Wheel lift, the pulse at 59 and 60, the exit threshold 166 of the limit 333, and both sides of 100. -/
theorem witness_StabilityTimersRun_events :
    (probing 60).stability.state = .probing ∧ (probing 60).stability.inner = some .chL ∧
    (probing 60).stability.pulse = some .posted ∧ 60 ≤ ((probing 60).channel .chL).driverPart ∧
    ((probing 59).channel .chL).driverPart < 60 ∧ (probing 60).stability.inner ≠ some .chR ∧
    (probing 60).formedSlip .chL = some 1000 ∧ ((probing 60).channel .chL).slip = none ∧
    333 = (moving .intervening 200 none).stability.frozen.getD (moving .intervening 200 none).stability.liveLimit ∧
    (165 : Int).natAbs < 500 * 333 / 1000 ∧ 500 * 333 / 1000 ≤ (-166 : Int).natAbs ∧ 333 ≤ (-333 : Int).natAbs ∧
    (332 : Int).natAbs < 333 ∧ (moving .recovering 100 none).stability.state = .recovering ∧
    100 ≤ (moving .recovering 100 none).inputs.reference ∧ (moving .recovering 99 none).inputs.reference < 100 ∧
    (moving .intervening 100 none).idleCondition = false ∧ (moving .intervening 100 none).stability.accel = none ∧
    (moving .intervening 100 none).stability.latSince = none ∧
    (moving .intervening 100 (some 0)).stability.accel.isSome = (moving .intervening 100 (some 0)).stability.latSince.isNone ∧
    (∃ s : State, s.stability.state = .intervening ∧ s.idleCondition = false ∧ 100 ≤ s.inputs.reference ∧
      s.stability.accel.isSome = true ∧ s.stability.latSince.isSome = true) := by
  and_intros <;> first
    | decide
    | exact ⟨(moving .intervening 100 (some 0)).setStability
        { (moving .intervening 100 (some 0)).stability with latSince := some 0 }, by decide⟩

theorem witness_StabilityTimersRun :
    (stuIn .probing).powered = true ∧ (stuIn .probing).stability.state = .probing ∧
    ((stuIn .probing).setStability { (stuIn .probing).stability with probeSince := some 0 }).stability.probeSince = some 0 ∧
    0 + 300000 ≤ (stuIn .probing).now + 300000 ∧
    ((stuIn .probing).elapse 299999).reached (some 0) 300000 = false ∧ (stuIn .idle).stability.state ≠ .probing ∧
    Ramp.pressureAt ⟨false, 40, 0⟩ 460 (0 + 100000) = 0 ∧ Ramp.pressureAt ⟨false, 40, 0⟩ 460 (0 + 90000) = 4 ∧
    Ramp.pressureAt ⟨true, 0, 0⟩ 460 (0 + 10000) ≠ (stuIn .intervening).stability.pressure ∧
    Ramp.pressureAt ⟨true, 0, 0⟩ 460 (0 + 9) = (stuIn .intervening).stability.pressure ∧
    (stuIn .recovering).stability.state = .recovering ∧ (stuIn .intervening).stability.latSince = none ∧
    State.reset.stability.ramp = none ∧ ((stuIn .intervening).elapse 1000000).reached (some 0) 1000000 = true ∧
    ((stuIn .intervening).elapse 999999).reached (some 0) 1000000 = false := by decide

theorem witness_WorkshopIsEnteredAndLeft :
    State.reset.powered = true ∧ (params []).count = 0 ∧ State.reset.mode.power ≠ .watch ∧
    State.reset.mode.workshop = .off ∧ State.reset.inputs.reference ≤ 30 ∧ ready.mode.workshop ≠ .off ∧
    30 < (State.reset.setInputs { State.reset.inputs with reference := 31 }).inputs.reference ∧
    (ready.setMode { ready.mode with workshop := .pending }).mode.workshop = .pending ∧
    (State.reset.inputs.motion ≠ .standstill ∧ State.reset.stability.state = .idle ∧
      State.reset.hasEntry .emergency = false) ∧
    (State.reset.setInputs { State.reset.inputs with motion := .standstill }).inputs.motion = .standstill ∧
    (running (.sensorListen .sp1) false).mode.workshop = .stepRunning ∧
    stepCount (params [3, 20]).count = true ∧ stepCount (params [1, 0, 0, 0]).count = false ∧
    stepCount (params []).count = false := by decide

theorem witness_WorkshopIsEnteredAndLeft_steps :
    stepOf (params [3, 20]) = .ok (.sensorListen .sp1) ∧ stepOf (params [3, 22]) = .error (limitedAt 1 21) ∧
    stepOf (params [2, 3, 1]) = .ok (.lift .a3 true) ∧
    stepOf (params [1, 3, 3, 232, 10]) = .ok (.channelPressure (some .chX) 1000 10) ∧
    stepOf (params [1, 4, 3, 232, 1]) = .ok (.channelPressure none 1000 1) :=
  ⟨rfl, rfl, rfl, by simp [stepOf, pressureStep, params, byteAt, wordAt, stepChannelOf, ChannelId.ofNumber],
    by simp [stepOf, pressureStep, params, byteAt, wordAt, stepChannelOf]⟩

/-- A part in STEP RUNNING whose wheels come to 31. -/
def leaving (x : State) : State :=
  WheelId.list.foldl (fun s w => s.setWheel w { s.wheel w with speed := 31 }) x

theorem witness_WorkshopIsEnteredAndLeft_speed :
    (leaving (running (.sensorListen .sp1) false)).formedReference = 31 ∧
    (leaving (running (.sensorListen .sp1) false)).inputs.reference = 0 ∧
    (leaving (running (.sensorListen .sp1) false)).mode.workshop = .stepRunning ∧
    (leaving ready).formedReference = 31 ∧ (leaving ready).mode.workshop = .ready := by decide

/-- The parameters that spell no step, at the first value out of each range. -/
theorem witness_WorkshopIsEnteredAndLeft_errors :
    (params [0, 1]).count ≠ 0 ∧ (params []).count = 0 ∧ byteAt (params [0, 1]) 0 = 0 ∧ 3 < byteAt (params [4, 1]) 0 ∧
    (byteAt (params [1, 4]) 0 = 1 ∧ (params [1, 4]).count ≠ 5) ∧
    ((params [1, 0, 0, 0, 1]).count = 5 ∧ byteAt (params [1, 0, 0, 0, 1]) 1 = 0 ∧ 4 < byteAt (params [1, 5, 0, 0, 1]) 1) ∧
    (1000 < wordAt (params [1, 4, 3, 233, 1]) 2 ∧ wordAt (params [1, 4, 3, 232, 0]) 2 ≤ 1000 ∧
      byteAt (params [1, 4, 3, 232, 0]) 4 = 0 ∧ 10 < byteAt (params [1, 1, 3, 232, 11]) 4) ∧
    ((params [2, 0, 0]).count = 3 ∧ byteAt (params [2, 0, 0]) 1 = 0 ∧ 5 < byteAt (params [2, 6, 0]) 1 ∧
      1 < byteAt (params [2, 5, 2]) 2) ∧
    ((params [3, 22]).count = 2 ∧ 21 < byteAt (params [3, 22]) 1) := by decide

theorem witness_StepsAreStarted :
    ready.powered = true ∧ (params []).count = 0 ∧ (running (.sensorListen .sp1) false).mode.workshop = .stepRunning ∧
    State.reset.mode.workshop ≠ .stepRunning ∧ State.reset.mode.workshop ≠ .ready ∧ ready.mode.staged = none ∧
    (staged (.channelPressure none 600 3)).mode.workshop = .ready ∧
    (staged (.channelPressure none 600 3)).mode.staged = some (.channelPressure none 600 3) ∧
    (staged (.channelPressure none 600 3)).channels.mode = .electronic ∧ fallen.channels.mode = .fallback ∧
    (State.reset.axle .a4).layout.present = false ∧ (State.reset.axle .a3).layout.present = true ∧
    State.reset.refusesRaiseStep .a3 = true ∧ (raising 820 false).refusesRaiseStep .a3 = false ∧
    (lifting State.reset .up).refusesRaiseStep .a3 = false ∧ ((lifting State.reset .up).axle .a3).lift = .up ∧
    (lifting State.reset .raising).refusesRaiseStep .a3 = false ∧
    ((lifting State.reset .raising).axle .a3).lift = .raising ∧
    ((live 800).position (.road .a1 .lo)).state.isBound = true ∧
    (State.reset.position (.road .a1 .lo)).state.isBound = false := by decide +kernel

theorem witness_StepMeasurementsEnd :
    (running (.channelPressure none 600 3) false).powered = true ∧
    (running (.channelPressure none 600 3) false).mode.running = some ⟨.channelPressure none 600 3, 0, false, 0⟩ ∧
    0 + 2000000 ≤ ready.now + 2000000 ∧ ready.now + 1999999 < 0 + 2000000 ∧
    (running (.channelPressure none 600 3) true).mode.running = some ⟨.channelPressure none 600 3, 0, true, 0⟩ ∧
    0 + 3 * 1000000 ≤ ready.now + 3000000 ∧ ready.now + 2999999 < 0 + 3 * 1000000 ∧
    (running (.sensorListen .sp1) false).mode.running = some ⟨.sensorListen .sp1, 0, false, 0⟩ ∧
    0 + 60000000 ≤ ready.now + 60000000 ∧ ready.now + 59999999 < 0 + 60000000 := by decide

/-- A step that has come into band, one that has stayed out of it, and the changes of a LIFT step's axle. -/
theorem witness_StepMeasurementsEnd_passages :
    (withInput (running (.channelPressure (some .chL) 600 3) false) .dl 585).stepInBand (some .chL) 600 = true ∧
    (withInput (running (.channelPressure (some .chL) 600 3) false) .dl 584).stepInBand (some .chL) 600 = false ∧
    (lifting (running (.lift .a3 true) false) .raising).mode.running = some ⟨.lift .a3 true, 0, false, 0⟩ ∧
    ((lifting (running (.lift .a3 true) false) .raising).axle .a3).lift ≠ .up ∧
    ((lifting (running (.lift .a3 true) false) .raising).axle .a3).lift ≠ .lowering ∧
    ((lifting (running (.lift .a3 false) false) .lowering).axle .a3).lift ≠ .down := by decide +kernel

theorem witness_WakeLineAndRunOnAct :
    State.reset.powered = true ∧ State.reset.mode.wakeRaw = State.reset.mode.wakeTaken ∧
    (∃ s : State, s.mode.wakeRaw ≠ s.mode.wakeTaken ∧ s.mode.wakeRaw = false ∧ s.mode.power = .awake ∧
      s.inputs.motion = .standstill ∧ s.mode.wakeRawSince + 50000 ≤ s.now + 50000 ∧
      s.now + 49999 < s.mode.wakeRawSince + 50000) ∧
    State.reset.inputs.motion ≠ .standstill ∧ resting.mode.power = .runOn ∧ resting.mode.runOnSince = some 0 ∧
    resting.workshopLaw ∧ 0 + 60000000 ≤ resting.now + 60000000 ∧
    (resting.elapse 59999999).reached resting.mode.runOnSince 60000000 = false ∧ State.reset.mode.power ≠ .runOn ∧
    State.reset.inputs.motion = .rolling ∧ State.reset.inputs.reference < 5 ∧ State.reset.inputs.belowSince = some 0 ∧
    0 + 2000000 ≤ State.reset.now + 2000000 ∧
    (State.reset.elapse 1999999).reached State.reset.inputs.belowSince 2000000 = false ∧
    State.reset.mode.awaited = false :=
  ⟨rfl, rfl,
    ⟨(State.reset.setMode { State.reset.mode with wakeRaw := false }).setInputs
      { State.reset.inputs with motion := .standstill }, by decide⟩,
    by decide, rfl, rfl, fun _ => ⟨rfl, rfl⟩, by decide, by decide, by decide, rfl, by decide, rfl, by decide, by decide,
    rfl⟩

theorem snapshot_unbound (p : Position) : (ready.snapshot.positions.get p).bound = none := by
  rcases p with ⟨a, sl⟩ | _ | _ <;> first | (cases a <;> cases sl <;> rfl) | rfl

theorem unbound_tableLaw {x : Image} (h : ∀ p, (x.positions.get p).bound = none) : x.tableLaw :=
  ⟨fun p k => (by rw [h] at k; cases k), fun p _ _ k => (by rw [h] at k; cases k)⟩

theorem witness_TablesAreSavedAndRestored :
    State.reset.powered = true ∧ State.reset.store.saving = none ∧ saving.store.saving ≠ none ∧
    saving.store.saving = some ⟨State.reset.snapshot, 0⟩ ∧ 0 + 400000 ≤ saving.now + 400000 ∧
    saving.now + 399999 < 0 + 400000 ∧ ready.mode.workshop = .ready ∧ ready.store.valid = false ∧
    saved.mode.workshop = .ready ∧ saved.store.valid = true ∧ saved.store.image = some (programmed ready.snapshot) ∧
    saved.TableLaws := by
  refine ⟨rfl, rfl, nofun, rfl, by decide, by decide, rfl, rfl, rfl, rfl, rfl,
    { reset_tableLaws with image := fun x h => ?_ }⟩
  cases h
  exact unbound_tableLaw snapshot_unbound

/-- A part in READY with A3 liftable and in a lift state, and an image that gives A3 a layout and a mode. -/
def reloading (old : LiftState) (new : StoredAxle) : State :=
  (lifting ready old).setStore
    ⟨some (programmed { ready.snapshot with axles := ready.snapshot.axles.set .a3 new }), true, none⟩

theorem reloading_laws (old : LiftState) (new : StoredAxle) : (reloading old new).TableLaws where
  binding := reset_tableLaws.binding
  learn := reset_tableLaws.learn
  exist := fun p _ => by rw [show (reloading old new).position p = _ from reset_record p]; rfl
  id := reset_tableLaws.id
  image := fun x h => by cases h; exact unbound_tableLaw snapshot_unbound
  snapshot := fun _ h => (nomatch h)

/-- The layout that `lifting` gives A3, on a lift valve. -/
def onValve (second : Bool) : AxleLayout :=
  { ((lifting ready .up).axle .a3).layout with valve2 := second }

/-- Reloads of an UP A3: not liftable, on another lift valve, HELD DOWN, AUTO and HELD UP; and of one in transition. -/
theorem witness_TablesAreSavedAndRestored_lifts :
    ((reloading .up ⟨onValve false, .auto⟩).powered = true ∧ (params []).count = 0 ∧
      (reloading .up ⟨onValve false, .auto⟩).mode.workshop = .ready ∧
      (reloading .up ⟨onValve false, .auto⟩).store.valid = true ∧ (reloading .up ⟨onValve false, .auto⟩).TableLaws) ∧
    (∀ x, ((reloading x ⟨onValve false, .heldUp⟩).axle .a3).lift = x ∧
      (reloading x ⟨onValve true, .heldDown⟩).TableLaws) ∧
    (defaultAxles.a3.layout.liftable = false ∧ (onValve false).present = true ∧ (onValve false).liftable = true ∧
      (onValve true).valve2 ≠ ((lifting ready .up).axle .a3).layout.valve2 ∧
      (onValve false).valve2 = ((lifting ready .up).axle .a3).layout.valve2) :=
  ⟨⟨rfl, rfl, rfl, rfl, reloading_laws _ _⟩, fun _ => ⟨rfl, reloading_laws _ _⟩, by decide⟩

theorem witness_PowerOnAndRestartStartAfresh :
    State.reset.store.judged = none ∧ saved.store.judged = some ready.snapshot ∧ State.reset.powered = true ∧
    (params []).count = 0 ∧ saving.store.saving ≠ none ∧ State.reset.store.saving = none ∧
    State.reset.settings.policy = .keep ∧ State.reset.learnLaw ∧
    (∃ s : State, s.settings.policy = .restore ∧ s.store.valid = false) ∧
    ∃ s : State, s.settings.policy = .restore ∧ s.store.valid = true ∧ s.store.image = some (programmed ready.snapshot) :=
  ⟨rfl, by simp [Store.judged, saved, State.setStore, StoredImage.holds, programmed], rfl, rfl, nofun, rfl, rfl, reset_binding.2,
    ⟨State.reset.setSettings { defaultSettings with policy := .restore }, rfl, rfl⟩,
    ⟨saved.setSettings { defaultSettings with policy := .restore }, rfl, rfl, rfl⟩⟩

/-- R7, R58, R61: a power-on with the wire of S3 BROKEN. -/
theorem test_powerOn_wires :
    let u := after (.powerOn 7 true ⟨true, true, false, true, true, true⟩) State.reset
    (u.wheel .s3).sound = false ∧ (u.wheel .s3).valid = true ∧ (u.wheel .s3).wireSince = 7 ∧ (u.wheel .s4).sound = true ∧
      u.inputs.motion = .rolling ∧ u.inputs.belowSince = some 7 ∧ u.pair .a1 .left = .unordered ∧
      u.pair .a4 .left = .notAPair := by decide +kernel

/-- A default image has G1 in use and G2 not; a part in WATCH with the wake line HIGH, and with it LOW in each of the two
motions; a part with an entry of EMERGENCY called for and one without; a Restart that loads an image. -/
theorem witness_PowerOnAndRestartStartAfresh_restart :
    (defaultAxles.a1.layout.present = true ∧ defaultAxles.a1.layout.group = .g1) ∧
    (∀ a, (defaultAxles.get a).layout.present = false ∨ (defaultAxles.get a).layout.group ≠ .g2) ∧
    (watching.mode.power = .watch ∧ watching.mode.wakeTaken = true ∧ State.reset.mode.power ≠ .watch) ∧
    (∃ s : State, s.mode.power = .watch ∧ s.mode.wakeTaken = false ∧ s.inputs.motion ≠ .standstill) ∧
    (∃ s : State, s.mode.power = .watch ∧ s.mode.wakeTaken = false ∧ s.inputs.motion = .standstill) ∧
    ((saved.setSettings { defaultSettings with policy := .restore }).settings.policy = .restore ∧
      (saved.setSettings { defaultSettings with policy := .restore }).store.valid = true ∧
      (saved.setSettings { defaultSettings with policy := .restore }).TableLaws) ∧
    (State.reset.recreateEntries.hasEntry .emergency = false ∧
      (withInput State.reset .sup 440).recreateEntries.hasEntry .emergency = true) ∧
    (State.reset.formedReference = State.reset.inputs.reference ∧ State.reset.restart.inputs.motion ≠ .moving ∧
      watching.restart.inputs.motion ≠ .moving) :=
  ⟨⟨rfl, rfl⟩, fun a => by cases a <;> decide, by decide,
    ⟨State.reset.setMode { State.reset.mode with power := .watch, wakeTaken := false }, by decide⟩,
    ⟨(State.reset.setMode { State.reset.mode with power := .watch, wakeTaken := false }).setInputs
      { State.reset.inputs with motion := .standstill }, by decide⟩,
    ⟨rfl, rfl, { reset_tableLaws with image := fun _ h => by cases h; exact unbound_tableLaw snapshot_unbound }⟩,
    by decide +kernel, by decide +kernel⟩

/-- R28: a Restart 5208 microseconds after the last character leaves a character that ends 500 microseconds later out of
every telegram. -/
theorem test_restart_discards_character :
    let s := received State.reset []
    let t := (s.elapse 5208).restart
    s.intake.rx.synced = true ∧ ((t.elapse 500).takeCharacter 0x5A#8 true).intake.rx.chars = [] := by decide +kernel

/-- R173: an A3 held down for an STU that acts: the Restart raises it, and the level that its evaluation changes is not
pending afterwards. -/
theorem test_restart_clears_raise :
    let s := heldUp .down .intervening 0 820
    let t := s.setPosition (.road .a3 .lo) { s.position (.road .a3 .lo) with
      state := .live, bound := some bound1, pressure := some 700, pe := some 300, pressureLevel := .lowWarning }
    (t.restart.axle .a3).lift = .raising ∧ (t.restart.position (.road .a3 .lo)).pressureLevel ≠ .lowWarning ∧
      t.restart.port.notices.tyreLevel = 0 := by decide +kernel

/-- CTL at 9, 10, 14 and 15, SUP at 449, 450, 499 and 500, and the other inputs. -/
theorem witness_ConversionsAreTaken :
    (steady 9).validity = .valid ∧ AnalogInput.fresh.validity ≠ .valid ∧ AnalogInput.fresh.count ≠ 3 ∧
    (⟨[1, 1, 1], none, .starting, 3⟩ : AnalogInput).count = 3 ∧ State.reset.powered = true ∧
    State.reset.analogInUse .b2 = false ∧ State.reset.analogInUse .ctl = true ∧
    ((steady 9).taken (convertedValue .ctl 540) true).average = some 9 ∧
    ((steady 10).taken (convertedValue .ctl 540) true).average = some 10 ∧
    ((steady 14).taken (convertedValue .ctl 560) true).average = some 14 ∧
    ((steady 15).taken (convertedValue .ctl 560) true).average = some 15 ∧
    (State.reset.takeControl 15).hasEntry .pneumatic = true ∧ State.reset.hasEntry .pneumatic = false ∧
    ((steady 9).taken 0 false).validity = .invalid ∧
    ((steady 449).taken (convertedValue .sup 2296) true).average = some 449 ∧
    ((steady 450).taken (convertedValue .sup 2300) true).average = some 450 ∧
    ((steady 499).taken (convertedValue .sup 2496) true).average = some 499 ∧
    ((steady 500).taken (convertedValue .sup 2500) true).average = some 500 ∧
    State.reset.createEmergency.hasEntry .emergency = true ∧ State.reset.hasEntry .emergency = false ∧
    AnalogId.dl = ChannelId.chL.delivered ∧ State.reset.channels.mode = .electronic ∧ State.reset.mode.power ≠ .watch ∧
    AnalogId.b1 = GroupId.g1.bellows ∧ State.reset.analogInUse .b1 = true ∧
    ((State.reset.setGroup .g1 { State.reset.group .g1 with status := .valid }).group .g1).status = .valid := by
  decide +kernel

/-- The first average of an input, its failure from STARTING, and the groups and channels that take them. -/
theorem witness_ConversionsAreTaken_events :
    ((⟨[1, 1, 1], none, .starting, 3⟩ : AnalogInput).taken 1 true).validity = .valid ∧
    ((⟨[1, 1, 1], none, .starting, 3⟩ : AnalogInput).taken 1 true).average = some 1 ∧
    (AnalogInput.fresh.taken 0 false).validity = .invalid ∧ (State.reset.analog .lat).validity = .starting ∧
    State.reset.analogInUse .lat = true ∧ State.reset.analogInUse .dl = true ∧ (0 : Int) ≤ 1 ∧
    (State.reset.group .g1).holdTransition = false ∧ (State.reset.group .g1).holdRoll = false ∧
    (((State.reset.setGroup .g1 { State.reset.group .g1 with holdRoll := true }).group .g1).holdRoll = true) ∧
    ((withInput State.reset .lat 0).analog .lat).validity = .valid ∧
    ((steady 0).taken (convertedValue .lat 2500) (inBandReading .lat 2500)).average = some 0 := by decide

theorem witness_WheelInputsFollowTheirEdges :
    State.reset.referenceSet ≠ [] ∧
    ((AxleId.list.foldl (fun s a => s.setAxle a { s.axle a with lift := .up }) State.reset).referenceSet = []) ∧
    State.reset.powered = true ∧ (State.reset.wheel .s1).valid = true ∧ (State.reset.wheel .s1).lastEdge = none ∧
    (∃ s : State, (s.wheel .s1).valid = true ∧ (s.wheel .s1).lastEdge = some 0 ∧ s.now + 199 - 0 < 200 ∧
      200 ≤ s.now + 200 - 0 ∧ s.now + 0 ≤ 0 ∧ 0 < s.now + 1 ∧ 0 + 1000000 ≤ s.now + 1000000 ∧ s.now + 999999 < 0 + 1000000) ∧
    (∃ s : State, (s.wheel .s1).valid = true ∧ (s.wheel .s1).sound = false ∧
      (s.wheel .s1).wireSince + 20000 ≤ s.now + 20000 ∧ s.now + 19999 < (s.wheel .s1).wireSince + 20000) ∧
    (∃ s : State, (s.wheel .s1).valid = false ∧ (s.wheel .s1).sound = true ∧
      (s.wheel .s1).wireSince + 500000 ≤ s.now + 500000 ∧ s.now + 499999 < (s.wheel .s1).wireSince + 500000) ∧
    (20 < 21 ∧ 5 ≤ 5 ∧ 5 ≤ 20 ∧ 4 < 5) :=
  ⟨by decide, by decide, rfl, rfl, rfl,
    ⟨State.reset.setWheel .s1 { State.reset.wheel .s1 with lastEdge := some 0 }, by decide⟩,
    ⟨State.reset.setWheel .s1 { State.reset.wheel .s1 with sound := false }, by decide⟩,
    ⟨State.reset.setWheel .s1 { State.reset.wheel .s1 with valid := false }, by decide⟩, by decide⟩

/-- R84: an edge at S5 that takes the wheel of the UP axle A3 above 50 at a reference speed of 101, and one that does not. -/
theorem witness_WheelInputsFollowTheirEdges_faults :
    (turning 0 101).axle .a3 = { (turning 0 101).axle .a3 with lift := .up } ∧
    ((turning 0 101).axle .a3).layout.left = some .s5 ∧ ((turning 0 101).axle .a3).layout.present = true ∧
    ((turning 0 101).axle .a3).layout.liftable = true ∧ 100 < (turning 0 101).inputs.reference ∧
    ((turning 0 101).setWheel .s5 { (turning 0 101).wheel .s5 with speed := 51 }).wheelTurns .a3 = true ∧
    ((turning 0 101).setWheel .s5 { (turning 0 101).wheel .s5 with speed := 50 }).wheelTurns .a3 = false ∧
    (((turning 0 101).setWheel .s5 { (turning 0 101).wheel .s5 with speed := 51 }).judgeWheelFaults .s5).port.notices.liftFault
      = bit 2 := by decide +kernel

/-- A reference speed that comes to 31 in RUN-ON and in WATCH, one that falls below 5 in MOVING, and one that is kept. -/
theorem witness_WheelInputsFollowTheirEdges_motion :
    ((leaving resting).formedReference = 31 ∧ (leaving resting).inputs.reference = 0 ∧
      (leaving resting).inputs.motion ≠ .moving ∧ (leaving resting).mode.power = .runOn) ∧
    ((leaving watching).formedReference = 31 ∧ (leaving watching).mode.power = .watch) ∧
    (∃ s : State, s.inputs.motion = .moving ∧ s.formedReference < 5 ∧ s.formedReference ≠ s.inputs.reference) ∧
    State.reset.formedReference = State.reset.inputs.reference :=
  ⟨by decide, by decide, ⟨State.reset.setInputs { State.reset.inputs with motion := .moving, reference := 31 }, by decide⟩,
    by decide⟩

end Sys2Proof.Tests
end

section
/-! SUPPORT. The view of a state that the laws of the wheel position table and of the ranges read: the configuration with
the stored image, and what the records, the learn window and the candidate list hold of their sensors. Most operations
leave it as it is. -/
namespace Sys2Proof.Machine

/-- Of a position record: its state, its binding and its setpoints. -/
structure RecordView where
  state : PositionState
  bound : Option Binding
  pl : Nat
  pe : Option Nat

def PositionRecord.view (r : PositionRecord) : RecordView := ⟨r.state, r.bound, r.pl, r.pe⟩

structure TableView where
  settings : Settings
  store : Store
  layout : PerAxle AxleLayout
  records : PerPosition RecordView
  target : Option Position
  candidates : List SensorId
  batchSize : Nat

def State.view (s : State) : TableView where
  settings := s.settings
  store := s.store
  layout := s.loads.axles.map AxleRecord.layout
  records := s.tyres.positions.map PositionRecord.view
  target := s.intake.window.map LearnWindow.target
  candidates := s.intake.candidates.map fun c => c.bound.id
  batchSize := s.port.batchSize

theorem PerPosition.ext_get {α : Type} {t u : PerPosition α} (h : ∀ p, t.get p = u.get p) : t = u := by
  obtain ⟨r, x, y⟩ := t
  obtain ⟨r', x', y'⟩ := u
  have hr : r = r' := PerAxle.ext_get fun a => PerSlot.ext_get fun sl => h (.road a sl)
  rw [hr, show x = x' from h .sp1, show y = y' from h .sp2]

/-! ### Reading a view -/

section
variable {s t : State} (h : t.view = s.view)
include h

theorem State.settings_of_view : t.settings = s.settings := congrArg TableView.settings h

theorem State.store_of_view : t.store = s.store := congrArg TableView.store h

theorem State.layout_of_view (a : AxleId) : (t.axle a).layout = (s.axle a).layout := by
  have := congrArg (fun v => v.layout.get a) h
  simpa [State.view, State.axle] using this

theorem State.record_of_view (p : Position) : (t.position p).view = (s.position p).view := by
  have := congrArg (fun v => v.records.get p) h
  simpa [State.view, State.position] using this

theorem State.state_of_view (p : Position) : (t.position p).state = (s.position p).state :=
  congrArg RecordView.state (State.record_of_view h p)

theorem State.bound_of_view (p : Position) : (t.position p).bound = (s.position p).bound :=
  congrArg RecordView.bound (State.record_of_view h p)

theorem State.pl_of_view (p : Position) : (t.position p).pl = (s.position p).pl :=
  congrArg RecordView.pl (State.record_of_view h p)

theorem State.pe_of_view (p : Position) : (t.position p).pe = (s.position p).pe :=
  congrArg RecordView.pe (State.record_of_view h p)

theorem State.target_of_view :
    t.intake.window.map LearnWindow.target = s.intake.window.map LearnWindow.target :=
  congrArg TableView.target h

theorem State.candidates_of_view :
    (t.intake.candidates.map fun c => c.bound.id) = s.intake.candidates.map fun c => c.bound.id :=
  congrArg TableView.candidates h

theorem State.batchSize_of_view : t.port.batchSize = s.port.batchSize := congrArg TableView.batchSize h

theorem State.positionExists_of_view (p : Position) : t.positionExists p = s.positionExists p := by
  have hl := State.layout_of_view h
  simp only [State.axle] at hl
  cases p <;> simp [State.positionExists, layoutHas, hl]

end

theorem PerAxle.map_set_of_eq {α β : Type} {f : α → β} {t : PerAxle α} {i : AxleId} {x : α} (h : f x = f (t.get i)) :
    (t.set i x).map f = t.map f := by
  refine PerAxle.ext_get fun j => ?_
  rw [PerAxle.get_map, PerAxle.get_map, PerAxle.get_set]
  split
  · subst j; exact h
  · rfl

theorem PerPosition.map_set_of_eq {α β : Type} {f : α → β} {t : PerPosition α} {p : Position} {x : α}
    (h : f x = f (t.get p)) : (t.set p x).map f = t.map f := by
  refine PerPosition.ext_get fun q => ?_
  rw [PerPosition.get_map, PerPosition.get_map, PerPosition.get_set]
  split
  · subst q; exact h
  · rfl

/-- A view is known by its parts. -/
theorem State.view_ext {s t : State} (h1 : t.settings = s.settings) (h2 : t.store = s.store)
    (h3 : ∀ a, (t.axle a).layout = (s.axle a).layout) (h4 : ∀ p, (t.position p).view = (s.position p).view)
    (h5 : t.intake = s.intake) (h6 : t.port.batchSize = s.port.batchSize) : t.view = s.view := by
  have hl : t.loads.axles.map AxleRecord.layout = s.loads.axles.map AxleRecord.layout :=
    PerAxle.ext_get fun a => by simpa [State.axle] using h3 a
  have hr : t.tyres.positions.map PositionRecord.view = s.tyres.positions.map PositionRecord.view :=
    PerPosition.ext_get fun p => by simpa [State.position] using h4 p
  simp [State.view, h1, h2, hl, hr, h5, h6]

/-! ### Updates that leave the view -/

section
variable (s : State)

@[simp] theorem State.setInputs_view (x : Inputs) : (s.setInputs x).view = s.view := rfl
@[simp] theorem State.setDemands_view (x : Demands) : (s.setDemands x).view = s.view := rfl
@[simp] theorem State.setChannels_view (x : Channels) : (s.setChannels x).view = s.view := rfl
@[simp] theorem State.setStability_view (x : Stability) : (s.setStability x).view = s.view := rfl
@[simp] theorem State.setMode_view (x : Mode) : (s.setMode x).view = s.view := rfl
@[simp] theorem State.setPending_view (x : List Instr) : (s.setPending x).view = s.view := rfl
@[simp] theorem State.setNotices_view (x : Notices) : (s.setNotices x).view = s.view := rfl
@[simp] theorem State.elapse_view (dt : Nat) : (s.elapse dt).view = s.view := rfl
@[simp] theorem State.setPair_view (a : AxleId) (sd : Side) (x : PairState) : (s.setPair a sd x).view = s.view := rfl
@[simp] theorem State.setGroup_view (g : GroupId) (x : GroupRecord) : (s.setGroup g x).view = s.view := rfl
@[simp] theorem State.setChannel_view (c : ChannelId) (x : ChannelRecord) : (s.setChannel c x).view = s.view := rfl
@[simp] theorem State.setAnalog_view (i : AnalogId) (x : AnalogInput) : (s.setAnalog i x).view = s.view := rfl
@[simp] theorem State.setWheel_view (w : WheelId) (x : WheelInput) : (s.setWheel w x).view = s.view := rfl

variable {s}

theorem State.setPort_view {x : Port} (h : x.batchSize = s.port.batchSize) : (s.setPort x).view = s.view := by
  simp [State.view, h]

theorem State.setAxle_view {a : AxleId} {r : AxleRecord} (h : r.layout = (s.axle a).layout) :
    (s.setAxle a r).view = s.view := by
  have : (s.setAxle a r).loads.axles.map AxleRecord.layout = s.loads.axles.map AxleRecord.layout :=
    PerAxle.map_set_of_eq h
  simp [State.view, this]

theorem State.setPosition_view {p : Position} {r : PositionRecord} (h : r.view = (s.position p).view) :
    (s.setPosition p r).view = s.view := by
  have : (s.setPosition p r).tyres.positions.map PositionRecord.view = s.tyres.positions.map PositionRecord.view :=
    PerPosition.map_set_of_eq h
  simp [State.view, this]

theorem State.setIntake_view {x : Intake} (h1 : x.window.map LearnWindow.target = s.intake.window.map LearnWindow.target)
    (h2 : x.candidates = s.intake.candidates) : (s.setIntake x).view = s.view := by
  simp [State.view, h1, h2]

theorem PositionRecord.SameSensor.view {r x : PositionRecord} (h : r.SameSensor x) : x.view = r.view := by
  simp [PositionRecord.view, h.state, h.bound, h.pl, h.pe]

end

/-! ### Operations that leave the view -/

theorem Offers.view {s t : State} (h : Offers s t) : t.view = s.view :=
  State.view_ext h.settings h.store h.layout (fun p => (h.sensor p).view) h.intake h.batchSize

theorem Settles.view {s t : State} (h : Settles s t) : t.view = s.view := h.offers.view

theorem LoadChange.view {s t : State} (h : LoadChange s t) : t.view = s.view := h.settles.view

theorem Steady.view {s t : State} (h : Steady s t) : t.view = s.view := h.settles.view

section
variable (s : State)

@[simp] theorem State.settle_view : s.settle.view = s.view := (Settles.settle s).view

@[simp] theorem State.clockOut_view : s.clockOut.view = s.view := State.setPort_view rfl
@[simp] theorem State.endBatch_view : s.endBatch.view = s.view := State.setPort_view rfl
@[simp] theorem State.ageDetail_view : s.ageDetail.view = s.view := State.setPort_view rfl
@[simp] theorem State.taken_view (dt : Nat) : (s.taken dt).view = s.view := by simp [State.taken]
@[simp] theorem State.reply_view (code : Nat) (a : Answer) : (s.reply code a).view = s.view := State.setPort_view rfl

@[simp] theorem State.carry_view (data : State → List Byte) : (s.carry data).1.view = s.view := s.settle_view
@[simp] theorem State.tell_view (data : State → List Byte) : (s.tell data).1.view = s.view := rfl
@[simp] theorem State.refuse_view (c : RefusalCode) (n : Named) : (s.refuse c n).1.view = s.view := rfl

@[simp] theorem State.postEntry_view (x : Source) (d : Demand) : (s.postEntry x d).view = s.view := by
  unfold State.postEntry; split <;> rfl
@[simp] theorem State.retireEntry_view (x : Source) : (s.retireEntry x).view = s.view := rfl
@[simp] theorem State.enterWorkshopState_view (m : Mode) : (s.enterWorkshopState m).view = s.view := by
  unfold State.enterWorkshopState; split <;> split <;> rfl
@[simp] theorem State.stepDone_view : s.stepDone.view = s.view := s.enterWorkshopState_view _
@[simp] theorem State.stepFaults_view (c : StepFault) : (s.stepFaults c).view = s.view := s.enterWorkshopState_view _
@[simp] theorem State.workshopOff_view : s.workshopOff.view = s.view := (LoadChange.workshopOff s).view
@[simp] theorem State.reportTelegram_view (p : Position) : (s.reportTelegram p).view = s.view := by
  unfold State.reportTelegram
  split
  · split
    · exact s.stepDone_view
    · rfl
  · rfl

@[simp] theorem State.evaluate_view (p : Position) : (s.evaluate p).view = s.view := (LoadChange.evaluate s p).view
@[simp] theorem State.noteLevels_view (p : Position) (r : PositionRecord) : (s.noteLevels p r).view = s.view :=
  (LoadChange.noteLevels s p r).view
@[simp] theorem State.comparePair_view (a : AxleId) (sd : Side) : (s.comparePair a sd).view = s.view :=
  (LoadChange.comparePair s a sd).view
@[simp] theorem State.comparePairOf_view (p : Position) : (s.comparePairOf p).view = s.view :=
  (LoadChange.comparePairOf s p).view
@[simp] theorem State.setLift_view (a : AxleId) (x : LiftState) : (s.setLift a x).view = s.view :=
  (LoadChange.setLift s a x).view
@[simp] theorem State.lowerAxle_view (a : AxleId) : (s.lowerAxle a).view = s.view := (LoadChange.lowerAxle s a).view
@[simp] theorem State.forceLower_view : s.forceLower.view = s.view := (LoadChange.forceLower s).view
@[simp] theorem State.boundGroup_view (g : GroupId) : (s.boundGroup g).view = s.view := (LoadChange.boundGroup s g).view
@[simp] theorem State.formLoad_view (g : GroupId) : (s.formLoad g).view = s.view := (LoadChange.formLoad s g).view
@[simp] theorem State.releaseGroup_view (g : GroupId) : (s.releaseGroup g).view = s.view :=
  (LoadChange.releaseGroup s g).view
@[simp] theorem State.testRaise_view (g : GroupId) : (s.testRaise g).view = s.view := (LoadChange.testRaise s g).view
@[simp] theorem State.recount_view (g : GroupId) : (s.recount g).view = s.view := rfl
@[simp] theorem State.endRaise_view (g : GroupId) (k : Bool) : (s.endRaise g k).view = s.view :=
  (LoadChange.endRaise s g k).view
@[simp] theorem State.followTransition_view (g : GroupId) : (s.followTransition g).view = s.view :=
  (LoadChange.followTransition s g).view
@[simp] theorem State.followLifts_view : s.followLifts.view = s.view := (LoadChange.followLifts s).view
@[simp] theorem State.judgeLiftFault_view (a : AxleId) : (s.judgeLiftFault a).view = s.view :=
  (LoadChange.judgeLiftFault s a).view
@[simp] theorem State.evaluateOffering_view (p : Position) : (s.evaluateOffering p).view = s.view :=
  (LoadChange.evaluateOffering s p).view
@[simp] theorem State.stuIdle_view : s.stuIdle.view = s.view := (Steady.stuIdle s).view
@[simp] theorem State.takeDelivered_view (c : ChannelId) (n : Nat) : (s.takeDelivered c n).view = s.view :=
  (Steady.takeDelivered s c n).view
@[simp] theorem State.takeLateral_view (a : Int) : (s.takeLateral a).view = s.view := (Steady.takeLateral s a).view
@[simp] theorem State.followStability_view : s.followStability.view = s.view := (Steady.followStability s).view
@[simp] theorem State.arm_view : s.arm.view = s.view := (Steady.arm s).view
@[simp] theorem State.enterRelease_view (c : ChannelId) : (s.enterRelease c).view = s.view :=
  (Steady.enterRelease s c).view
@[simp] theorem State.enterMotion_view (m : Motion) : (s.enterMotion m).view = s.view := (Steady.enterMotion s m).view
@[simp] theorem State.wake_view : s.wake.view = s.view := (Steady.wake s).view
@[simp] theorem State.followReference_view : s.followReference.view = s.view := (Steady.followReference s).view
@[simp] theorem State.followDemands_view : s.followDemands.view = s.view := (Settles.followDemands s).view
@[simp] theorem State.rollEnds_view : s.rollEnds.view = s.view := (LoadChange.rollEnds s).view
@[simp] theorem State.retireStability_view : s.retireStability.view = s.view := rfl
@[simp] theorem State.stuArmed_view : s.stuArmed.view = s.view := State.rollEnds_view _

/-- A fold of operations that leave the view. -/
theorem State.foldl_view {α : Type} {f : State → α → State} (hf : ∀ s a, (f s a).view = s.view) (l : List α) (s : State) :
    (l.foldl f s).view = s.view := by
  induction l generalizing s with
  | nil => rfl
  | cons a l ih => exact (ih _).trans (hf s a)

end

/-! ### Commands and exchanges -/

section
variable {s : State} {dt code : Nat} {p : Params} {accepts : Nat → Bool} {own : State → State × Answer} {named : Named}

theorem State.live_view {f : State → State} (hf : ∀ u, (f u).view = u.view) : (s.live dt f).view = s.view := by
  unfold State.live; split
  · rw [hf, State.elapse_view]
  · exact s.elapse_view dt

theorem State.answer_view (h : ∀ u, (own u).1.view = u.view) : (s.answer p accepts own named).1.view = s.view := by
  unfold State.answer; split
  · exact h s
  · rfl

theorem State.request_view (h : ∀ u, (own u).1.view = u.view) : (s.request code p accepts own named).view = s.view := by
  unfold State.request
  simp [State.answer_view h]

theorem State.gated_view {x : State × Answer} (h : x.1.view = s.view) : (s.gated x).1.view = s.view := by
  unfold State.gated; split
  · exact h
  · rfl

theorem State.withPosition_view {i : Nat} {n m : Named} {own : Position → State × Answer}
    (h : ∀ q, (own q).1.view = s.view) : (s.withPosition i n m own).1.view = s.view := by
  unfold State.withPosition; split
  · rfl
  · split
    · exact h _
    · rfl

end

end Sys2Proof.Machine
end

section
/-! SUPPORT. The commands that leave the view: reads, brakes, loads, inputs, the stability and the workshop record. -/
namespace Sys2Proof.Machine

variable (s : State)

/-! ### Own rules of requests -/

theorem State.postDemand_view (p : Params) : (s.postDemand p).1.view = s.view := by
  unfold State.postDemand; split
  · rfl
  · split
    · rfl
    · simp

theorem State.readBrakeState_view (p : Params) : (s.readBrakeState p).1.view = s.view := by
  unfold State.readBrakeState; split <;> rfl

theorem State.readStability_view (p : Params) : (s.readStability p).1.view = s.view := by
  unfold State.readStability; split <;> rfl

theorem State.clearFault_view : s.clearFault.view = s.view := by
  unfold State.clearFault; split <;> rfl

theorem State.clearBrakeFault_view : s.clearBrakeFault.1.view = s.view := by
  refine State.gated_view ?_
  split
  · rfl
  · simp [State.clearFault_view]

theorem State.nextPositions_view (n l : Nat) : (s.nextPositions n l).1.view = s.view := State.setPort_view rfl

theorem State.nextCandidates_view (n : Nat) : (s.nextCandidates n).1.view = s.view := State.setPort_view rfl

theorem State.readPositions_view (p : Params) : (s.readPositions p).1.view = s.view := by
  unfold State.readPositions; dsimp only; split
  · rfl
  · exact s.nextPositions_view _ _

theorem State.continueRead_view : s.continueRead.1.view = s.view := by
  unfold State.continueRead; split
  · rfl
  · exact s.nextPositions_view _ _
  · exact s.nextCandidates_view _

theorem State.faultDetail_view : s.faultDetail.1.view = s.view := by
  unfold State.faultDetail; split
  · exact State.setPort_view rfl
  · rfl

theorem State.takeMode_view (a : AxleId) (m : LiftMode) : (s.takeMode a m).view = s.view := by
  have hset : ∀ r : AxleRecord, r.layout = (s.axle a).layout → (s.setAxle a r).view = s.view :=
    fun _ => State.setAxle_view
  cases m with
  | auto => exact hset _ rfl
  | heldDown => exact (State.lowerAxle_view _ a).trans (hset _ rfl)
  | heldUp =>
    simp only [State.takeMode, State.holdUp]
    split
    · split
      · exact (State.setLift_view _ a _).trans (hset _ rfl)
      · refine (State.setAxle_view ?_).trans (hset _ rfl)
        rfl
    · exact hset _ rfl

theorem State.setLiftMode_view (p : Params) : (s.setLiftMode p).1.view = s.view := by
  unfold State.setLiftMode; split
  · split; · rfl
    split; · rfl
    split; · rfl
    split
    · rfl
    · simp [State.takeMode_view]
  · rfl

theorem State.enterWorkshop_view : s.enterWorkshop.1.view = s.view := by
  unfold State.enterWorkshop
  split; · rfl
  split; · rfl
  split; · rfl
  simp

theorem State.leaveWorkshop_view : s.leaveWorkshop.1.view = s.view := by
  unfold State.leaveWorkshop; split <;> simp

theorem State.stageStep_view (p : Params) : (s.stageStep p).1.view = s.view := by
  unfold State.stageStep
  split; · rfl
  split <;> rfl

theorem State.startLift_view (a : AxleId) (raise : Bool) : (s.startLift a raise).view = s.view := by
  unfold State.startLift
  split <;> split <;> simp

theorem State.startStep_view (x : Step) : (s.startStep x).view = s.view := by
  cases x with
  | channelPressure c v h => exact s.postEntry_view _ _
  | lift a r => exact s.startLift_view a r
  | sensorListen q => simp only [State.startStep]; split <;> simp

theorem State.runStep_view : s.runStep.1.view = s.view := by
  unfold State.runStep
  split; · rfl
  split; · rfl
  split; · rfl
  split
  · rfl
  · simp [State.runStaged, State.startStep_view]

/-! ### Events of the inputs -/

theorem State.takeControl_view (v : Nat) : (s.takeControl v).view = s.view := by
  unfold State.takeControl
  split
  · split <;> simp
  · split <;> simp

theorem State.takeSupply_view (v : Nat) : (s.takeSupply v).view = s.view := by
  unfold State.takeSupply
  split
  · split <;> simp
  · split <;> simp [State.createEmergency]

theorem State.bellowsInvalid_view (g : GroupId) (t : Nat) : (s.bellowsInvalid g t).view = s.view := by
  unfold State.bellowsInvalid; split <;> rfl

theorem State.bellowsValid_view (g : GroupId) : (s.bellowsValid g).view = s.view := by
  unfold State.bellowsValid
  split
  · dsimp only; split <;> simp
  · rfl

theorem State.controlEvent_view (e : AnalogEvent) : (s.controlEvent e).view = s.view := by
  cases e <;> simp [State.controlEvent, State.takeControl_view]

theorem State.supplyEvent_view (e : AnalogEvent) : (s.supplyEvent e).view = s.view := by
  cases e <;> simp [State.supplyEvent, State.takeSupply_view]

theorem State.deliveredEvent_view (c : ChannelId) (e : AnalogEvent) : (s.deliveredEvent c e).view = s.view := by
  cases e <;> simp [State.deliveredEvent]

theorem State.bellowsEvent_view (g : GroupId) (e : AnalogEvent) : (s.bellowsEvent g e).view = s.view := by
  cases e <;> simp [State.bellowsEvent, State.bellowsValid_view, State.bellowsInvalid_view]

theorem State.lateralEvent_view (e : AnalogEvent) : (s.lateralEvent e).view = s.view := by
  cases e <;> simp [State.lateralEvent]

theorem State.analogEvent_view (i : AnalogId) (e : AnalogEvent) : (s.analogEvent i e).view = s.view := by
  cases i with
  | ctl => exact s.controlEvent_view e
  | sup => exact s.supplyEvent_view e
  | lat => exact s.lateralEvent_view e
  | b1 | b2 => exact s.bellowsEvent_view _ e
  | dl | dr | dx => exact s.deliveredEvent_view _ e

theorem State.convert_view (i : AnalogId) (mv : Nat) : (s.convert i mv).view = s.view := by
  unfold State.convert
  dsimp only; split <;> simp [State.analogEvent_view]

theorem State.judgeWheelFaults_view (w : WheelId) : (s.judgeWheelFaults w).view = s.view := by
  refine State.foldl_view (fun t a => ?_) _ s
  split
  · exact t.judgeLiftFault_view a
  · rfl

theorem State.wheelEvent_view (w : WheelId) (x : WheelInput) : (s.wheelEvent w x).view = s.view := by
  unfold State.wheelEvent
  dsimp only; split <;> simp [State.judgeWheelFaults_view]

theorem State.edge_view (w : WheelId) : (s.edge w).view = s.view := by
  unfold State.edge
  dsimp only
  split
  · split
    · rfl
    · split
      · rfl
      · exact s.wheelEvent_view w _
  · rfl

theorem State.decay_view (w : WheelId) : (s.decay w).view = s.view := by
  unfold State.decay
  dsimp only
  split
  · split
    · rfl
    · exact s.wheelEvent_view w _
  · rfl

theorem State.standStill_view : s.standStill.view = s.view := by
  unfold State.standStill; split <;> simp

/-! ### Events of the loads, the brakes and the stability unit -/

theorem State.lowerGroup_view (g : GroupId) : (s.lowerGroup g).view = s.view := by
  unfold State.lowerGroup
  dsimp only
  split
  · rfl
  · rw [State.settle_view]
    exact State.foldl_view State.lowerAxle_view _ s

theorem State.faultPressureStep_view : s.faultPressureStep.view = s.view := by
  unfold State.faultPressureStep
  split
  · rfl
  · split <;> simp

theorem State.enterFallback_view (c : FallbackCause) : (s.enterFallback c).view = s.view := by
  unfold State.enterFallback
  split
  · rfl
  · simp [State.faultPressureStep_view]

theorem State.movePressure_view (v : Nat) : (s.movePressure v).view = s.view := by
  unfold State.movePressure
  split
  · rfl
  · exact State.postEntry_view _ _ _

theorem State.stepRamp_view : s.stepRamp.view = s.view := by
  unfold State.stepRamp
  split
  · dsimp only; split <;> simp [State.movePressure_view]
  · rfl

/-! ### Events of the workshop and of the power state -/

theorem State.enterRunOn_view : s.enterRunOn.view = s.view := rfl

theorem State.takeWake_view : s.takeWake.view = s.view := by
  unfold State.takeWake
  dsimp only
  split
  · rfl
  · split <;> rfl
  · rfl
  · rfl
  · exact State.wake_view _
  · rfl

theorem State.endBand_view : s.endBand.view = s.view := by
  unfold State.endBand
  split
  · rfl
  · split
    · split <;> simp
    · rfl
    · rfl

theorem State.endHeld_view : s.endHeld.view = s.view := by
  unfold State.endHeld
  split
  · rfl
  · split
    · split <;> simp
    · rfl
    · rfl

theorem State.endListen_view : s.endListen.view = s.view := by
  unfold State.endListen
  split
  · rfl
  · split
    · split <;> simp
    · rfl
    · rfl

/-! ### The receiver line and the ages -/

theorem State.takeCharacter_view (b : Byte) (stop : Bool) : (s.takeCharacter b stop).view = s.view := by
  unfold State.takeCharacter
  dsimp only; split <;> exact State.setIntake_view rfl rfl

theorem PositionRecord.aged_view (r : PositionRecord) (n : Nat) : (r.aged n).view = r.view := by
  unfold PositionRecord.aged; split <;> rfl

theorem State.countAges_view : s.countAges.view = s.view := by
  have hr : s.countAges.tyres.positions.map PositionRecord.view = s.tyres.positions.map PositionRecord.view :=
    PerPosition.ext_get fun p => by simp [State.countAges, State.setCandidates, PositionRecord.aged_view]
  have hc : (s.countAges.intake.candidates.map fun c => c.bound.id) = s.intake.candidates.map fun c => c.bound.id := by
    simp [State.countAges, State.setCandidates, Candidate.aged, Function.comp_def]
  unfold State.view
  rw [hr, hc]
  rfl

/-! ### Every command -/

/-- The commands that may change the view. -/
def changesView : Instr → Bool
  | .powerOn _ _ _ => true
  | .restart _ _ => true
  | .setResetPolicy _ _ => true
  | .setNoticeEnables _ _ => true
  | .setBatchSize _ _ => true
  | .setPositionSetpoints _ _ => true
  | .writeSetpoints _ _ => true
  | .swapPositions _ _ => true
  | .retireSensor _ _ => true
  | .adoptCandidate _ _ => true
  | .writeTyreParameters _ _ => true
  | .beginLearn _ _ => true
  | .cancelLearn _ _ => true
  | .writeAxleLayout _ _ => true
  | .writeGroupCalibration _ _ => true
  | .writeBrakeCharacteristic _ _ => true
  | .writeStabilityParameters _ _ => true
  | .saveTables _ _ => true
  | .restoreTables _ _ => true
  | .saveEnd _ _ => true
  | .telegramArrival _ => true
  | .learnConfirmation _ => true
  | .learnWindowExpiry _ => true
  | .runOnExpiry _ => true
  | .sensorSilent _ _ => true
  | .candidateExpiry _ _ => true
  | .lossOfSupply _ => true
  | _ => false

/-- An event that acts where it is due. -/
theorem State.ite_settle_view {c : Prop} [Decidable c] {t : State} (h : t.view = s.view) :
    (if c then t.settle else s).view = s.view := by
  split
  · rw [State.settle_view, h]
  · rfl

theorem exec_view {i : Instr} {s t : State} (hi : changesView i = false) (h : exec i s = .next t) : t.view = s.view := by
  cases i <;> simp only [changesView, Bool.true_eq_false] at hi <;> cases h
  case frameError => exact State.live_view fun u => (State.setPort_view rfl).trans u.clockOut_view
  case unknownRequest => exact State.live_view fun u => by simp
  case faultDetail p =>
    refine State.live_view fun u => ?_
    have hx := State.answer_view (s := u.clockOut.endBatch) (p := p) (accepts := exactly 0) (named := unnamed)
      State.faultDetail_view
    have hr : ∀ (v : State) (b : Bool) (a : Answer), (v.replyDetail b a).view = v.view := fun v b a => by
      unfold State.replyDetail; split
      · exact v.reply_view _ _
      · exact State.setPort_view rfl
    exact (hr _ _ _).trans (hx.trans (by simp))
  case continueRead p =>
    refine State.live_view fun u => ?_
    have hx := State.answer_view (s := u.clockOut.ageDetail) (p := p) (accepts := exactly 0) (named := unnamed)
      State.continueRead_view
    exact (State.reply_view _ _ _).trans (hx.trans (by simp))
  case noOperation | identify => exact State.live_view fun u => State.request_view fun v => rfl
  case fetchNotices => exact State.live_view fun u => State.request_view fun v => rfl
  case readPosition => exact State.live_view fun u => State.request_view fun v => State.withPosition_view fun q => rfl
  case findSensor => exact State.live_view fun u => State.request_view fun v => by split <;> rfl
  case readPositions => exact State.live_view fun u => State.request_view fun v => v.readPositions_view _
  case readCandidates => exact State.live_view fun u => State.request_view fun v => v.nextCandidates_view _
  case readAxle | readLoadState => exact State.live_view fun u => State.request_view fun v => by split <;> rfl
  case setLiftMode => exact State.live_view fun u => State.request_view fun v => v.setLiftMode_view _
  case postDemand => exact State.live_view fun u => State.request_view fun v => v.postDemand_view _
  case readBrakeState => exact State.live_view fun u => State.request_view fun v => v.readBrakeState_view _
  case readStabilityState => exact State.live_view fun u => State.request_view fun v => v.readStability_view _
  case enterWorkshop => exact State.live_view fun u => State.request_view State.enterWorkshop_view
  case leaveWorkshop => exact State.live_view fun u => State.request_view State.leaveWorkshop_view
  case stageStep => exact State.live_view fun u => State.request_view fun v => v.stageStep_view _
  case runStep => exact State.live_view fun u => State.request_view State.runStep_view
  case clearBrakeFault => exact State.live_view fun u => State.request_view State.clearBrakeFault_view
  case ageCount => exact State.live_view State.countAges_view
  case conversion => exact State.live_view fun u => u.convert_view _ _
  case wheelEdge => exact State.live_view fun u => u.edge_view _
  case speedDecay => exact State.live_view fun u => u.decay_view _
  case wheelStop | wheelInputInvalid | wheelInputValid =>
    refine State.live_view fun u => ?_
    first | unfold State.stopWheel | unfold State.loseWheel | unfold State.regainWheel
    dsimp only; split
    · exact u.wheelEvent_view _ _
    · rfl
  case wireStateChange => exact State.live_view fun u => by split <;> rfl
  case standstillMeasurement => exact State.live_view State.standStill_view
  case wakeLineLevel => exact State.live_view fun u => u.ite_settle_view u.takeWake_view
  case raiseDue => exact State.live_view fun u => u.ite_settle_view (State.testRaise_view _ _)
  case raiseComplete | lowerComplete => exact State.live_view fun u => u.ite_settle_view (u.setLift_view _ _)
  case transitionHoldEnd => exact State.live_view fun u => u.ite_settle_view (State.releaseGroup_view _ _)
  case loadSubstitution => exact State.live_view fun u => u.ite_settle_view (State.boundGroup_view _ _)
  case autoLower => exact State.live_view fun u => u.lowerGroup_view _
  case digitalTimeout => exact State.live_view fun u => u.ite_settle_view rfl
  case mismatchTimerExpiry => exact State.live_view fun u => u.ite_settle_view rfl
  case lockTimeout => exact State.live_view fun u => u.ite_settle_view rfl
  case holdTimerExpiry => exact State.live_view fun u => u.ite_settle_view (by split <;> simp [State.enterReapply])
  case inletNoRise | exhaustNoFall | deliveredInvalid | controlInvalid =>
    exact State.live_view fun u => u.ite_settle_view (u.enterFallback_view _)
  case probeTimerExpiry => exact State.live_view fun u => u.ite_settle_view u.stuArmed_view
  case rampStep => exact State.live_view State.stepRamp_view
  case exitMeasurement | latInvalidityMeasurement => exact State.live_view fun u => u.ite_settle_view rfl
  case bandMeasurement => exact State.live_view State.endBand_view
  case holdMeasurement => exact State.live_view State.endHeld_view
  case listenTimeout => exact State.live_view State.endListen_view
  case wakeLineChange => exact State.live_view fun u => by unfold State.wakeLineMoves; split <;> rfl
  case characterReception => exact State.live_view fun u => u.takeCharacter_view _ _

end Sys2Proof.Machine
end

section
/-! SUPPORT. The set-up of the part: the parameters, the stored image, the axle layout, the setpoints and the batch size.
The commands that bind, move or drop a sensor leave it as it is. -/
namespace Sys2Proof.Machine

/-- The setpoints of a record. -/
def PositionRecord.setpoints (r : PositionRecord) : Nat × Option Nat := (r.pl, r.pe)

structure Setup where
  settings : Settings
  store : Store
  layout : PerAxle AxleLayout
  setpoints : PerPosition (Nat × Option Nat)
  batchSize : Nat

def State.setup (s : State) : Setup where
  settings := s.settings
  store := s.store
  layout := s.loads.axles.map AxleRecord.layout
  setpoints := s.tyres.positions.map PositionRecord.setpoints
  batchSize := s.port.batchSize

/-! ### Reading a set-up -/

section
variable {s t : State} (h : t.setup = s.setup)
include h

theorem State.settings_of_setup : t.settings = s.settings := congrArg Setup.settings h

theorem State.store_of_setup : t.store = s.store := congrArg Setup.store h

theorem State.layout_of_setup (a : AxleId) : (t.axle a).layout = (s.axle a).layout := by
  have := congrArg (fun v => v.layout.get a) h
  simpa [State.setup, State.axle] using this

theorem State.setpoints_of_setup (p : Position) : (t.position p).setpoints = (s.position p).setpoints := by
  have := congrArg (fun v => v.setpoints.get p) h
  simpa [State.setup, State.position] using this

theorem State.pl_of_setup (p : Position) : (t.position p).pl = (s.position p).pl :=
  congrArg Prod.fst (State.setpoints_of_setup h p)

theorem State.pe_of_setup (p : Position) : (t.position p).pe = (s.position p).pe :=
  congrArg Prod.snd (State.setpoints_of_setup h p)

theorem State.batchSize_of_setup : t.port.batchSize = s.port.batchSize := congrArg Setup.batchSize h

end

theorem State.setup_of_view {s t : State} (h : t.view = s.view) : t.setup = s.setup := by
  have hr : t.tyres.positions.map PositionRecord.setpoints = s.tyres.positions.map PositionRecord.setpoints :=
    PerPosition.ext_get fun p => by
      have := State.record_of_view h p
      simp only [PositionRecord.view, RecordView.mk.injEq] at this
      simp only [PerPosition.get_map, PositionRecord.setpoints, Prod.mk.injEq]
      exact this.2.2
  have hl : t.loads.axles.map AxleRecord.layout = s.loads.axles.map AxleRecord.layout := congrArg TableView.layout h
  simp [State.setup, hr, hl, State.settings_of_view h, State.store_of_view h, State.batchSize_of_view h]

section
variable {s : State}

theorem State.setPosition_setup {p : Position} {r : PositionRecord} (h : r.setpoints = (s.position p).setpoints) :
    (s.setPosition p r).setup = s.setup := by
  have : (s.setPosition p r).tyres.positions.map PositionRecord.setpoints =
      s.tyres.positions.map PositionRecord.setpoints := PerPosition.map_set_of_eq h
  simp [State.setup, this]

variable (s)

@[simp] theorem State.setIntake_setup (x : Intake) : (s.setIntake x).setup = s.setup := rfl
@[simp] theorem State.setCandidates_setup (l : List Candidate) : (s.setCandidates l).setup = s.setup := rfl
@[simp] theorem State.dropCandidate_setup (id : SensorId) : (s.dropCandidate id).setup = s.setup := rfl
@[simp] theorem State.setNotices_setup (x : Notices) : (s.setNotices x).setup = s.setup := rfl
@[simp] theorem State.setMode_setup (x : Mode) : (s.setMode x).setup = s.setup := rfl
@[simp] theorem State.setChannels_setup (x : Channels) : (s.setChannels x).setup = s.setup := rfl
@[simp] theorem State.setPair_setup (a : AxleId) (sd : Side) (x : PairState) : (s.setPair a sd x).setup = s.setup := rfl
@[simp] theorem State.setGroup_setup (g : GroupId) (x : GroupRecord) : (s.setGroup g x).setup = s.setup := rfl
@[simp] theorem State.retireEntry_setup (x : Source) : (s.retireEntry x).setup = s.setup := rfl
@[simp] theorem State.closeSequence_setup : s.closeSequence.setup = s.setup := rfl
@[simp] theorem State.setTrigger_setup (w : LearnWindow) (x : Option Trigger) : (s.setTrigger w x).setup = s.setup := rfl
@[simp] theorem State.elapse_setup (dt : Nat) : (s.elapse dt).setup = s.setup := rfl
@[simp] theorem State.settle_setup : s.settle.setup = s.setup := State.setup_of_view s.settle_view
@[simp] theorem State.evaluate_setup (p : Position) : (s.evaluate p).setup = s.setup :=
  State.setup_of_view (s.evaluate_view p)
@[simp] theorem State.noteLevels_setup (p : Position) (r : PositionRecord) : (s.noteLevels p r).setup = s.setup :=
  State.setup_of_view (s.noteLevels_view p r)
@[simp] theorem State.comparePair_setup (a : AxleId) (sd : Side) : (s.comparePair a sd).setup = s.setup :=
  State.setup_of_view (s.comparePair_view a sd)
@[simp] theorem State.comparePairOf_setup (p : Position) : (s.comparePairOf p).setup = s.setup :=
  State.setup_of_view (s.comparePairOf_view p)
@[simp] theorem State.reportTelegram_setup (p : Position) : (s.reportTelegram p).setup = s.setup :=
  State.setup_of_view (s.reportTelegram_view p)
@[simp] theorem State.workshopOff_setup : s.workshopOff.setup = s.setup := State.setup_of_view s.workshopOff_view
@[simp] theorem State.stuIdle_setup : s.stuIdle.setup = s.setup := State.setup_of_view s.stuIdle_view
@[simp] theorem State.forceLower_setup : s.forceLower.setup = s.setup := State.setup_of_view s.forceLower_view
@[simp] theorem State.carry_setup (data : State → List Byte) : (s.carry data).1.setup = s.setup := s.settle_setup
@[simp] theorem State.tell_setup (data : State → List Byte) : (s.tell data).1.setup = s.setup := rfl
@[simp] theorem State.refuse_setup (c : RefusalCode) (n : Named) : (s.refuse c n).1.setup = s.setup := rfl

/-! ### The learn window, the intake and the clearing of records -/

theorem State.cancelWindow_setup : s.cancelWindow.setup = s.setup := by
  unfold State.cancelWindow
  split
  · rfl
  · simp only [State.noteLearnResult_eq, State.setNotices_setup]
    exact State.setPosition_setup rfl

theorem State.expireWindow_setup (w : LearnWindow) : (s.expireWindow w).setup = s.setup :=
  State.setPosition_setup (s := s.setIntake { s.intake with window := none }) rfl

theorem State.clearBound_setup (p : Position) : (s.clearBound p).setup = s.setup := by
  unfold State.clearBound
  simp only [State.comparePairOf_setup, State.noteLevels_setup]
  exact State.setPosition_setup rfl

theorem State.retirePosition_setup (p : Position) : (s.retirePosition p).setup = s.setup := by
  unfold State.retirePosition
  split
  · rfl
  · exact s.cancelWindow_setup
  all_goals exact s.clearBound_setup p

theorem State.confirm_setup (w : LearnWindow) (x : Trigger) : (s.confirm w x).setup = s.setup := by
  unfold State.confirm
  split
  · rfl
  · simp only [State.reportTelegram_setup, State.evaluate_setup, State.noteLearnResult_eq, State.setNotices_setup,
      State.dropCandidate_setup, State.setIntake_setup]
    exact State.setPosition_setup rfl

theorem State.noteReady_setup (c d : Candidate) : (s.noteReady c d).setup = s.setup := by
  unfold State.noteReady; split <;> rfl

theorem State.takeCandidate_setup (k : SensorKind) (t : Telegram) : (s.takeCandidate k t).setup = s.setup := by
  unfold State.takeCandidate
  split
  · split
    · exact State.noteReady_setup _ _ _
    · rfl
  · exact State.noteReady_setup _ _ _

theorem State.takeTrigger_setup (w : LearnWindow) (k : SensorKind) (t : Telegram) :
    (s.takeTrigger w k t).setup = s.setup := by
  unfold State.takeTrigger
  split
  · rfl
  · split <;> rfl

theorem State.takeUnbound_setup (k : SensorKind) (t : Telegram) : (s.takeUnbound k t).setup = s.setup := by
  unfold State.takeUnbound
  split
  · exact s.takeTrigger_setup _ k t
  all_goals
    split
    · rfl
    · exact s.takeCandidate_setup k t

theorem State.noteDuplicate_setup (t : Telegram) : (s.noteDuplicate t).setup = s.setup := by
  unfold State.noteDuplicate
  split
  · split <;> rfl
  · rfl

theorem State.takeBound_setup (p : Position) (t : Telegram) : (s.takeBound p t).setup = s.setup := by
  unfold State.takeBound
  simp only [State.noteDuplicate_setup, State.reportTelegram_setup, State.evaluate_setup]
  exact State.setPosition_setup rfl

theorem State.takeTest_setup (t : Telegram) : (s.takeTest t).setup = s.setup := by
  unfold State.takeTest
  split
  · split
    · exact (State.reportTelegram_setup _ _).trans (State.setPosition_setup rfl)
    · rfl
  · rfl

theorem State.takeTelegram_setup (t : Telegram) : (s.takeTelegram t).setup = s.setup := by
  unfold State.takeTelegram
  split
  · rfl
  · exact s.takeTest_setup t
  · split
    · exact s.takeBound_setup _ t
    · rfl
  · split
    · exact s.takeBound_setup _ t
    · exact s.takeUnbound_setup _ t

theorem State.telegramArrives_setup : s.telegramArrives.setup = s.setup := by
  unfold State.telegramArrives
  split
  · split
    · rw [State.settle_setup, State.takeTelegram_setup]; rfl
    · rfl
  · rfl

theorem State.fallSilent_setup (q : Position) : (s.fallSilent q).setup = s.setup := by
  unfold State.fallSilent
  split
  · simp only [State.comparePairOf_setup, State.noteSensorSilent_eq, State.setNotices_setup]
    exact State.setPosition_setup rfl
  · rfl

theorem State.confirmDue_setup : s.confirmDue.setup = s.setup := by
  unfold State.confirmDue
  split
  · rfl
  · split
    · rfl
    · split
      · rw [State.settle_setup]; exact s.confirm_setup _ _
      · rfl

theorem State.expireDue_setup : s.expireDue.setup = s.setup := by
  unfold State.expireDue
  split
  · rfl
  · split
    · exact s.expireWindow_setup _
    · rfl

theorem State.enterWatch_setup : s.enterWatch.setup = s.setup := by
  simp [State.enterWatch, State.cancelWindow_setup]

/-! ### Requests that bind, move or drop a sensor -/

theorem State.beginLearn_setup (p : Params) : (s.beginLearn p).1.setup = s.setup := by
  unfold State.beginLearn
  split; · rfl
  split; · rfl
  split; · rfl
  split; · rfl
  split; · rfl
  simp only [State.tell_setup, State.setIntake_setup]
  exact State.setPosition_setup rfl

theorem State.cancelLearn_setup : s.cancelLearn.1.setup = s.setup := by
  unfold State.cancelLearn
  split
  · exact s.cancelWindow_setup
  · rfl

theorem State.judgeSwapped_setup (p : Position) : (s.judgeSwapped p).setup = s.setup := by
  unfold State.judgeSwapped
  split <;> exact State.setPosition_setup rfl

theorem State.swap_setup (a b : Position) : (s.swap a b).setup = s.setup := by
  simp only [State.swap, State.comparePairOf_setup, State.noteLevels_setup, State.judgeSwapped_setup]
  refine (State.setPosition_setup ?_).trans (State.setPosition_setup rfl)
  rw [State.setPosition_position]
  split
  · subst b; rfl
  · rfl

theorem State.swapPositions_setup (p : Params) : (s.swapPositions p).1.setup = s.setup := by
  unfold State.swapPositions
  dsimp only
  split
  · rfl
  · rfl
  · split; · rfl
    split; · rfl
    split; · rfl
    split; · rfl
    split; · rfl
    simp [State.swap_setup]

theorem State.withPosition_setup {i : Nat} {n m : Named} {own : Position → State × Answer}
    (h : ∀ q, (own q).1.setup = s.setup) : (s.withPosition i n m own).1.setup = s.setup := by
  unfold State.withPosition; split
  · rfl
  · split
    · exact h _
    · rfl

theorem State.retireSensor_setup (p : Params) : (s.retireSensor p).1.setup = s.setup :=
  s.withPosition_setup fun q => by simp [State.retirePosition_setup]

theorem State.adoptCandidate_setup (p : Params) : (s.adoptCandidate p).1.setup = s.setup := by
  refine s.withPosition_setup fun q => ?_
  split
  · rfl
  · split
    · rfl
    · simp only [State.carry_setup, State.evaluate_setup, State.dropCandidate_setup]
      exact State.setPosition_setup rfl

/-! ### A new layout -/

theorem State.retireByLayout_setup (old : PerAxle AxleRecord) : (s.retireByLayout old).setup = s.setup := by
  unfold State.retireByLayout
  generalize Position.list = l
  induction l generalizing s with
  | nil => rfl
  | cons p l ih =>
    rw [List.foldl_cons, ih]
    split
    · split
      · rfl
      · exact s.retirePosition_setup p
    · rfl

theorem State.derivePairs_setup (old : PerAxle AxleRecord) (a : AxleId) : (s.derivePairs old a).setup = s.setup := by
  unfold State.derivePairs
  split
  · split
    · rfl
    · simp
  · rfl

theorem State.groupEnters_view (g : GroupId) : (s.groupEnters g).view = s.view := by
  unfold State.groupEnters
  dsimp only; split
  · exact State.formLoad_view _ g
  all_goals rfl

theorem State.regroup_view (old : PerAxle AxleRecord) (g : GroupId) : (s.regroup old g).view = s.view := by
  simp only [State.regroup, State.followTransition_view, State.endRaise_view, State.recount_view]
  split
  · split
    · rfl
    · exact s.groupEnters_view g
  · rfl

theorem State.foldl_setup {α : Type} {f : State → α → State} (hf : ∀ s a, (f s a).setup = s.setup) (l : List α)
    (s : State) : (l.foldl f s).setup = s.setup := by
  induction l generalizing s with
  | nil => rfl
  | cons a l ih => exact (ih _).trans (hf s a)

theorem State.followLayout_setup (old : PerAxle AxleRecord) : (s.followLayout old).setup = s.setup := by
  unfold State.followLayout
  rw [State.foldl_setup fun t g => State.setup_of_view (t.regroup_view old g)]
  unfold State.deriveAllPairs
  rw [State.foldl_setup fun t a => t.derivePairs_setup old a, State.retireByLayout_setup]

end

/-! ### Commands and exchanges -/

section
variable {P : State → Prop} {s : State} {dt code : Nat} {p : Params} {accepts : Nat → Bool}
  {own : State → State × Answer} {named : Named}

/-- What a rule that hangs on the view keeps, a live command keeps. -/
theorem State.live_keeps {f : State → State} (hv : ∀ s t : State, t.view = s.view → P s → P t)
    (hf : ∀ u, P u → P (f u)) (h : P s) : P (s.live dt f) := by
  have he : P (s.elapse dt) := hv s _ (s.elapse_view dt) h
  unfold State.live; split
  · exact hf _ he
  · exact he

/-- What a rule that hangs on the view keeps, an exchange with a request keeps. -/
theorem State.request_keeps (hv : ∀ s t : State, t.view = s.view → P s → P t) (ho : ∀ u, P u → P (own u).1) (h : P s) :
    P (s.request code p accepts own named) := by
  have ht : P s.clockOut.endBatch.ageDetail := hv s _ (by simp) h
  unfold State.request
  refine hv _ _ (State.reply_view _ _ _) ?_
  unfold State.answer
  split
  · exact ho _ ht
  · exact ht

theorem State.gated_keeps {x : State × Answer} (h : P s) (hx : P x.1) : P (s.gated x).1 := by
  unfold State.gated; split
  · exact hx
  · exact h

theorem State.withPosition_keeps {i : Nat} {n m : Named} {own : Position → State × Answer} (h : P s)
    (ho : ∀ q, s.positionExists q = true → P (own q).1) : P (s.withPosition i n m own).1 := by
  unfold State.withPosition; split
  · exact h
  · split
    · exact ho _ ‹_›
    · exact h

theorem State.live_setup {f : State → State} (hf : ∀ u, (f u).setup = u.setup) : (s.live dt f).setup = s.setup :=
  State.live_keeps (P := fun t => t.setup = s.setup) (fun _ _ hv h => (State.setup_of_view hv).trans h)
    (fun u h => (hf u).trans h) rfl

theorem State.request_setup (ho : ∀ u, (own u).1.setup = u.setup) :
    (s.request code p accepts own named).setup = s.setup :=
  State.request_keeps (P := fun t => t.setup = s.setup) (fun _ _ hv h => (State.setup_of_view hv).trans h)
    (fun u h => (ho u).trans h) rfl

/-- The commands that may change the set-up. -/
def changesSetup : Instr → Bool
  | .powerOn _ _ _ => true
  | .restart _ _ => true
  | .setResetPolicy _ _ => true
  | .setNoticeEnables _ _ => true
  | .setBatchSize _ _ => true
  | .setPositionSetpoints _ _ => true
  | .writeSetpoints _ _ => true
  | .writeTyreParameters _ _ => true
  | .writeAxleLayout _ _ => true
  | .writeGroupCalibration _ _ => true
  | .writeBrakeCharacteristic _ _ => true
  | .writeStabilityParameters _ _ => true
  | .saveTables _ _ => true
  | .restoreTables _ _ => true
  | .saveEnd _ _ => true
  | .lossOfSupply _ => true
  | _ => false

theorem exec_setup {i : Instr} {s t : State} (hi : changesSetup i = false) (h : exec i s = .next t) :
    t.setup = s.setup := by
  by_cases hv : changesView i = false
  · exact State.setup_of_view (exec_view hv h)
  cases i <;> simp only [changesView, changesSetup, not_true_eq_false, Bool.true_eq_false] at hi hv <;> injection h <;>
    subst t
  case telegramArrival => exact State.live_setup State.telegramArrives_setup
  case learnConfirmation => exact State.live_setup State.confirmDue_setup
  case learnWindowExpiry => exact State.live_setup State.expireDue_setup
  case sensorSilent => exact State.live_setup fun u => u.fallSilent_setup _
  case candidateExpiry => exact State.live_setup fun u => rfl
  case runOnExpiry => exact State.live_setup fun u => by split <;> simp [State.enterWatch_setup]
  case beginLearn => exact State.live_setup fun u => State.request_setup fun v => v.beginLearn_setup _
  case cancelLearn => exact State.live_setup fun u => State.request_setup State.cancelLearn_setup
  case swapPositions => exact State.live_setup fun u => State.request_setup fun v => v.swapPositions_setup _
  case retireSensor => exact State.live_setup fun u => State.request_setup fun v => v.retireSensor_setup _
  case adoptCandidate => exact State.live_setup fun u => State.request_setup fun v => v.adoptCandidate_setup _

end

end Sys2Proof.Machine
end

section
/-! SUPPORT. What the commands that write the set-up do to it, and that every step keeps its ranges (R2, R9, R55, R67,
R104, R129, R159). -/
namespace Sys2Proof.Machine

/-! ### The ranges hang on the set-up -/

theorem State.RangeLaws.of_setup {s t : State} (h : t.setup = s.setup) (hs : s.RangeLaws) : t.RangeLaws where
  settings := State.settings_of_setup h ▸ hs.settings
  setpoints p := by rw [State.pl_of_setup h, State.pe_of_setup h]; exact hs.setpoints p
  image x hx := hs.image x (State.store_of_setup h ▸ hx)
  snapshot x hx := hs.snapshot x (State.store_of_setup h ▸ hx)
  batch := by unfold State.batchLaw; rw [State.batchSize_of_setup h]; exact hs.batch

theorem State.RangeLaws.of_view (s t : State) (h : t.view = s.view) (hs : s.RangeLaws) : t.RangeLaws :=
  hs.of_setup (State.setup_of_view h)

section
variable {s : State}

theorem State.RangeLaws.setSettings {x : Settings} (hs : s.RangeLaws) (hx : x.InRange) : (s.setSettings x).RangeLaws :=
  ⟨hx, hs.setpoints, hs.image, hs.snapshot, hs.batch⟩

theorem State.RangeLaws.setStore {x : Store} (hs : s.RangeLaws) (h1 : ∀ i, x.image = some i → i.contents.InRange)
    (h2 : ∀ i, x.saving = some i → i.snapshot.InRange) : (s.setStore x).RangeLaws :=
  ⟨hs.settings, hs.setpoints, h1, h2, hs.batch⟩

theorem State.RangeLaws.setPosition {p : Position} {r : PositionRecord} (hs : s.RangeLaws)
    (hr : setpointsInRange p r.pl r.pe) : (s.setPosition p r).RangeLaws := by
  refine ⟨hs.settings, fun q => ?_, hs.image, hs.snapshot, hs.batch⟩
  rw [State.setPosition_position]
  split
  · subst q; exact hr
  · exact hs.setpoints q

theorem State.RangeLaws.setBatchSize {n : Nat} (hs : s.RangeLaws) (hn : n = 1 ∨ n = 2) :
    (s.setPort { s.port with batchSize := n }).RangeLaws :=
  ⟨hs.settings, hs.setpoints, hs.image, hs.snapshot, hn⟩

theorem State.RangeLaws.setAxle {a : AxleId} {r : AxleRecord} (hs : s.RangeLaws) : (s.setAxle a r).RangeLaws :=
  ⟨hs.settings, hs.setpoints, hs.image, hs.snapshot, hs.batch⟩

/-- R169: what a snapshot takes is in range. -/
theorem State.RangeLaws.snapshot_inRange (hs : s.RangeLaws) : s.snapshot.InRange :=
  ⟨hs.settings, fun p => by simpa [State.snapshot, PositionRecord.stored, State.position] using hs.setpoints p⟩

end

/-! ### Writes of parameters -/

section
variable {s : State}

theorem ratioRefusal_eq_none {o n : Nat} (h : ratioRefusal o n = none) : 200 ≤ n ∧ n ≤ 1000 := by
  unfold ratioRefusal at h
  split at h; · cases h
  split at h; · cases h
  omega

theorem rangeRefusal_eq_none {o lo hi n : Nat} (h : rangeRefusal o lo hi n = none) : lo ≤ n ∧ n ≤ hi := by
  unfold rangeRefusal at h
  split at h; · cases h
  split at h; · cases h
  omega

theorem orElse_eq_none {α : Type} {x y : Option α} (h : (x.orElse fun _ => y) = none) : x = none ∧ y = none := by
  cases x with
  | none => exact ⟨rfl, h⟩
  | some a => cases h

theorem wheelRefusal_eq_none {c n : Nat} : wheelRefusal c n = none ↔
    (2800 ≤ c ∧ c ≤ 3800) ∧ 80 ≤ n ∧ n ≤ 120 := by
  unfold wheelRefusal
  split; · simp; omega
  split; · simp; omega
  split; · simp; omega
  split; · simp; omega
  simp; omega

theorem Settings.InRange.withWheels {x : Settings} (hx : x.InRange) {c n : Nat} (hc : 2800 ≤ c ∧ c ≤ 3800)
    (hn : 80 ≤ n ∧ n ≤ 120) : ({ x with circumference := c, teeth := n } : Settings).InRange :=
  { hx with circumference := hc, teeth := hn }

theorem Settings.InRange.withCharacteristic {x : Settings} (hx : x.InRange) {k r1 r2 : Nat} {third : Bool}
    (hk : k ≤ 150) (h1 : 200 ≤ r1 ∧ r1 ≤ 1000) (h2 : 200 ≤ r2 ∧ r2 ≤ 1000) :
    (x.withCharacteristic k r1 r2 third).InRange where
  circumference := hx.circumference
  teeth := hx.teeth
  pressures g := by have := hx.pressures g; cases g <;> exact this
  weights g := by have := hx.weights g; cases g <;> exact this
  ratios g := by cases g <;> assumption
  knee := hk
  halfTrack := hx.halfTrack
  heightEmpty := hx.heightEmpty
  heightLaden := hx.heightLaden
  margin := hx.margin
  pairDelta := hx.pairDelta
  hotLimit := hx.hotLimit

theorem Settings.InRange.withCalibration {x : Settings} (hx : x.InRange) {g : GroupId} {c : Calibration}
    (hc : c.sound = true) (hre : c.re = (x.groups.get g).re) :
    ({ x with groups := x.groups.set g c } : Settings).InRange := by
  simp only [Calibration.sound, Bool.and_eq_true, decide_eq_true_eq] at hc
  obtain ⟨⟨⟨hp, hl⟩, hw⟩, hm⟩ := hc
  refine { hx with pressures := fun g' => ?_, weights := fun g' => ?_, ratios := fun g' => ?_ } <;>
    simp only [PerGroup.get_set] <;> split
  · exact ⟨hp, hl⟩
  · exact hx.pressures g'
  · exact ⟨hw, hm⟩
  · exact hx.weights g'
  · rw [hre]; exact hx.ratios g
  · exact hx.ratios g'

theorem State.recalibrate_view (s : State) (g : GroupId) : (s.recalibrate g).view = s.view := by
  unfold State.recalibrate; split <;> simp

theorem State.followThird_view (s : State) (b : Bool) : (s.followThird b).view = s.view := by
  unfold State.followThird; split <;> rfl

theorem State.RangeLaws.setResetPolicy (hs : s.RangeLaws) (p : Params) : (s.setResetPolicy p).1.RangeLaws := by
  unfold State.setResetPolicy; split
  · exact hs.setSettings { hs.settings with }
  · exact hs

theorem State.RangeLaws.writeTyreParameters (hs : s.RangeLaws) (p : Params) : (s.writeTyreParameters p).1.RangeLaws := by
  unfold State.writeTyreParameters; split
  · exact hs
  · split
    · rename_i h
      exact hs.setSettings { hs.settings with pairDelta := ⟨h.1, h.2.1⟩, hotLimit := h.2.2 }
    · exact hs

theorem State.RangeLaws.writeCalibration (hs : s.RangeLaws) (p : Params) : (s.writeCalibration p).1.RangeLaws := by
  refine State.gated_keeps hs ?_
  split
  · exact hs
  · dsimp only
    split
    · refine State.RangeLaws.of_view _ _ ((State.carry_view _ _).trans (State.recalibrate_view _ _)) ?_
      exact hs.setSettings (hs.settings.withCalibration ‹_› rfl)
    · exact hs

theorem State.RangeLaws.writeCharacteristic (hs : s.RangeLaws) (p : Params) :
    (s.writeCharacteristic p).1.RangeLaws := by
  refine State.gated_keeps hs ?_
  split
  · exact hs
  · rename_i hk
    split
    · exact hs
    · rename_i hr
      obtain ⟨h1, h2⟩ := orElse_eq_none hr
      split
      · exact hs
      · split
        · exact hs
        · refine State.RangeLaws.of_view _ _ ((State.carry_view _ _).trans (State.followThird_view _ _)) ?_
          exact hs.setSettings (hs.settings.withCharacteristic (by omega) (ratioRefusal_eq_none h1)
            (ratioRefusal_eq_none h2))

theorem State.RangeLaws.writeStability (hs : s.RangeLaws) (p : Params) : (s.writeStability p).1.RangeLaws := by
  refine State.gated_keeps hs ?_
  split
  · exact hs
  · rename_i hr
    obtain ⟨h1, hr⟩ := orElse_eq_none hr
    obtain ⟨h2, hr⟩ := orElse_eq_none hr
    obtain ⟨h3, h4⟩ := orElse_eq_none hr
    split
    · exact hs
    · refine State.RangeLaws.of_view _ _ (State.carry_view _ _) (hs.setSettings ?_)
      exact { hs.settings with
        halfTrack := rangeRefusal_eq_none h1, heightEmpty := rangeRefusal_eq_none h2,
        heightLaden := rangeRefusal_eq_none h3, margin := rangeRefusal_eq_none h4 }

theorem State.RangeLaws.setBatch (hs : s.RangeLaws) (p : Params) : (s.setBatchSize p).1.RangeLaws := by
  unfold State.setBatchSize; split
  · exact hs.setBatchSize ‹_›
  · exact hs

/-! ### Writes of setpoints -/

theorem setpointRefusal_eq_none {q : Position} {pl : Nat} {pe : Option Nat} (h : setpointRefusal q pl pe = none) :
    setpointsInRange q pl pe := by
  unfold setpointRefusal at h
  split at h; · cases h
  split at h; · cases h
  refine ⟨by omega, fun e he => ?_⟩
  subst he
  simp only at h
  split at h; · cases h
  split at h; · cases h
  split at h; · cases h
  exact ⟨by simpa using ‹¬isSpare q = true›, by omega, by omega⟩

theorem State.RangeLaws.setSetpoints (hs : s.RangeLaws) (p : Params) : (s.setSetpoints p).1.RangeLaws := by
  refine State.withPosition_keeps hs fun q _ => ?_
  split
  · exact hs
  · refine State.RangeLaws.of_view _ _ ((State.carry_view _ _).trans (State.evaluate_view _ _)) ?_
    exact hs.setPosition (setpointRefusal_eq_none ‹_›)

/-- R21: a value that its position accepts is in range beside its light setpoint. -/
theorem State.writeRefusal_eq_none {q : Position} {v : Nat} (h : s.writeRefusal q v = none) :
    (300 ≤ v ∧ v ≤ 1200) ∧ ∀ e, (s.position q).pe = some e → e ≤ v := by
  unfold State.writeRefusal at h
  split at h; · cases h
  split at h; · cases h
  split at h; · cases h
  refine ⟨by omega, fun e he => ?_⟩
  rw [he] at h
  simp only at h
  split at h; · cases h
  omega

/-- What a write of one accepted value keeps, the writes up to the first failing value keep. -/
theorem State.writeValues_keeps {P : State → Prop} (hv : ∀ s t : State, t.view = s.view → P s → P t)
    (hw : ∀ (u : State) (q : Position) (v : Nat), u.writeRefusal q v = none → P u →
      P (u.setPosition q { u.position q with pl := v }))
    (i k : Nat) (l : List Nat) (h : P s) : P (s.writeValues i k l).1 := by
  induction l generalizing s i k with
  | nil => exact h
  | cons v l ih =>
    unfold State.writeValues
    split
    · exact h
    · split
      · exact h
      · exact ih _ _ (hv _ _ (State.evaluateOffering_view _ _) (hw _ _ _ ‹_› h))

theorem State.RangeLaws.writeSetpoints (hs : s.RangeLaws) (p : Params) : (s.writeSetpoints p).1.RangeLaws := by
  have hw : (s.writeValues (byteAt p 0) 1 (resolved 0 (sentValues p))).1.RangeLaws := by
    refine State.writeValues_keeps State.RangeLaws.of_view (fun u q v h hu => hu.setPosition ?_) _ _ _ hs
    obtain ⟨hpl, hpe⟩ := State.writeRefusal_eq_none h
    refine ⟨hpl, fun e he => ?_⟩
    obtain ⟨h1, h2, -⟩ := (hu.setpoints q).2 e he
    exact ⟨h1, h2, hpe e he⟩
  unfold State.writeSetpoints
  split
  · exact hs
  · dsimp only
    split <;> exact State.RangeLaws.of_view _ _ (State.settle_view _) hw

/-! ### The axle layout -/

/-- A fold of operations that keep a law. -/
theorem State.foldl_keeps {P : State → Prop} {α : Type} {f : State → α → State} (hf : ∀ s a, P s → P (f s a))
    (l : List α) {s : State} (h : P s) : P (l.foldl f s) := by
  induction l generalizing s with
  | nil => exact h
  | cons a l ih => exact ih (hf s a h)

theorem State.RangeLaws.writeLayout {x : PerAxle StoredAxle} {c n : Nat} (hs : s.RangeLaws) (hc : 2800 ≤ c ∧ c ≤ 3800)
    (hn : 80 ≤ n ∧ n ≤ 120) : (s.writeLayout x c n).RangeLaws := by
  refine State.RangeLaws.of_setup (State.followLayout_setup _ _) ?_
  have ht := State.foldl_keeps (P := State.RangeLaws)
    (f := fun t a => t.setAxle a ((t.axle a).relaid { x.get a with mode := notHeldUp (x.get a).mode }))
    (fun t a h => h.setAxle) AxleId.list hs
  exact ht.setSettings (ht.settings.withWheels hc hn)

theorem State.RangeLaws.writeAxleLayout (hs : s.RangeLaws) (p : Params) : (s.writeAxleLayout p).1.RangeLaws := by
  refine State.gated_keeps hs ?_
  split
  · exact hs
  · split
    · exact hs
    · rename_i hw
      obtain ⟨hc, hn⟩ := wheelRefusal_eq_none.1 hw
      split
      · exact hs
      · split
        · exact hs
        · exact State.RangeLaws.of_view _ _ (State.settle_view _) (hs.writeLayout hc hn)

/-! ### Reloads -/

theorem State.governReloaded_view (s : State) (a : AxleId) : (s.governReloaded a).view = s.view := by
  unfold State.governReloaded
  dsimp only
  split
  · rfl
  · exact s.lowerAxle_view a
  · split
    · rfl
    · exact State.setAxle_view rfl

theorem State.reloadLifts_view (s : State) (old : PerAxle AxleRecord) : (s.reloadLifts old).view = s.view :=
  State.foldl_view (fun t a => by rw [State.governReloaded_view, State.setLift_view]) _ s

theorem State.reloadSettings_view (s : State) (x : Settings) : (s.reloadSettings x).view = (s.setSettings x).view := by
  simp [State.reloadSettings, State.recalibrate_view, State.followThird_view]

theorem State.compareAllPairs_view (s : State) : s.compareAllPairs.view = s.view :=
  State.foldl_view (fun t a => by simp) _ s

theorem State.reloadPosition_setup (s : State) (p : Position) (x : StoredPosition) :
    (s.reloadPosition p x).setup = (s.setPosition p { s.position p with pl := x.pl, pe := x.pe }).setup := by
  unfold State.reloadPosition
  dsimp only
  split
  · split
    · rw [State.noteLevels_setup]
      exact State.setPosition_setup rfl
    · split
      · exact State.clearBound_setup _ _
      · rfl
  · rfl

theorem State.RangeLaws.reloadLayout {x : Image} (hs : s.RangeLaws) (hx : x.InRange) : (s.reloadLayout x).RangeLaws := by
  refine State.RangeLaws.of_setup (State.followLayout_setup _ _) ?_
  refine State.RangeLaws.of_view _ _ (State.reloadLifts_view _ _) ?_
  have ht := State.foldl_keeps (P := State.RangeLaws)
    (f := fun t a => t.setAxle a ((t.axle a).relaid (x.axles.get a))) (fun t a h => h.setAxle) AxleId.list hs
  exact ht.setSettings (ht.settings.withWheels hx.1.circumference hx.1.teeth)

/-- R171: a reload of an image in range. -/
theorem State.RangeLaws.reload {x : Image} (hs : s.RangeLaws) (hx : x.InRange) : (s.reload x).RangeLaws := by
  refine State.RangeLaws.of_view _ _ (State.compareAllPairs_view _) ?_
  refine State.RangeLaws.of_setup (State.setCandidates_setup _ _) ?_
  refine State.foldl_keeps (P := State.RangeLaws) (fun t p h => ?_) _ ?_
  · exact State.RangeLaws.of_setup (t.reloadPosition_setup p _) (h.setPosition (hx.2 p))
  · exact State.RangeLaws.of_view _ _ (State.reloadSettings_view _ _) ((hs.reloadLayout hx).setSettings hx.1)

theorem State.RangeLaws.restoreTables (hs : s.RangeLaws) : s.restoreTables.1.RangeLaws := by
  refine State.gated_keeps hs ?_
  split
  · refine State.RangeLaws.of_view _ _ (State.carry_view _ _) ?_
    exact (hs.of_setup s.cancelWindow_setup).reload (hs.image _ ‹_›)
  · exact hs

/-! ### Restart, power-on and the store -/

theorem State.recreateEntries_view (s : State) : s.recreateEntries.view = s.view := by
  unfold State.recreateEntries
  dsimp only
  split <;> split <;> simp [State.takeControl_view, State.takeSupply_view]

theorem State.wakeIfWatching_view (s : State) : s.wakeIfWatching.view = s.view := by
  unfold State.wakeIfWatching; split <;> simp

theorem State.restartLive_setup (s : State) : s.restartLive.setup = s.setup := by
  have hw : ∀ u : State, u.wakeIfWatching.followLifts.followReference.setup = u.setup := fun u =>
    State.setup_of_view (by simp [State.wakeIfWatching_view])
  have hi : ∀ u : State, u.restartIntake.setup = u.setup := fun u => u.cancelWindow_setup
  have he : s.emptyTable.restartStability.restartWorkshop.setup = s.setup :=
    State.setup_of_view (by simp [State.restartWorkshop, State.restartStability, State.emptyTable])
  exact ((hw _).trans (hi _)).trans he

theorem State.RangeLaws.restartPolicy (hs : s.RangeLaws) : s.restartPolicy.RangeLaws := by
  unfold State.restartPolicy
  split
  · exact hs
  · split
    · exact hs.reload (hs.image _ ‹_›)
    · exact State.RangeLaws.of_setup (s := s) rfl hs

theorem State.restart_view (s : State) :
    s.restart.view = (s.restartPort.restartLive.setNotices Notices.clear).restartPolicy.view := by
  unfold State.restart
  rw [State.settle_view, State.recreateEntries_view]

theorem State.RangeLaws.restart (hs : s.RangeLaws) : s.restart.RangeLaws := by
  refine State.RangeLaws.of_view _ _ s.restart_view ?_
  refine State.RangeLaws.restartPolicy ?_
  refine State.RangeLaws.of_setup ((State.setNotices_setup _ _).trans (State.restartLive_setup _)) ?_
  exact ⟨hs.settings, hs.setpoints, hs.image, hs.snapshot, .inl rfl⟩

theorem defaultImage_inRange : defaultImage.InRange := by
  refine ⟨?_, fun p => ?_⟩
  · constructor <;> first | decide | (intro g; cases g <;> decide)
  · have : defaultImage.positions.get p = ⟨800, none, none⟩ := by
      cases p with
      | road a sl => cases a <;> cases sl <;> rfl
      | _ => rfl
    rw [this]
    exact ⟨by decide, fun e he => by cases he⟩

/-- R168, R172: the image that a power-on starts from: the stored one where it is VALID, else the defaults. -/
theorem Store.startImage_cases (x : Store) :
    (∃ i, x.image = some i ∧ x.startImage = i.contents) ∨ x.startImage = defaultImage := by
  unfold Store.startImage Store.judged
  split
  · exact .inr rfl
  · split
    · exact .inl ⟨_, ‹_›, rfl⟩
    · exact .inr rfl

theorem PositionRecord.ofStored_setpoints (x : StoredPosition) : (PositionRecord.ofStored x).setpoints = (x.pl, x.pe) := by
  unfold PositionRecord.ofStored; split <;> rfl

theorem State.RangeLaws.start (hs : s.RangeLaws) (high : Bool) (wires : PerWheel Bool) : (s.start high wires).RangeLaws := by
  have hx : s.store.startImage.InRange := by
    rcases s.store.startImage_cases with ⟨i, hi, h⟩ | h
    · rw [h]; exact hs.image i hi
    · rw [h]; exact defaultImage_inRange
  refine State.RangeLaws.of_view _ _ (State.settle_view _) ⟨hx.1, fun p => ?_, hs.image, fun i hi => (by cases hi), .inl rfl⟩
  have hp := PositionRecord.ofStored_setpoints (s.store.startImage.positions.get p)
  simp only [PositionRecord.setpoints, Prod.mk.injEq] at hp
  simp only [State.started, State.position, PerPosition.get_map, hp]
  exact hx.2 p

theorem State.RangeLaws.saveTables (hs : s.RangeLaws) : s.saveTables.1.RangeLaws := by
  unfold State.saveTables; split
  · exact hs
  · refine hs.setStore (fun i hi => by cases hi) (fun i hi => ?_)
    cases hi
    exact hs.snapshot_inRange

theorem State.RangeLaws.endSave (hs : s.RangeLaws) (b : Bool) : (s.endSave b).RangeLaws := by
  unfold State.endSave
  split
  · exact hs
  · split
    · refine State.RangeLaws.of_setup (State.setNotices_setup _ _) ?_
      refine hs.setStore (fun i hi => ?_) (fun i hi => by cases hi)
      cases b with
      | false => cases hi
      | true => cases hi; exact hs.snapshot _ ‹_›
    · exact hs

end

/-! ### Every command -/

theorem State.RangeLaws.exec {i : Instr} {s t : State} (hs : s.RangeLaws) (h : exec i s = .next t) : t.RangeLaws := by
  by_cases hi : changesSetup i = false
  · exact hs.of_setup (exec_setup hi h)
  have live : ∀ {dt : Nat} {f : State → State}, (∀ u : State, u.RangeLaws → (f u).RangeLaws) → (s.live dt f).RangeLaws :=
    fun hf => State.live_keeps State.RangeLaws.of_view hf hs
  have request : ∀ {dt code : Nat} {p : Params} {accepts : Nat → Bool} {own : State → State × Answer} {n : Named},
      (∀ u : State, u.RangeLaws → (own u).1.RangeLaws) →
      (s.live dt fun u => u.request code p accepts own n).RangeLaws :=
    fun ho => live fun u hu => State.request_keeps State.RangeLaws.of_view ho hu
  cases i <;> simp only [changesSetup, not_true_eq_false, Bool.true_eq_false] at hi <;> injection h <;> subst t
  case powerOn => exact State.RangeLaws.start (State.RangeLaws.of_setup (s.elapse_setup _) hs) _ _
  case lossOfSupply =>
    refine live fun u hu => ?_
    exact ⟨hu.settings, hu.setpoints, hu.image, fun i hi => (by cases hi), hu.batch⟩
  case restart =>
    refine live fun u hu => ?_
    split
    · exact State.RangeLaws.restart (State.RangeLaws.of_view _ _ u.clockOut_view hu)
    · exact State.request_keeps State.RangeLaws.of_view (fun v hv => hv) hu
  case saveEnd => exact live fun u hu => hu.endSave _
  case setResetPolicy => exact request fun u hu => hu.setResetPolicy _
  case setNoticeEnables => exact request fun u hu => hu.setSettings { hu.settings with }
  case setBatchSize => exact request fun u hu => hu.setBatch _
  case setPositionSetpoints => exact request fun u hu => hu.setSetpoints _
  case writeSetpoints => exact request fun u hu => hu.writeSetpoints _
  case writeTyreParameters => exact request fun u hu => hu.writeTyreParameters _
  case writeAxleLayout => exact request fun u hu => hu.writeAxleLayout _
  case writeGroupCalibration => exact request fun u hu => hu.writeCalibration _
  case writeBrakeCharacteristic => exact request fun u hu => hu.writeCharacteristic _
  case writeStabilityParameters => exact request fun u hu => hu.writeStability _
  case saveTables => exact request fun u hu => hu.saveTables
  case restoreTables => exact request fun u hu => hu.restoreTables

/-- What the front command keeps, a step keeps. -/
theorem step_keeps {P : State → Prop} (hv : ∀ s t : State, t.view = s.view → P s → P t)
    (he : ∀ (i : Instr) (s t : State), P s → exec i s = .next t → P t) {s t : State} (hs : P s)
    (h : step s = .next t) : P t := by
  unfold step at h
  split at h
  · cases h; exact hs
  · exact he _ _ _ (hv _ _ (State.setPending_view _ _) hs) h

/-- Settles O11: the ranges hang on the set-up, and each command that writes it checks what it writes. -/
theorem parametersStayInRange : Obligations.ParametersStayInRange := fun _ _ hs h =>
  step_keeps State.RangeLaws.of_view (fun _ _ _ hs h => hs.exec h) hs h

end Sys2Proof.Machine
end

section
/-! SUPPORT. Which part of the set-up each command that writes it reaches: the parameters, the store, the batch size, the
setpoints or the layout. -/
namespace Sys2Proof.Machine

/-! ### The commands that write parameters alone -/

/-- From `s` to `t` the view changes in the parameters alone. -/
def State.ParametersWritten (s t : State) : Prop := ∃ x, t.view = (s.setSettings x).view

/-- From `s` to `t` the view changes in the store alone. -/
def State.StoreWritten (s t : State) : Prop := ∃ x, t.view = (s.setStore x).view

section
variable {s t u : State}

theorem State.setSettings_view_congr (h : t.view = s.view) (x : Settings) :
    (t.setSettings x).view = (s.setSettings x).view := by
  have := congrArg (fun v => { v with settings := x }) h
  exact this

theorem State.setStore_view_congr (h : t.view = s.view) (x : Store) : (t.setStore x).view = (s.setStore x).view := by
  have := congrArg (fun v => { v with store := x }) h
  exact this

theorem State.ParametersWritten.of_view (h : t.view = s.view) : s.ParametersWritten t := ⟨s.settings, h⟩

theorem State.ParametersWritten.trans (h : s.ParametersWritten t) (k : t.ParametersWritten u) :
    s.ParametersWritten u := by
  obtain ⟨x, hx⟩ := h
  obtain ⟨y, hy⟩ := k
  exact ⟨y, hy.trans (State.setSettings_view_congr hx y)⟩

theorem State.StoreWritten.of_view (h : t.view = s.view) : s.StoreWritten t := ⟨s.store, h⟩

theorem State.StoreWritten.trans (h : s.StoreWritten t) (k : t.StoreWritten u) : s.StoreWritten u := by
  obtain ⟨x, hx⟩ := h
  obtain ⟨y, hy⟩ := k
  exact ⟨y, hy.trans (State.setStore_view_congr hx y)⟩

variable {dt code : Nat} {p : Params} {accepts : Nat → Bool} {own : State → State × Answer} {named : Named}

theorem State.ParametersWritten.request (h : ∀ u : State, u.ParametersWritten (own u).1) :
    s.ParametersWritten (s.live dt fun u => u.request code p accepts own named) := by
  have hv : ∀ u v : State, v.view = u.view → s.ParametersWritten u → s.ParametersWritten v :=
    fun u v hv hu => hu.trans (.of_view hv)
  exact State.live_keeps hv (fun u hu => State.request_keeps hv (fun v hv => hv.trans (h v)) hu) (.of_view rfl)

theorem State.StoreWritten.live {f : State → State} (h : ∀ u : State, u.StoreWritten (f u)) :
    s.StoreWritten (s.live dt f) :=
  State.live_keeps (P := fun u => s.StoreWritten u) (fun _ _ hv hu => hu.trans (.of_view hv))
    (fun u hu => hu.trans (h u)) (.of_view rfl)

theorem State.StoreWritten.request (h : ∀ u : State, u.StoreWritten (own u).1) :
    s.StoreWritten (s.live dt fun u => u.request code p accepts own named) :=
  .live fun u => State.request_keeps (P := fun v => u.StoreWritten v) (fun _ _ hv hu => hu.trans (.of_view hv))
    (fun v hv => hv.trans (h v)) (.of_view rfl)

theorem State.ParametersWritten.gated {x : State × Answer} (h : s.ParametersWritten x.1) :
    s.ParametersWritten (s.gated x).1 :=
  State.gated_keeps (P := fun u => s.ParametersWritten u) (.of_view rfl) h

/-- A parameter write that is settled. -/
theorem State.ParametersWritten.carry {x : Settings} {data : State → List Byte} (h : t.view = (s.setSettings x).view) :
    s.ParametersWritten (t.carry data).1 := ⟨x, (t.carry_view data).trans h⟩

variable (s)

theorem State.setResetPolicy_writes (p : Params) : s.ParametersWritten (s.setResetPolicy p).1 := by
  unfold State.setResetPolicy; split
  · exact ⟨_, rfl⟩
  · exact .of_view rfl

theorem State.writeTyreParameters_writes (p : Params) : s.ParametersWritten (s.writeTyreParameters p).1 := by
  unfold State.writeTyreParameters; split
  · exact .of_view rfl
  · split
    · exact ⟨_, rfl⟩
    · exact .of_view rfl

theorem State.writeCalibration_writes (p : Params) : s.ParametersWritten (s.writeCalibration p).1 := by
  refine .gated ?_
  split
  · exact .of_view rfl
  · dsimp only
    split
    · exact .carry (State.recalibrate_view _ _)
    · exact .of_view rfl

theorem State.writeCharacteristic_writes (p : Params) : s.ParametersWritten (s.writeCharacteristic p).1 := by
  refine .gated ?_
  split; · exact .of_view rfl
  split; · exact .of_view rfl
  split; · exact .of_view rfl
  split
  · exact .of_view rfl
  · exact .carry (State.followThird_view _ _)

theorem State.writeStability_writes (p : Params) : s.ParametersWritten (s.writeStability p).1 := by
  refine .gated ?_
  split; · exact .of_view rfl
  split
  · exact .of_view rfl
  · exact .carry rfl

theorem State.saveTables_writes : s.StoreWritten s.saveTables.1 := by
  unfold State.saveTables; split
  · exact .of_view rfl
  · exact ⟨_, rfl⟩

theorem State.endSave_writes (b : Bool) : s.StoreWritten (s.endSave b) := by
  unfold State.endSave
  split
  · exact .of_view rfl
  · split
    · exact ⟨_, rfl⟩
    · exact .of_view rfl

end

/-- The commands that write parameters alone. -/
def writesParameters : Instr → Bool
  | .setResetPolicy _ _ => true
  | .setNoticeEnables _ _ => true
  | .writeTyreParameters _ _ => true
  | .writeGroupCalibration _ _ => true
  | .writeBrakeCharacteristic _ _ => true
  | .writeStabilityParameters _ _ => true
  | _ => false

theorem exec_parametersWritten {i : Instr} {s t : State} (hi : writesParameters i = true) (h : exec i s = .next t) :
    s.ParametersWritten t := by
  cases i <;> simp only [writesParameters, Bool.false_eq_true] at hi <;> injection h <;> subst t
  case setResetPolicy => exact .request fun u => u.setResetPolicy_writes _
  case setNoticeEnables => exact .request fun u => ⟨_, rfl⟩
  case writeTyreParameters => exact .request fun u => u.writeTyreParameters_writes _
  case writeGroupCalibration => exact .request fun u => u.writeCalibration_writes _
  case writeBrakeCharacteristic => exact .request fun u => u.writeCharacteristic_writes _
  case writeStabilityParameters => exact .request fun u => u.writeStability_writes _

/-- The commands that write the store alone. -/
def writesStoreAlone : Instr → Bool
  | .saveTables _ _ => true
  | .saveEnd _ _ => true
  | .lossOfSupply _ => true
  | _ => false

theorem exec_storeWritten {i : Instr} {s t : State} (hi : writesStoreAlone i = true) (h : exec i s = .next t) :
    s.StoreWritten t := by
  cases i <;> simp only [writesStoreAlone, Bool.false_eq_true] at hi <;> injection h <;> subst t
  case saveTables => exact .request State.saveTables_writes
  case saveEnd => exact .live fun u => u.endSave_writes _
  case lossOfSupply => exact .live fun u => ⟨_, rfl⟩

/-! ### The commands that write setpoints, the batch size or the layout -/

/-- From `s` to `t` the parameters, the store and the layout stand. -/
structure State.SetpointsWritten (s t : State) : Prop where
  settings : t.settings = s.settings
  store : t.store = s.store
  layout : ∀ a, (t.axle a).layout = (s.axle a).layout

theorem State.SetpointsWritten.of_view {s t u : State} (hv : u.view = t.view) (h : s.SetpointsWritten t) :
    s.SetpointsWritten u :=
  ⟨(State.settings_of_view hv).trans h.settings, (State.store_of_view hv).trans h.store,
    fun a => (State.layout_of_view hv a).trans (h.layout a)⟩

theorem State.setSetpoints_writes {s u : State} (p : Params) (h : s.SetpointsWritten u) :
    s.SetpointsWritten (u.setSetpoints p).1 := by
  refine State.withPosition_keeps (P := s.SetpointsWritten) h fun q _ => ?_
  split
  · exact h
  · exact .of_view ((State.carry_view _ _).trans (State.evaluate_view _ _)) ⟨h.settings, h.store, h.layout⟩

theorem State.writeSetpoints_writes {s u : State} (p : Params) (h : s.SetpointsWritten u) :
    s.SetpointsWritten (u.writeSetpoints p).1 := by
  unfold State.writeSetpoints
  split
  · exact h
  · dsimp only
    split
    all_goals
      refine .of_view (State.settle_view _) ?_
      exact State.writeValues_keeps (P := s.SetpointsWritten) (fun _ _ hv h => h.of_view hv)
        (fun v q n _ hv => ⟨hv.settings, hv.store, hv.layout⟩) _ _ _ h

theorem exec_setpointsWritten {i : Instr} {s t : State}
    (hi : (∃ dt p, i = .setPositionSetpoints dt p) ∨ ∃ dt p, i = .writeSetpoints dt p) (h : exec i s = .next t) :
    s.SetpointsWritten t := by
  have hv : ∀ u v : State, v.view = u.view → s.SetpointsWritten u → s.SetpointsWritten v := fun _ _ hv h => h.of_view hv
  obtain ⟨dt, p, rfl⟩ | ⟨dt, p, rfl⟩ := hi <;> injection h <;> subst t
  · exact State.live_keeps hv (fun u => State.request_keeps hv fun v h => State.setSetpoints_writes p h) ⟨rfl, rfl, fun _ => rfl⟩
  · exact State.live_keeps hv (fun u => State.request_keeps hv fun v h => State.writeSetpoints_writes p h) ⟨rfl, rfl, fun _ => rfl⟩

theorem exec_setBatchSize_written {s t : State} {dt : Nat} {p : Params} (h : exec (.setBatchSize dt p) s = .next t) :
    (∀ q, (t.position q).pl = (s.position q).pl ∧ (t.position q).pe = (s.position q).pe) ∧ s.SetpointsWritten t := by
  have hv : ∀ u v : State, v.view = u.view →
      (∀ q, (u.position q).pl = (s.position q).pl ∧ (u.position q).pe = (s.position q).pe) ∧ s.SetpointsWritten u →
      (∀ q, (v.position q).pl = (s.position q).pl ∧ (v.position q).pe = (s.position q).pe) ∧ s.SetpointsWritten v :=
    fun u v hv hu => ⟨fun q => by rw [State.pl_of_view hv, State.pe_of_view hv]; exact hu.1 q, hu.2.of_view hv⟩
  injection h; subst t
  refine State.live_keeps hv (fun u => State.request_keeps hv fun v h => ?_)
    ⟨fun _ => ⟨rfl, rfl⟩, rfl, rfl, fun _ => rfl⟩
  unfold State.setBatchSize
  split
  · exact ⟨h.1, h.2.settings, h.2.store, h.2.layout⟩
  · exact h

/-- From `s` to `t` the store and the setpoints stand. -/
structure State.LayoutWritten (s t : State) : Prop where
  store : t.store = s.store
  setpoints : ∀ q, (t.position q).pl = (s.position q).pl ∧ (t.position q).pe = (s.position q).pe

theorem State.LayoutWritten.of_setup {s t u : State} (hv : u.setup = t.setup) (h : s.LayoutWritten t) :
    s.LayoutWritten u :=
  ⟨(State.store_of_setup hv).trans h.store,
    fun q => by rw [State.pl_of_setup hv, State.pe_of_setup hv]; exact h.setpoints q⟩

theorem State.writeLayout_writes {s : State} (x : PerAxle StoredAxle) (c n : Nat) :
    s.LayoutWritten (s.writeLayout x c n) := by
  refine .of_setup (State.followLayout_setup _ _) ?_
  have ht := State.foldl_keeps (P := s.LayoutWritten)
    (f := fun t a => t.setAxle a ((t.axle a).relaid { x.get a with mode := notHeldUp (x.get a).mode }))
    (fun t a h => ⟨h.store, h.setpoints⟩) AxleId.list ⟨rfl, fun _ => ⟨rfl, rfl⟩⟩
  exact ⟨ht.store, ht.setpoints⟩

theorem exec_writeAxleLayout_written {s t : State} {dt : Nat} {p : Params}
    (h : exec (.writeAxleLayout dt p) s = .next t) : s.LayoutWritten t := by
  have hv : ∀ u v : State, v.view = u.view → s.LayoutWritten u → s.LayoutWritten v :=
    fun _ _ hv h => h.of_setup (State.setup_of_view hv)
  injection h; subst t
  refine State.live_keeps hv (fun u => State.request_keeps hv fun v h => ?_) ⟨rfl, fun _ => ⟨rfl, rfl⟩⟩
  refine State.gated_keeps h ?_
  split; · exact h
  split; · exact h
  split; · exact h
  split
  · exact h
  · have hw := v.writeLayout_writes ‹_› (wordAt p 15) (byteAt p 17)
    refine .of_setup (State.settle_setup _) ⟨hw.store.trans h.store, fun q => ?_⟩
    exact ⟨(hw.setpoints q).1.trans (h.setpoints q).1, (hw.setpoints q).2.trans (h.setpoints q).2⟩

/-! ### A reload leaves the store -/

theorem State.reload_store (s : State) (x : Image) : (s.reload x).store = s.store := by
  have hset : ∀ {u v : State}, u.setup = v.setup → u.store = v.store := fun h => State.store_of_setup h
  have h1 : (s.reloadLayout x).store = s.store := by
    refine (hset (State.followLayout_setup _ _)).trans ?_
    refine (State.store_of_view (State.reloadLifts_view _ _)).trans ?_
    have ht := State.foldl_keeps (P := fun t => t.store = s.store)
      (f := fun t a => t.setAxle a ((t.axle a).relaid (x.axles.get a))) (fun t a h => h) AxleId.list rfl
    exact ht
  have h2 : ((s.reloadLayout x).reloadSettings x.settings).store = s.store :=
    (State.store_of_view (State.reloadSettings_view _ _)).trans ((State.setSettings_store _ _).trans h1)
  have h3 := State.foldl_keeps (P := fun t => t.store = s.store) (f := fun t p => t.reloadPosition p (x.positions.get p))
    (fun t p h => (hset (t.reloadPosition_setup p _)).trans h) Position.list h2
  exact (State.store_of_view (State.compareAllPairs_view _)).trans h3

theorem exec_reload_store {i : Instr} {s t : State} (hi : (∃ dt p, i = .restart dt p) ∨ ∃ dt p, i = .restoreTables dt p)
    (h : exec i s = .next t) : t.store = s.store := by
  have hv : ∀ u v : State, v.view = u.view → u.store = s.store → v.store = s.store :=
    fun _ _ hv h => (State.store_of_view hv).trans h
  obtain ⟨dt, p, rfl⟩ | ⟨dt, p, rfl⟩ := hi <;> injection h <;> subst t
  · refine State.live_keeps hv (fun u hu => ?_) rfl
    split
    · refine (State.store_of_view (State.restart_view _)).trans ?_
      have hp : ∀ w : State, w.restartPolicy.store = w.store := fun w => by
        unfold State.restartPolicy
        split
        · rfl
        · split
          · exact w.reload_store _
          · rfl
      rw [hp]
      exact (State.store_of_setup ((State.setNotices_setup _ _).trans (State.restartLive_setup _))).trans hu
    · exact State.request_keeps hv (fun v hv => hv) hu
  · refine State.live_keeps hv (fun u => State.request_keeps hv fun v h => ?_) rfl
    refine State.gated_keeps (P := fun w => w.store = s.store) h ?_
    split
    · refine (State.store_of_view (State.carry_view _ _)).trans ((State.reload_store _ _).trans ?_)
      exact (State.store_of_setup v.cancelWindow_setup).trans h
    · exact h

/-! ### Every command -/

section
variable {i : Instr} {s t : State} (h : exec i s = .next t)
include h

theorem exec_settings (hi : writesSettings i = false) : t.settings = s.settings := by
  by_cases hs : changesSetup i = false
  · exact State.settings_of_setup (exec_setup hs h)
  by_cases hw : writesStoreAlone i = true
  · obtain ⟨x, hx⟩ := exec_storeWritten hw h
    exact (State.settings_of_view hx).trans rfl
  cases i <;> simp only [changesSetup, writesSettings, writesStoreAlone, not_true_eq_false, Bool.true_eq_false] at *
  case setBatchSize => exact (exec_setBatchSize_written h).2.settings
  case setPositionSetpoints => exact (exec_setpointsWritten (.inl ⟨_, _, rfl⟩) h).settings
  case writeSetpoints => exact (exec_setpointsWritten (.inr ⟨_, _, rfl⟩) h).settings

theorem exec_layout (hi : writesLayout i = false) (a : AxleId) : (t.axle a).layout = (s.axle a).layout := by
  by_cases hs : changesSetup i = false
  · exact State.layout_of_setup (exec_setup hs h) a
  by_cases hw : writesStoreAlone i = true
  · obtain ⟨x, hx⟩ := exec_storeWritten hw h
    exact State.layout_of_view hx a
  by_cases hp : writesParameters i = true
  · obtain ⟨x, hx⟩ := exec_parametersWritten hp h
    exact State.layout_of_view hx a
  cases i <;>
    simp only [changesSetup, writesLayout, writesStoreAlone, writesParameters, not_true_eq_false, Bool.true_eq_false] at *
  case setBatchSize => exact (exec_setBatchSize_written h).2.layout a
  case setPositionSetpoints => exact (exec_setpointsWritten (.inl ⟨_, _, rfl⟩) h).layout a
  case writeSetpoints => exact (exec_setpointsWritten (.inr ⟨_, _, rfl⟩) h).layout a

theorem exec_setpoints (hi : writesSetpoints i = false) (q : Position) :
    (t.position q).pl = (s.position q).pl ∧ (t.position q).pe = (s.position q).pe := by
  by_cases hs : changesSetup i = false
  · exact ⟨State.pl_of_setup (exec_setup hs h) q, State.pe_of_setup (exec_setup hs h) q⟩
  by_cases hw : writesStoreAlone i = true
  · obtain ⟨x, hx⟩ := exec_storeWritten hw h
    exact ⟨State.pl_of_view hx q, State.pe_of_view hx q⟩
  by_cases hp : writesParameters i = true
  · obtain ⟨x, hx⟩ := exec_parametersWritten hp h
    exact ⟨State.pl_of_view hx q, State.pe_of_view hx q⟩
  cases i <;>
    simp only [changesSetup, writesSetpoints, writesStoreAlone, writesParameters, not_true_eq_false,
      Bool.true_eq_false] at *
  case setBatchSize => exact (exec_setBatchSize_written h).1 q
  case writeAxleLayout => exact (exec_writeAxleLayout_written h).setpoints q

theorem exec_store (hi : writesStore i = false) : t.store = s.store := by
  by_cases hs : changesSetup i = false
  · exact State.store_of_setup (exec_setup hs h)
  by_cases hp : writesParameters i = true
  · obtain ⟨x, hx⟩ := exec_parametersWritten hp h
    exact (State.store_of_view hx).trans rfl
  cases i <;> simp only [changesSetup, writesStore, writesParameters, not_true_eq_false, Bool.true_eq_false] at *
  case restart => exact exec_reload_store (.inl ⟨_, _, rfl⟩) h
  case restoreTables => exact exec_reload_store (.inr ⟨_, _, rfl⟩) h
  case setBatchSize => exact (exec_setBatchSize_written h).2.store
  case setPositionSetpoints => exact (exec_setpointsWritten (.inl ⟨_, _, rfl⟩) h).store
  case writeSetpoints => exact (exec_setpointsWritten (.inr ⟨_, _, rfl⟩) h).store
  case writeAxleLayout => exact (exec_writeAxleLayout_written h).store

end

/-- Settles O16: each command leaves the set-up, or the part of it that it does not write. -/
theorem onlyWritesChangeTheConfiguration : Obligations.OnlyWritesChangeTheConfiguration := fun _ _ _ h =>
  ⟨exec_settings h, exec_layout h, exec_setpoints h, exec_store h⟩

end Sys2Proof.Machine
end

section
/-! SUPPORT. What the operations of the wheel position table and of the Telegram Intake leave of each record, of the learn
window and of the candidate list (R6, R10, R18, R24, R33, R37 to R40). -/
namespace Sys2Proof.Machine

section
variable (s : State)

/-! ### Comparing, noting and evaluating -/

@[simp] theorem State.comparePairOf_position (p q : Position) : (s.comparePairOf p).position q = s.position q := by
  obtain ⟨pairs, m, h⟩ := comparePairOf_frame s p
  rw [h]; rfl

@[simp] theorem State.comparePairOf_intake (p : Position) : (s.comparePairOf p).intake = s.intake := by
  obtain ⟨pairs, m, h⟩ := comparePairOf_frame s p
  rw [h]; rfl

@[simp] theorem State.comparePair_position (a : AxleId) (sd : Side) (q : Position) :
    (s.comparePair a sd).position q = s.position q := by
  rw [comparePair_frame]; rfl

@[simp] theorem State.noteLevels_position (p q : Position) (r : PositionRecord) :
    (s.noteLevels p r).position q = s.position q := by
  unfold State.noteLevels; split <;> rfl

@[simp] theorem State.noteLevels_tyres (p : Position) (r : PositionRecord) : (s.noteLevels p r).tyres = s.tyres := by
  unfold State.noteLevels; split <;> rfl

@[simp] theorem State.noteLevels_intake (p : Position) (r : PositionRecord) : (s.noteLevels p r).intake = s.intake := by
  unfold State.noteLevels; split <;> rfl

/-- R10: an evaluation judges its own record, and reaches no other. -/
theorem State.evaluate_position (p q : Position) : (s.evaluate p).position q =
    if q = p ∧ (s.position p).state.isBound = true then s.evaluatedRecord p else s.position q := by
  unfold State.evaluate
  split
  · rw [State.comparePairOf_position, State.noteLevels_position, State.setPosition_position]
    simp [*]
  · simp [*]

theorem State.evaluate_position_ne {p q : Position} (h : q ≠ p) : (s.evaluate p).position q = s.position q := by
  rw [State.evaluate_position, if_neg fun hc => h hc.1]

@[simp] theorem State.evaluate_intake (p : Position) : (s.evaluate p).intake = s.intake :=
  (LoadChange.evaluate s p).settles.offers.intake

@[simp] theorem State.reportTelegram_tyres (p : Position) : (s.reportTelegram p).tyres = s.tyres := by
  unfold State.reportTelegram State.stepDone State.enterWorkshopState
  split
  · split
    · split <;> split <;> rfl
    · rfl
  · rfl

@[simp] theorem State.reportTelegram_intake (p : Position) : (s.reportTelegram p).intake = s.intake := by
  unfold State.reportTelegram State.stepDone State.enterWorkshopState
  split
  · split
    · split <;> split <;> rfl
    · rfl
  · rfl

@[simp] theorem State.reportTelegram_position (p q : Position) : (s.reportTelegram p).position q = s.position q := by
  simp [State.position]

/-! ### Binding lookups -/

variable {s}

/-- R6: a position that the lookup finds holds the ID. -/
theorem State.boundPosition_some {id : SensorId} {p : Position} (h : s.boundPosition id = some p) :
    (s.position p).bound.map Binding.id = some id := by
  simpa using List.find?_some h

theorem State.boundPosition_none {id : SensorId} :
    s.boundPosition id = none ↔ ∀ p, (s.position p).bound.map Binding.id ≠ some id := by
  unfold State.boundPosition
  rw [List.find?_eq_none]
  exact ⟨fun h p => by simpa using h p p.mem_list, fun h p _ => by simpa using h p⟩

/-- R6: under the law of the IDs the lookup finds the one position that holds an ID. -/
theorem State.boundPosition_of_bound {p : Position} {b : Binding} (hs : s.idLaw) (h : (s.position p).bound = some b) :
    s.boundPosition b.id = some p := by
  cases hq : s.boundPosition b.id with
  | none => exact absurd (by rw [h]; rfl) (State.boundPosition_none.1 hq p)
  | some q => rw [hs.1 p q b h (State.boundPosition_some hq)]

/-! ### The learn window -/

theorem State.cancelWindow_none (h : s.intake.window = none) : s.cancelWindow = s := by
  simp [State.cancelWindow, h]

theorem State.cancelWindow_some {w : LearnWindow} (h : s.intake.window = some w) : s.cancelWindow =
    ((s.setIntake { s.intake with window := none }).setPosition w.target
      (s.position w.target).emptied).noteLearnResult .cancelled w.target := by
  simp [State.cancelWindow, h]

theorem State.cancelWindow_window : s.cancelWindow.intake.window = none := by
  cases h : s.intake.window with
  | none => rw [State.cancelWindow_none h, h]
  | some w => rw [State.cancelWindow_some h]; rfl

theorem State.cancelWindow_candidates : s.cancelWindow.intake.candidates = s.intake.candidates := by
  cases h : s.intake.window with
  | none => rw [State.cancelWindow_none h]
  | some w => rw [State.cancelWindow_some h]; rfl

/-- R35: under the law of learning, the LEARNING position is the target of the open window. -/
theorem State.window_of_learning {p : Position} (hl : s.learnLaw) (h : (s.position p).state = .learning) :
    ∃ w, s.intake.window = some w ∧ w.target = p := (hl p).1 h

/-- R40: a cancelled window empties its target, and no other record. -/
theorem State.cancelWindow_position (hl : s.learnLaw) (q : Position) : s.cancelWindow.position q =
    if (s.position q).state = .learning then (s.position q).emptied else s.position q := by
  cases h : s.intake.window with
  | none =>
    rw [State.cancelWindow_none h, if_neg]
    intro hq
    obtain ⟨w, hw, -⟩ := State.window_of_learning hl hq
    rw [h] at hw; cases hw
  | some w =>
    rw [State.cancelWindow_some h]
    simp only [State.noteLearnResult_eq, State.setNotices_position, State.setPosition_position,
      State.setIntake_position]
    by_cases hq : q = w.target
    · subst hq
      rw [if_pos rfl, if_pos ((hl _).2 ⟨w, h, rfl⟩)]
    · rw [if_neg hq, if_neg]
      intro hc
      obtain ⟨w', hw', rfl⟩ := State.window_of_learning hl hc
      rw [h] at hw'; cases hw'; exact hq rfl

/-! ### Retiring -/

theorem State.clearBound_position (p q : Position) : (s.clearBound p).position q =
    if q = p then (s.position p).emptied else s.position q := by
  simp only [State.clearBound, State.comparePairOf_position, State.noteLevels_position, State.setPosition_position]

theorem State.clearBound_intake (p : Position) : (s.clearBound p).intake = s.intake := by
  simp [State.clearBound]

theorem State.retirePosition_bound {p : Position} (h : (s.position p).state.isBound = true) :
    s.retirePosition p = s.clearBound p := by
  unfold State.retirePosition
  cases hs : (s.position p).state <;> simp [hs, PositionState.isBound] at h ⊢

theorem State.retirePosition_learning {p : Position} (h : (s.position p).state = .learning) :
    s.retirePosition p = s.cancelWindow := by
  simp [State.retirePosition, h]

theorem State.retirePosition_empty {p : Position} (h : (s.position p).state = .empty) : s.retirePosition p = s := by
  simp [State.retirePosition, h]

/-- R4: the states of a record: EMPTY, LEARNING or bound. -/
theorem PositionState.cases_bound (x : PositionState) : x = .empty ∨ x = .learning ∨ x.isBound = true := by
  cases x <;> simp [PositionState.isBound]

/-- R24: a retired position is EMPTY with its setpoints kept; no other record changes. -/
theorem State.retirePosition_position (hl : s.learnLaw) (p q : Position) : (s.retirePosition p).position q =
    if q = p ∧ (s.position p).state ≠ .empty then (s.position p).emptied else s.position q := by
  rcases (s.position p).state.cases_bound with h | h | h
  · rw [State.retirePosition_empty h, if_neg fun hc => hc.2 h]
  · rw [State.retirePosition_learning h, State.cancelWindow_position hl]
    obtain ⟨w, hw, rfl⟩ := State.window_of_learning hl h
    by_cases hq : q = w.target
    · subst hq; simp [h]
    · rw [if_neg, if_neg fun hc => hq hc.1]
      intro hc
      obtain ⟨w', hw', rfl⟩ := State.window_of_learning hl hc
      rw [hw] at hw'; cases hw'; exact hq rfl
  · rw [State.retirePosition_bound h, State.clearBound_position]
    have hne : (s.position p).state ≠ .empty := fun hc => by rw [hc] at h; cases h
    simp [hne]

end

/-! ### The candidate list -/

section
variable {s : State}

theorem candidateIndex_none {l : List Candidate} {id : SensorId} :
    candidateIndex l id = none ↔ ∀ c ∈ l, c.bound.id ≠ id := by
  simp [candidateIndex, List.findIdx?_eq_none_iff]

theorem candidateIndex_some {l : List Candidate} {id : SensorId} {i : Nat} (h : candidateIndex l id = some i) :
    ∃ c, l[i]? = some c ∧ c.bound.id = id := by
  unfold candidateIndex at h
  obtain ⟨hi, hc, -⟩ := List.findIdx?_eq_some_iff_getElem.1 h
  exact ⟨l[i], by simp [hi], by simpa using hc⟩

theorem Candidate.sightedEntry_bound (s : State) (t : Telegram) (c : Candidate) :
    (s.sightedEntry t c).bound = c.bound := by
  unfold State.sightedEntry; split <;> rfl

theorem evict_subset (l : List Candidate) : ∀ c ∈ evict l, c ∈ l := by
  cases l with
  | nil => simp [evict]
  | cons d l => exact fun c h => List.mem_of_mem_eraseIdx h

theorem withRoom_subset (l : List Candidate) : ∀ c ∈ withRoom l, c ∈ l := by
  unfold withRoom
  split
  · exact fun _ h => h
  · exact evict_subset l

/-- R43, R45: every entry after a telegram on the candidate route is one of before, or carries the telegram's ID. -/
theorem State.takeCandidate_ids (kind : SensorKind) (t : Telegram) {c : Candidate}
    (h : c ∈ (s.takeCandidate kind t).intake.candidates) :
    c.bound.id = t.id ∨ c ∈ s.intake.candidates := by
  have hn : ∀ (u : State) (x y : Candidate), (u.noteReady x y).intake = u.intake := fun u x y => by
    unfold State.noteReady; split <;> rfl
  unfold State.takeCandidate at h
  split at h
  · rename_i i hi
    split at h
    · rename_i e he
      rw [hn] at h
      rcases List.mem_or_eq_of_mem_set h with h | rfl
      · exact .inr h
      · obtain ⟨c', hc', hid⟩ := candidateIndex_some hi
        rw [hc'] at he; cases he
        left
        rw [Candidate.sightedEntry_bound]; exact hid
    · exact .inr h
  · rw [hn] at h
    rcases List.mem_append.1 h with h | h
    · exact .inr (withRoom_subset _ _ h)
    · simp only [List.mem_singleton] at h
      subst h
      left
      rw [Candidate.sightedEntry_bound]; rfl

theorem State.takeCandidate_view (kind : SensorKind) (t : Telegram) : (s.takeCandidate kind t).view =
    (s.setIntake { s.intake with candidates := (s.takeCandidate kind t).intake.candidates }).view := by
  have hn : ∀ (u : State) (x y : Candidate), (u.noteReady x y).view = u.view ∧
      (u.noteReady x y).intake = u.intake := fun u x y => by
    unfold State.noteReady; split <;> exact ⟨rfl, rfl⟩
  unfold State.takeCandidate
  split
  · split
    · rw [(hn _ _ _).1, (hn _ _ _).2]; rfl
    · rfl
  · rw [(hn _ _ _).1, (hn _ _ _).2]; rfl

theorem State.setTrigger_view {w : LearnWindow} (h : s.intake.window = some w) (x : Option Trigger) :
    (s.setTrigger w x).view = s.view :=
  State.setIntake_view (by rw [h]; rfl) rfl

theorem State.takeTrigger_view {w : LearnWindow} (h : s.intake.window = some w) (kind : SensorKind) (t : Telegram) :
    (s.takeTrigger w kind t).view = s.view := by
  unfold State.takeTrigger
  split
  · exact State.setTrigger_view h _
  · split
    · exact State.setTrigger_view h _
    · exact (State.setNotices_view _ _).trans (State.setTrigger_view h _)

end

end Sys2Proof.Machine
end

section
/-! SUPPORT. Which updates keep the laws of the wheel position table (R3, R4, R6, R35): the laws hang on the view, and a
change of one record, of the window or of the list keeps them under what the commands check. -/
namespace Sys2Proof.Machine

/-- The laws of the table that no axle layout can break: all but R3. -/
structure State.BoundLaws (s : State) : Prop where
  binding : s.bindingLaw
  learn : s.learnLaw
  id : s.idLaw

theorem State.TableLaws.bound {s : State} (hs : s.TableLaws) : s.BoundLaws := ⟨hs.binding, hs.learn, hs.id⟩

section
variable {s t : State}

theorem State.bindingLaw_of_view (h : t.view = s.view) (hs : s.bindingLaw) : t.bindingLaw := fun p => by
  rw [State.bound_of_view h, State.state_of_view h]; exact hs p

/-- R35: the law of learning speaks of the window's target. -/
theorem State.learnLaw_iff : s.learnLaw ↔
    ∀ p, (s.position p).state = .learning ↔ s.intake.window.map LearnWindow.target = some p := by
  unfold State.learnLaw
  refine forall_congr' fun p => iff_congr Iff.rfl ?_
  cases s.intake.window <;> simp

theorem State.learnLaw_of_view (h : t.view = s.view) (hs : s.learnLaw) : t.learnLaw :=
  State.learnLaw_iff.2 fun p => by
    rw [State.state_of_view h, State.target_of_view h]; exact State.learnLaw_iff.1 hs p

theorem State.idLaw_of_view (h : t.view = s.view) (hs : s.idLaw) : t.idLaw := by
  refine ⟨fun p q b hp hq => ?_, fun p b c hp hc => ?_⟩
  · rw [State.bound_of_view h] at hp hq
    exact hs.1 p q b hp hq
  · rw [State.bound_of_view h] at hp
    have hm : c.bound.id ∈ s.intake.candidates.map fun c => c.bound.id := by
      rw [← State.candidates_of_view h]; exact List.mem_map_of_mem hc
    obtain ⟨d, hd, he⟩ := List.mem_map.1 hm
    rw [← he]
    exact hs.2 p b d hp hd

theorem State.existLaw_of_view (h : t.view = s.view) (hs : s.existLaw) : t.existLaw := fun p hp => by
  rw [State.positionExists_of_view h] at hp
  rw [State.state_of_view h]; exact hs p hp

theorem State.BoundLaws.of_view (h : t.view = s.view) (hs : s.BoundLaws) : t.BoundLaws :=
  ⟨State.bindingLaw_of_view h hs.binding, State.learnLaw_of_view h hs.learn, State.idLaw_of_view h hs.id⟩

theorem State.TableLaws.of_view (s t : State) (h : t.view = s.view) (hs : s.TableLaws) : t.TableLaws where
  binding := State.bindingLaw_of_view h hs.binding
  learn := State.learnLaw_of_view h hs.learn
  exist := State.existLaw_of_view h hs.exist
  id := State.idLaw_of_view h hs.id
  image x hx := hs.image x (State.store_of_view h ▸ hx)
  snapshot x hx := hs.snapshot x (State.store_of_view h ▸ hx)

theorem State.TableLaws.setSettings {x : Settings} (hs : s.TableLaws) : (s.setSettings x).TableLaws :=
  ⟨hs.binding, hs.learn, hs.exist, hs.id, hs.image, hs.snapshot⟩

theorem State.TableLaws.setPort {x : Port} (hs : s.TableLaws) : (s.setPort x).TableLaws :=
  ⟨hs.binding, hs.learn, hs.exist, hs.id, hs.image, hs.snapshot⟩

theorem State.TableLaws.setStore {x : Store} (hs : s.TableLaws) (h1 : ∀ i, x.image = some i → i.contents.tableLaw)
    (h2 : ∀ i, x.saving = some i → i.snapshot.tableLaw) : (s.setStore x).TableLaws :=
  ⟨hs.binding, hs.learn, hs.exist, hs.id, h1, h2⟩

/-- One record changes, and with it the window and the list: R4 and R35 hold of the record, R3 holds of its position, and
its ID is its own. -/
structure State.RecordChange (s t : State) (p : Position) : Prop where
  others : ∀ q, q ≠ p → (t.position q).view = (s.position q).view
  binding : (t.position p).bound.isSome = (t.position p).state.isBound
  learn : ∀ q, (t.position q).state = .learning ↔ t.intake.window.map LearnWindow.target = some q
  list : ∀ c ∈ t.intake.candidates, ∃ d ∈ s.intake.candidates, d.bound.id = c.bound.id
  own : ∀ b, (t.position p).bound = some b → ∀ q, q ≠ p → (s.position q).bound.map Binding.id ≠ some b.id
  apart : ∀ b, (t.position p).bound = some b → ∀ c ∈ t.intake.candidates, c.bound.id ≠ b.id

theorem State.RecordChange.boundLaws {p : Position} (h : s.RecordChange t p) (hs : s.BoundLaws) : t.BoundLaws := by
  have hb : ∀ q, q ≠ p → (t.position q).bound = (s.position q).bound := fun q hq => congrArg RecordView.bound (h.others q hq)
  refine ⟨fun q => ?_, State.learnLaw_iff.2 h.learn, fun q r b hq hr => ?_, fun q b c hq hc => ?_⟩
  · by_cases hq : q = p
    · subst hq; exact h.binding
    · rw [hb q hq, show (t.position q).state = (s.position q).state from congrArg RecordView.state (h.others q hq)]
      exact hs.binding q
  · by_cases hqp : q = p <;> by_cases hrp : r = p
    · rw [hqp, hrp]
    · subst hqp
      rw [hb r hrp] at hr
      exact absurd hr (h.own b hq r hrp)
    · subst hrp
      rw [hb q hqp] at hq
      cases hc : (t.position r).bound with
      | none => rw [hc] at hr; cases hr
      | some c =>
        rw [hc] at hr
        simp only [Option.map_some, Option.some.injEq] at hr
        exact absurd (by rw [hq, hr]; rfl) (h.own c hc q hqp)
    · rw [hb q hqp] at hq
      rw [hb r hrp] at hr
      exact hs.id.1 q r b hq hr
  · by_cases hqp : q = p
    · subst hqp; exact h.apart b hq c hc
    · rw [hb q hqp] at hq
      obtain ⟨d, hd, he⟩ := h.list c hc
      rw [← he]
      exact hs.id.2 q b d hq hd

theorem State.RecordChange.tableLaws {p : Position} (h : s.RecordChange t p) (hs : s.TableLaws)
    (hstore : t.store = s.store) (hex : ∀ q, t.positionExists q = s.positionExists q)
    (hp : s.positionExists p = false → (t.position p).state = .empty) : t.TableLaws := by
  obtain ⟨h1, h2, h3⟩ := h.boundLaws hs.bound
  refine ⟨h1, h2, fun q hq => ?_, h3, hstore ▸ hs.image, hstore ▸ hs.snapshot⟩
  rw [hex] at hq
  by_cases hqp : q = p
  · subst hqp; exact hp hq
  · rw [show (t.position q).state = (s.position q).state from congrArg RecordView.state (h.others q hqp)]
    exact hs.exist q hq

/-! ### One record -/

/-- A bound record exists. -/
theorem State.exists_of_bound {p : Position} (hs : s.TableLaws) (h : (s.position p).state.isBound = true) :
    s.positionExists p = true := by
  cases hp : s.positionExists p with
  | true => rfl
  | false => rw [hs.exist p hp] at h; cases h

/-- A record that keeps its binding and moves between the bound states. -/
theorem State.TableLaws.setBoundState {p : Position} {r : PositionRecord} (hs : s.TableLaws)
    (h : (s.position p).state.isBound = true) (hb : r.bound = (s.position p).bound) (hr : r.state.isBound = true) :
    (s.setPosition p r).TableLaws := by
  have hl : (s.position p).state ≠ .learning := fun hc => by rw [hc] at h; cases h
  have hl' : r.state ≠ .learning := fun hc => by rw [hc] at hr; cases hr
  refine State.RecordChange.tableLaws (s := s) (p := p) ⟨fun q hq => ?_, ?_, fun q => ?_, fun c hc => ⟨c, hc, rfl⟩, ?_, ?_⟩ hs rfl
    (fun q => rfl) fun hp => ?_
  · rw [State.setPosition_position, if_neg hq]
  · rw [State.setPosition_position_self, hb, hs.binding, h, hr]
  · refine Iff.trans ?_ (State.learnLaw_iff.1 hs.learn q)
    rw [State.setPosition_position]
    split
    · subst q; exact iff_of_false hl' hl
    · rfl
  · intro b hb' q hq hc
    rw [State.setPosition_position_self, hb] at hb'
    exact hq (hs.id.1 p q b hb' hc).symm
  · intro b hb' c hc
    rw [State.setPosition_position_self, hb] at hb'
    exact hs.id.2 p b c hb' hc
  · rw [State.exists_of_bound hs h] at hp; cases hp

/-- A record that changes in its setpoints and its readings alone. -/
theorem State.TableLaws.setReadings {p : Position} {r : PositionRecord} (hs : s.TableLaws)
    (hb : r.bound = (s.position p).bound) (hr : r.state = (s.position p).state) : (s.setPosition p r).TableLaws := by
  refine State.RecordChange.tableLaws (s := s) (p := p) ⟨fun q hq => ?_, ?_, fun q => ?_, fun c hc => ⟨c, hc, rfl⟩, ?_, ?_⟩ hs rfl
    (fun q => rfl) fun hp => ?_
  · rw [State.setPosition_position, if_neg hq]
  · rw [State.setPosition_position_self, hb, hr, hs.binding]
  · refine Iff.trans ?_ (State.learnLaw_iff.1 hs.learn q)
    rw [State.setPosition_position]
    split
    · subst q; rw [hr]
    · rfl
  · intro b hb' q hq hc
    rw [State.setPosition_position_self, hb] at hb'
    exact hq (hs.id.1 p q b hb' hc).symm
  · intro b hb' c hc
    rw [State.setPosition_position_self, hb] at hb'
    exact hs.id.2 p b c hb' hc
  · rw [State.setPosition_position_self, hr]
    exact hs.exist p hp

/-- A record that is not LEARNING is emptied. -/
theorem State.BoundLaws.emptyRecord {p : Position} {r : PositionRecord} (hs : s.BoundLaws)
    (h : (s.position p).state ≠ .learning) (hb : r.bound = none) (hr : r.state = .empty) :
    s.RecordChange (s.setPosition p r) p := by
  refine ⟨fun q hq => ?_, ?_, fun q => ?_, fun c hc => ⟨c, hc, rfl⟩, ?_, ?_⟩
  · rw [State.setPosition_position, if_neg hq]
  · rw [State.setPosition_position_self, hb, hr]; rfl
  · refine Iff.trans ?_ (State.learnLaw_iff.1 hs.learn q)
    rw [State.setPosition_position]
    split
    · subst q; rw [hr]; exact iff_of_false (by simp) h
    · rfl
  all_goals
    intro b hb'
    rw [State.setPosition_position_self, hb] at hb'
    cases hb'

/-- The learn window closes: its target becomes EMPTY, or bound to an ID that no position and no candidate has. -/
theorem State.BoundLaws.closeWindow {w : LearnWindow} {r : PositionRecord} {l : List Candidate} (hs : s.BoundLaws)
    (hw : s.intake.window = some w) (hr : r.bound.isSome = r.state.isBound) (hn : r.state ≠ .learning)
    (hl : ∀ c ∈ l, c ∈ s.intake.candidates)
    (hq : ∀ b, r.bound = some b → ∀ q, (s.position q).bound.map Binding.id ≠ some b.id)
    (hc : ∀ b, r.bound = some b → ∀ c ∈ l, c.bound.id ≠ b.id) :
    s.RecordChange ((s.setIntake { s.intake with window := none, candidates := l }).setPosition w.target r) w.target := by
  refine ⟨fun q hq => ?_, ?_, fun q => ?_, fun c h => ⟨c, hl c h, rfl⟩, fun b hb q _ => ?_, fun b hb => ?_⟩
  · rw [State.setPosition_position, if_neg hq]; rfl
  · rw [State.setPosition_position_self]; exact hr
  · rw [State.setPosition_position]
    refine iff_of_false ?_ (by simp)
    split
    · exact hn
    · rename_i hne
      exact fun h => by
        obtain ⟨w', hw', rfl⟩ := State.window_of_learning hs.learn h
        rw [hw] at hw'; cases hw'; exact hne rfl
  · rw [State.setPosition_position_self] at hb; exact hq b hb q
  · rw [State.setPosition_position_self] at hb; exact hc b hb

theorem State.BoundLaws.cancelWindow (hs : s.BoundLaws) : s.cancelWindow.BoundLaws := by
  cases h : s.intake.window with
  | none => rw [State.cancelWindow_none h]; exact hs
  | some w =>
    rw [State.cancelWindow_some h]
    refine State.BoundLaws.of_view (State.setNotices_view _ _) ?_
    refine (hs.closeWindow (r := (s.position w.target).emptied) (l := s.intake.candidates) h rfl (by simp [PositionRecord.emptied])
      (fun _ hc => hc) ?_ ?_).boundLaws hs <;>
    · intro b hb; cases hb

theorem State.positionExists_eq (hl : t.loads = s.loads) (q : Position) : t.positionExists q = s.positionExists q := by
  simp [State.positionExists, hl]

theorem State.cancelWindow_frame : s.cancelWindow = ((s.setTyres s.cancelWindow.tyres).setIntake
    s.cancelWindow.intake).setNotices s.cancelWindow.port.notices := by
  cases h : s.intake.window with
  | none => rw [State.cancelWindow_none h]; rfl
  | some w => rw [State.cancelWindow_some h]; rfl

theorem State.cancelWindow_loads : s.cancelWindow.loads = s.loads := by rw [State.cancelWindow_frame]; rfl
theorem State.cancelWindow_store : s.cancelWindow.store = s.store := by rw [State.cancelWindow_frame]; rfl

theorem State.TableLaws.cancelWindow (hs : s.TableLaws) : s.cancelWindow.TableLaws := by
  obtain ⟨h1, h2, h3⟩ := hs.bound.cancelWindow
  refine ⟨h1, h2, fun q hq => ?_, h3, fun x hx => hs.image x (by rwa [State.cancelWindow_store] at hx),
    fun x hx => hs.snapshot x (by rwa [State.cancelWindow_store] at hx)⟩
  rw [State.positionExists_eq State.cancelWindow_loads] at hq
  have he := hs.exist q hq
  rw [State.cancelWindow_position hs.learn, if_neg (by rw [he]; simp)]
  exact he

theorem State.TableLaws.expireWindow {w : LearnWindow} (hs : s.TableLaws) (h : s.intake.window = some w) :
    (s.expireWindow w).TableLaws := by
  have hr := hs.bound.closeWindow (r := (s.position w.target).emptied) (l := s.intake.candidates) h rfl (by simp [PositionRecord.emptied])
    (fun _ hc => hc) (fun b hb => by cases hb) (fun b hb => by cases hb)
  refine State.TableLaws.of_view _ _ (State.setNotices_view _ _) (hr.tableLaws hs rfl (fun _ => rfl) fun _ => ?_)
  rw [State.setPosition_position_self]; rfl

/-- R40, R47, R153: the candidate list is emptied. -/
theorem State.TableLaws.setCandidates {l : List Candidate} (hs : s.TableLaws)
    (hl : ∀ c ∈ l, ∀ p, (s.position p).bound.map Binding.id ≠ some c.bound.id) : (s.setCandidates l).TableLaws := by
  refine ⟨hs.binding, hs.learn, hs.exist, ⟨hs.id.1, fun p b c hp hc he => ?_⟩, hs.image, hs.snapshot⟩
  refine hl c hc p ?_
  rw [show (s.position p).bound = some b from hp, he]; rfl

theorem State.idLaw.apart_of_mem (hs : s.idLaw) {c : Candidate} (hc : c ∈ s.intake.candidates) (p : Position) :
    (s.position p).bound.map Binding.id ≠ some c.bound.id := by
  intro h
  cases hb : (s.position p).bound with
  | none => rw [hb] at h; cases h
  | some b =>
    rw [hb] at h
    simp only [Option.map_some, Option.some.injEq] at h
    exact hs.2 p b c hb hc h.symm

/-! ### Retiring -/

theorem State.BoundLaws.retirePosition (hs : s.BoundLaws) (p : Position) : (s.retirePosition p).BoundLaws := by
  rcases (s.position p).state.cases_bound with h | h | h
  · rw [State.retirePosition_empty h]; exact hs
  · rw [State.retirePosition_learning h]; exact hs.cancelWindow
  · rw [State.retirePosition_bound h]
    have hl : (s.position p).state ≠ .learning := fun hc => by rw [hc] at h; cases h
    refine State.BoundLaws.of_view (s := s.setPosition p (s.position p).emptied) ?_ ?_
    · simp [State.clearBound]
    · exact (hs.emptyRecord hl rfl rfl).boundLaws hs

theorem State.TableLaws.retirePosition (hs : s.TableLaws) (p : Position) : (s.retirePosition p).TableLaws := by
  rcases (s.position p).state.cases_bound with h | h | h
  · rw [State.retirePosition_empty h]; exact hs
  · rw [State.retirePosition_learning h]; exact hs.cancelWindow
  · rw [State.retirePosition_bound h]
    have hl : (s.position p).state ≠ .learning := fun hc => by rw [hc] at h; cases h
    refine State.TableLaws.of_view (s.setPosition p (s.position p).emptied) _ ?_ ?_
    · simp [State.clearBound]
    · refine (hs.bound.emptyRecord hl rfl rfl).tableLaws hs rfl (fun _ => rfl) fun _ => ?_
      rw [State.setPosition_position_self]; rfl

end

end Sys2Proof.Machine
end

section
/-! SUPPORT. What a new layout, a reload and a power-on make of the wheel position table (R7, R25, R65, R171, R172). -/
namespace Sys2Proof.Machine

/-! ### Operations on every axle and on every position -/

section
variable {s : State}

/-- One update of every axle record changes the axle records alone. -/
theorem State.foldl_setAxle_frame (f : State → AxleId → AxleRecord) (l : List AxleId) :
    ∃ axles, l.foldl (fun t a => t.setAxle a (f t a)) s = s.setLoads { s.loads with axles := axles } := by
  induction l generalizing s with
  | nil => exact ⟨s.loads.axles, rfl⟩
  | cons a l ih =>
    obtain ⟨axles, h⟩ := ih (s := s.setAxle a (f s a))
    exact ⟨axles, h⟩

theorem State.foldl_setAxle_axle (f : AxleId → AxleRecord → AxleRecord) (a : AxleId) :
    (AxleId.list.foldl (fun t a => t.setAxle a (f a (t.axle a))) s).axle a = f a (s.axle a) := by
  cases a <;> rfl

theorem Position.list_nodup : Position.list.Nodup := by decide

section
variable {ι β : Type} {P : State → Prop} {f : State → ι → State} {read : State → ι → β}
  (hf : ∀ t p q, P t → q ≠ p → read (f t p) q = read t q) (hP : ∀ t p, P t → P (f t p))
include hf hP

/-- A fold whose step reaches its own record alone leaves a record that it does not come to. -/
theorem foldl_read_of_not_mem {l : List ι} {q : ι} (h : q ∉ l) {s : State} (hs : P s) :
    read (l.foldl f s) q = read s q := by
  induction l generalizing s with
  | nil => rfl
  | cons p l ih =>
    rw [List.mem_cons, not_or] at h
    exact (ih h.2 (hP s p hs)).trans (hf s p q hs h.1)

/-- A fold whose step reaches its own record alone makes of each record what its step makes of it. -/
theorem foldl_read [DecidableEq ι] {l : List ι} (hl : l.Nodup) {q : ι} (h : q ∈ l) {s : State} (hs : P s) :
    ∃ u, P u ∧ read u q = read s q ∧ read (l.foldl f s) q = read (f u q) q := by
  induction l generalizing s with
  | nil => cases h
  | cons p l ih =>
    obtain ⟨hp, hl⟩ := List.nodup_cons.1 hl
    by_cases hq : q = p
    · subst hq
      exact ⟨s, hs, rfl, foldl_read_of_not_mem hf hP hp (hP s q hs)⟩
    · obtain ⟨u, hu, h1, h2⟩ := ih hl (List.mem_of_ne_of_mem hq h) (hP s p hs)
      exact ⟨u, hu, h1.trans (hf s p q hs hq), h2⟩

end

/-! ### Retiring by a new layout -/

/-- R25: one position under a new layout. -/
def State.retireStep (old : PerAxle AxleRecord) (t : State) (p : Position) : State :=
  if layoutHas old p && !t.positionExists p then
    if (t.position p).state = .empty then t else (t.retirePosition p).notePositionRetired p
  else t

theorem State.retireByLayout_eq (old : PerAxle AxleRecord) :
    s.retireByLayout old = Position.list.foldl (State.retireStep old) s := rfl

theorem State.clearBound_loads (p : Position) : (s.clearBound p).loads = s.loads := by
  obtain ⟨pairs, m, h⟩ := comparePairOf_frame ((s.setPosition p (s.position p).emptied).noteLevels p (s.position p)) p
  unfold State.clearBound
  dsimp only
  rw [h]
  unfold State.noteLevels; split <;> rfl

theorem State.retirePosition_loads (p : Position) : (s.retirePosition p).loads = s.loads := by
  rcases (s.position p).state.cases_bound with h | h | h
  · rw [State.retirePosition_empty h]
  · rw [State.retirePosition_learning h, State.cancelWindow_loads]
  · rw [State.retirePosition_bound h, State.clearBound_loads]

theorem State.retireStep_loads (old : PerAxle AxleRecord) (p : Position) :
    (s.retireStep old p).loads = s.loads := by
  unfold State.retireStep
  split
  · split
    · rfl
    · exact State.retirePosition_loads p
  · rfl

theorem State.retireStep_boundLaws (old : PerAxle AxleRecord) (p : Position) (hs : s.BoundLaws) :
    (s.retireStep old p).BoundLaws := by
  unfold State.retireStep
  split
  · split
    · exact hs
    · exact State.BoundLaws.of_view (State.setNotices_view _ _) (hs.retirePosition p)
  · exact hs

/-- R25: the positions that a layout takes out of existence. -/
def State.retires (s : State) (old : PerAxle AxleRecord) (p : Position) : Prop :=
  layoutHas old p = true ∧ s.positionExists p = false ∧ (s.position p).state ≠ .empty

theorem State.retireStep_of_retires {old : PerAxle AxleRecord} {p : Position} (h : s.retires old p) :
    s.retireStep old p = (s.retirePosition p).notePositionRetired p := by
  obtain ⟨h1, h2, h3⟩ := h
  simp [State.retireStep, h1, h2, h3]

theorem State.retireStep_of_not_retires {old : PerAxle AxleRecord} {p : Position} (h : ¬s.retires old p) :
    s.retireStep old p = s := by
  unfold State.retireStep
  split
  · rename_i h1
    simp only [Bool.and_eq_true, Bool.not_eq_true'] at h1
    rw [if_pos]
    by_contra h3
    exact h ⟨h1.1, h1.2, h3⟩
  · rfl

open Classical in
theorem State.retireStep_position (old : PerAxle AxleRecord) (p q : Position) (hs : s.learnLaw) :
    (s.retireStep old p).position q =
      if q = p ∧ s.retires old p then (s.position p).emptied else s.position q := by
  by_cases h : s.retires old p
  · rw [State.retireStep_of_retires h, State.notePositionRetired_eq, State.setNotices_position,
      State.retirePosition_position hs]
    simp [h, h.2.2]
  · rw [State.retireStep_of_not_retires h, if_neg fun hc => h hc.2]

theorem State.retireByLayout_loads (old : PerAxle AxleRecord) : (s.retireByLayout old).loads = s.loads :=
  State.foldl_keeps (P := fun t => t.loads = s.loads) (fun t p h => (t.retireStep_loads old p).trans h) _ rfl

theorem State.retireByLayout_boundLaws (old : PerAxle AxleRecord) (hs : s.BoundLaws) :
    (s.retireByLayout old).BoundLaws :=
  State.foldl_keeps (P := State.BoundLaws) (fun t p h => t.retireStep_boundLaws old p h) _ hs

open Classical in
/-- R24, R25: a retired position is EMPTY with its setpoints kept; no other record changes. -/
theorem State.retireByLayout_position (old : PerAxle AxleRecord) (hs : s.BoundLaws) (q : Position) :
    (s.retireByLayout old).position q = if s.retires old q then (s.position q).emptied else s.position q := by
  obtain ⟨u, ⟨hu, hl⟩, h1, h2⟩ := foldl_read (P := fun t => t.BoundLaws ∧ t.loads = s.loads)
    (read := State.position)
    (f := State.retireStep old)
    (fun t p q ht hq => by rw [State.retireStep_position old p q ht.1.learn, if_neg fun hc => hq hc.1])
    (fun t p ht => ⟨t.retireStep_boundLaws old p ht.1, (t.retireStep_loads old p).trans ht.2⟩)
    Position.list_nodup q.mem_list ⟨hs, rfl⟩
  have hr : u.retires old q ↔ s.retires old q := by
    simp only [State.retires, h1, State.positionExists_eq hl]
  rw [State.retireByLayout_eq, h2, State.retireStep_position old q q hu.learn]
  simp [hr, h1]

/-! ### A new layout -/

theorem State.deriveAllPairs_view (old : PerAxle AxleRecord) : (s.deriveAllPairs old).view = s.view := by
  refine State.foldl_view (fun t a => ?_) _ s
  unfold State.derivePairs
  split
  · split
    · rfl
    · simp
  · rfl

theorem State.followLayout_view (old : PerAxle AxleRecord) :
    (s.followLayout old).view = (s.retireByLayout old).view :=
  (State.foldl_view (fun t g => t.regroup_view old g) _ _).trans (State.deriveAllPairs_view old)

/-- R25, R65: a table that keeps the laws keeps them under a layout that replaces the one before. -/
theorem State.TableLaws.followLayout {t : State} (hs : s.TableLaws)
    (hr : ∀ q, (t.position q).view = (s.position q).view) (hi : t.intake = s.intake) (hst : t.store = s.store) :
    (t.followLayout s.loads.axles).TableLaws := by
  refine State.TableLaws.of_view _ _ (State.followLayout_view _) ?_
  have hb : ∀ q, (t.position q).bound = (s.position q).bound := fun q => congrArg RecordView.bound (hr q)
  have he : ∀ q, (t.position q).state = (s.position q).state := fun q => congrArg RecordView.state (hr q)
  have ht : t.BoundLaws :=
    ⟨fun q => by rw [hb, he]; exact hs.binding q, fun q => by rw [he, hi]; exact hs.learn q,
      fun p q b hp hq => by rw [hb] at hp hq; exact hs.id.1 p q b hp hq,
      fun p b c hp hc => by rw [hb] at hp; rw [hi] at hc; exact hs.id.2 p b c hp hc⟩
  have hst' : (t.retireByLayout s.loads.axles).store = s.store :=
    (State.store_of_setup (t.retireByLayout_setup _)).trans hst
  obtain ⟨h1, h2, h3⟩ := State.retireByLayout_boundLaws s.loads.axles ht
  refine ⟨h1, h2, fun q hq => ?_, h3, fun x hx => hs.image x (by rwa [hst'] at hx),
    fun x hx => hs.snapshot x (by rwa [hst'] at hx)⟩
  rw [State.positionExists_eq (State.retireByLayout_loads _)] at hq
  rw [State.retireByLayout_position _ ht]
  split
  · rfl
  · rename_i hn
    by_contra hne
    refine hn ⟨?_, hq, hne⟩
    rw [he] at hne
    cases ho : s.positionExists q with
    | true => exact ho
    | false => exact absurd (hs.exist q ho) hne

/-- R65 step 1: the layout, the modes, C and N of a request in the records, before anything follows them. -/
def State.laid (s : State) (x : PerAxle StoredAxle) (c n : Nat) : State :=
  let t := AxleId.list.foldl (fun t a => t.setAxle a ((t.axle a).relaid { x.get a with mode := notHeldUp (x.get a).mode })) s
  t.setSettings { t.settings with circumference := c, teeth := n }

theorem State.writeLayout_eq (x : PerAxle StoredAxle) (c n : Nat) :
    s.writeLayout x c n = (s.laid x c n).followLayout s.loads.axles := rfl

theorem State.laid_frame (x : PerAxle StoredAxle) (c n : Nat) : ∃ axles, s.laid x c n =
    (s.setLoads { s.loads with axles := axles }).setSettings { s.settings with circumference := c, teeth := n } := by
  obtain ⟨axles, h⟩ := State.foldl_setAxle_frame (s := s)
    (fun t a => (t.axle a).relaid { x.get a with mode := notHeldUp (x.get a).mode }) AxleId.list
  exact ⟨axles, by unfold State.laid; rw [h]; rfl⟩

@[simp] theorem State.laid_tyres (x : PerAxle StoredAxle) (c n : Nat) : (s.laid x c n).tyres = s.tyres := by
  obtain ⟨axles, h⟩ := s.laid_frame x c n
  rw [h]; rfl

@[simp] theorem State.laid_intake (x : PerAxle StoredAxle) (c n : Nat) : (s.laid x c n).intake = s.intake := by
  obtain ⟨axles, h⟩ := s.laid_frame x c n
  rw [h]; rfl

@[simp] theorem State.laid_store (x : PerAxle StoredAxle) (c n : Nat) : (s.laid x c n).store = s.store := by
  obtain ⟨axles, h⟩ := s.laid_frame x c n
  rw [h]; rfl

@[simp] theorem State.laid_port (x : PerAxle StoredAxle) (c n : Nat) : (s.laid x c n).port = s.port := by
  obtain ⟨axles, h⟩ := s.laid_frame x c n
  rw [h]; rfl

@[simp] theorem State.laid_groups (x : PerAxle StoredAxle) (c n : Nat) : (s.laid x c n).loads.groups = s.loads.groups := by
  obtain ⟨axles, h⟩ := s.laid_frame x c n
  rw [h]; rfl

@[simp] theorem State.laid_position (x : PerAxle StoredAxle) (c n : Nat) (q : Position) :
    (s.laid x c n).position q = s.position q := by simp [State.position]

@[simp] theorem State.laid_settings (x : PerAxle StoredAxle) (c n : Nat) :
    (s.laid x c n).settings = { s.settings with circumference := c, teeth := n } := by
  obtain ⟨axles, h⟩ := s.laid_frame x c n
  rw [h]; rfl

theorem State.laid_axle (x : PerAxle StoredAxle) (c n : Nat) (a : AxleId) :
    (s.laid x c n).axle a = (s.axle a).relaid { x.get a with mode := notHeldUp (x.get a).mode } :=
  State.foldl_setAxle_axle (fun a r => r.relaid { x.get a with mode := notHeldUp (x.get a).mode }) a

theorem State.TableLaws.writeLayout (hs : s.TableLaws) (x : PerAxle StoredAxle) (c n : Nat) :
    (s.writeLayout x c n).TableLaws := by
  rw [State.writeLayout_eq]
  exact State.TableLaws.followLayout hs (fun q => by rw [State.laid_position]) (s.laid_intake x c n)
    (s.laid_store x c n)

theorem State.governReloaded_intake (a : AxleId) : (s.governReloaded a).intake = s.intake := by
  unfold State.governReloaded
  dsimp only
  split
  · rfl
  · exact (LoadChange.lowerAxle s a).settles.offers.intake
  · split <;> rfl

theorem State.reloadLifts_intake (old : PerAxle AxleRecord) : (s.reloadLifts old).intake = s.intake :=
  State.foldl_keeps (P := fun t => t.intake = s.intake)
    (f := fun t a => (t.setLift a (reloadedLift (old.get a) (t.axle a).layout)).governReloaded a)
    (fun t a h => State.governReloaded_intake a |>.trans ((LoadChange.setLift t a _).settles.offers.intake.trans h)) _ rfl

/-- R171 step 2: the layout, the modes, C and N of an image in the records, before anything follows them. -/
def State.relaid (s : State) (x : Image) : State :=
  let t := AxleId.list.foldl (fun t a => t.setAxle a ((t.axle a).relaid (x.axles.get a))) s
  t.setSettings { t.settings with circumference := x.settings.circumference, teeth := x.settings.teeth }

theorem State.reloadLayout_eq (x : Image) :
    s.reloadLayout x = ((s.relaid x).reloadLifts s.loads.axles).followLayout s.loads.axles := rfl

theorem State.relaid_frame (x : Image) : ∃ axles, s.relaid x = (s.setLoads { s.loads with axles := axles }).setSettings
    { s.settings with circumference := x.settings.circumference, teeth := x.settings.teeth } := by
  obtain ⟨axles, h⟩ := State.foldl_setAxle_frame (s := s) (fun t a => (t.axle a).relaid (x.axles.get a)) AxleId.list
  exact ⟨axles, by unfold State.relaid; rw [h]; rfl⟩

@[simp] theorem State.relaid_tyres (x : Image) : (s.relaid x).tyres = s.tyres := by
  obtain ⟨axles, h⟩ := s.relaid_frame x
  rw [h]; rfl

@[simp] theorem State.relaid_intake (x : Image) : (s.relaid x).intake = s.intake := by
  obtain ⟨axles, h⟩ := s.relaid_frame x
  rw [h]; rfl

@[simp] theorem State.relaid_store (x : Image) : (s.relaid x).store = s.store := by
  obtain ⟨axles, h⟩ := s.relaid_frame x
  rw [h]; rfl

@[simp] theorem State.relaid_position (x : Image) (q : Position) : (s.relaid x).position q = s.position q := by
  simp [State.position]

theorem State.relaid_axle (x : Image) (a : AxleId) : (s.relaid x).axle a = (s.axle a).relaid (x.axles.get a) :=
  State.foldl_setAxle_axle (fun a r => r.relaid (x.axles.get a)) a

theorem State.reloadLayout_tableLaws (hs : s.TableLaws) (x : Image) : (s.reloadLayout x).TableLaws := by
  have hv := State.reloadLifts_view (s.relaid x) s.loads.axles
  rw [State.reloadLayout_eq]
  refine State.TableLaws.followLayout hs (fun q => ?_) ?_ ?_
  · rw [State.record_of_view hv, State.relaid_position]
  · rw [State.reloadLifts_intake, State.relaid_intake]
  · rw [State.store_of_view hv, State.relaid_store]

/-! ### The records of an image -/

/-- R65, R171: the axles under a reload of an image have its layout. -/
theorem State.reloadLayout_layout (x : Image) (a : AxleId) :
    ((s.reloadLayout x).axle a).layout = (x.axles.get a).layout := by
  rw [State.reloadLayout_eq, State.layout_of_setup (State.followLayout_setup _ _),
    State.layout_of_view (State.reloadLifts_view _ _), State.relaid_axle]
  rfl

theorem State.positionExists_of_layout {x : Image} (h : ∀ a, (s.axle a).layout = (x.axles.get a).layout) (p : Position) :
    s.positionExists p = x.hasPosition p := by
  simp only [State.axle] at h
  cases p <;> simp [State.positionExists, layoutHas, Image.hasPosition, h]

theorem State.reloadPosition_loads (p : Position) (x : StoredPosition) : (s.reloadPosition p x).loads = s.loads := by
  unfold State.reloadPosition
  dsimp only
  split
  · split
    · unfold State.noteLevels; split <;> rfl
    · split
      · exact State.clearBound_loads p
      · rfl
  · rfl

theorem State.reloadPosition_intake (p : Position) (x : StoredPosition) : (s.reloadPosition p x).intake = s.intake := by
  unfold State.reloadPosition
  dsimp only
  split
  · split
    · simp
    · split
      · exact State.clearBound_intake p
      · rfl
  · rfl

theorem State.reloadPosition_position_ne {p q : Position} (h : q ≠ p) (x : StoredPosition) :
    (s.reloadPosition p x).position q = s.position q := by
  unfold State.reloadPosition
  dsimp only
  split
  · split
    · simp [State.setPosition_position, h]
    · split
      · rw [State.clearBound_position, if_neg h, State.setPosition_position, if_neg h]
      · rw [State.setPosition_position, if_neg h]
  · rw [State.setPosition_position, if_neg h]

/-- R171 step 4: a record that is not LEARNING becomes what the image holds of it. -/
theorem State.reloadPosition_view {p : Position} {x : StoredPosition}
    (hb : (s.position p).bound.isSome = (s.position p).state.isBound) (hl : (s.position p).state ≠ .learning)
    (he : s.positionExists p = false → (s.position p).state = .empty)
    (hx : x.bound.isSome = true → s.positionExists p = true) :
    ((s.reloadPosition p x).position p).view = (PositionRecord.ofStored x).view := by
  have hempty : (s.position p).state.isBound = false → (s.position p).state = .empty ∧ (s.position p).bound = none := by
    intro h
    rcases (s.position p).state.cases_bound with h' | h' | h'
    · exact ⟨h', by rw [h] at hb; simpa using hb⟩
    · exact absurd h' hl
    · rw [h] at h'; cases h'
  have hex : (s.setPosition p { s.position p with pl := x.pl, pe := x.pe }).positionExists p = s.positionExists p := rfl
  unfold State.reloadPosition PositionRecord.ofStored
  dsimp only
  rw [hex]
  cases hxb : x.bound with
  | some b =>
    rw [if_pos (hx (by rw [hxb]; rfl))]
    simp [PositionRecord.view, PositionRecord.awaitingFor, PositionRecord.cleared, PositionRecord.unbound]
  | none =>
    by_cases h : (s.position p).state.isBound = true
    · rw [if_pos, if_pos h]
      · rw [State.clearBound_position, if_pos rfl, State.setPosition_position_self]
        rfl
      · by_contra hne
        rw [he (by simpa using hne)] at h; cases h
    · obtain ⟨h1, h2⟩ := hempty (by simpa using h)
      rw [if_neg h]
      simp [PositionRecord.view, PositionRecord.unbound, h1, h2]

/-- What a reload finds once the image's layout and parameters are in force: the laws, and no open window. -/
structure State.Reloadable (s : State) (x : Image) : Prop where
  laws : s.TableLaws
  window : s.intake.window = none
  layout : ∀ a, (s.axle a).layout = (x.axles.get a).layout

theorem State.reloadPositions_loads (x : Image) : (s.reloadPositions x).loads = s.loads :=
  State.foldl_keeps (P := fun t => t.loads = s.loads) (f := fun t p => t.reloadPosition p (x.positions.get p))
    (fun t p h => (t.reloadPosition_loads p _).trans h) _ rfl

theorem State.reloadPositions_intake (x : Image) : (s.reloadPositions x).intake = s.intake :=
  State.foldl_keeps (P := fun t => t.intake = s.intake) (f := fun t p => t.reloadPosition p (x.positions.get p))
    (fun t p h => (t.reloadPosition_intake p _).trans h) _ rfl

theorem State.Reloadable.view {x : Image} (hs : s.Reloadable x) (hx : x.tableLaw) (q : Position) :
    ((s.reloadPositions x).position q).view = (PositionRecord.ofStored (x.positions.get q)).view := by
  obtain ⟨u, hu, h1, h2⟩ := foldl_read (P := fun t => t.loads = s.loads) (read := State.position)
    (f := fun t p => t.reloadPosition p (x.positions.get p))
    (fun t p q _ hq => t.reloadPosition_position_ne hq _) (fun t p ht => (t.reloadPosition_loads p _).trans ht)
    Position.list_nodup q.mem_list rfl
  have hex : u.positionExists q = s.positionExists q := State.positionExists_eq hu q
  unfold State.reloadPositions
  rw [h2]
  refine State.reloadPosition_view ?_ ?_ ?_ ?_
  · rw [h1]; exact hs.laws.binding q
  · rw [h1]
    intro hc
    obtain ⟨w, hw, -⟩ := State.window_of_learning hs.laws.learn hc
    rw [hs.window] at hw; cases hw
  · rw [h1, hex]; exact hs.laws.exist q
  · intro hb
    rw [hex, State.positionExists_of_layout hs.layout]
    exact hx.1 q hb

/-- R6, R7: a table with the records of an image keeps the laws, once the list holds none of its IDs. -/
theorem State.tableLaws_of_image {x : Image} (hx : x.tableLaw) (hl : ∀ a, (s.axle a).layout = (x.axles.get a).layout)
    (hr : ∀ q, (s.position q).view = (PositionRecord.ofStored (x.positions.get q)).view) (hw : s.intake.window = none)
    (hc : ∀ c ∈ s.intake.candidates, s.boundPosition c.bound.id = none)
    (hi : ∀ i, s.store.image = some i → i.contents.tableLaw) (hsn : ∀ i, s.store.saving = some i → i.snapshot.tableLaw) :
    s.TableLaws := by
  have hstate : ∀ q, (s.position q).state = if (x.positions.get q).bound.isSome then .awaiting else .empty := fun q => by
    refine (congrArg RecordView.state (hr q)).trans ?_
    unfold PositionRecord.ofStored
    cases h : (x.positions.get q).bound <;> rfl
  have hbound : ∀ q, (s.position q).bound = (x.positions.get q).bound := fun q => by
    refine (congrArg RecordView.bound (hr q)).trans ?_
    unfold PositionRecord.ofStored
    cases h : (x.positions.get q).bound <;> rfl
  refine ⟨fun q => ?_, fun q => ?_, fun q hq => ?_, ⟨fun p q b hp hq => ?_, fun p b c hp hcm he => ?_⟩, hi, hsn⟩
  · rw [hbound, hstate]
    cases (x.positions.get q).bound <;> rfl
  · rw [hstate, hw]
    refine iff_of_false ?_ (by simp)
    split <;> simp
  · rw [hstate, if_neg]
    intro hb
    rw [State.positionExists_of_layout hl, hx.1 q hb] at hq
    cases hq
  · rw [hbound] at hp hq
    exact hx.2 p q b hp hq
  · refine State.boundPosition_none.1 (hc c hcm) p ?_
    rw [hp, he]; rfl

theorem State.dropBound_candidates {c : Candidate} (h : c ∈ s.dropBound.intake.candidates) :
    s.dropBound.boundPosition c.bound.id = none := by
  have := (List.mem_filter.1 h).2
  exact Option.isNone_iff_eq_none.1 this

/-! ### Reloads and power-on -/

theorem State.retirePosition_window (p : Position) (h : s.intake.window = none) :
    (s.retirePosition p).intake.window = none := by
  rcases (s.position p).state.cases_bound with h' | h' | h'
  · rw [State.retirePosition_empty h', h]
  · rw [State.retirePosition_learning h', State.cancelWindow_window]
  · rw [State.retirePosition_bound h', State.clearBound_intake, h]

theorem State.retireByLayout_window (old : PerAxle AxleRecord) (h : s.intake.window = none) :
    (s.retireByLayout old).intake.window = none := by
  refine State.foldl_keeps (P := fun t => t.intake.window = none) (f := State.retireStep old) (fun t p ht => ?_) _ h
  unfold State.retireStep
  split
  · split
    · exact ht
    · exact State.retirePosition_window p ht
  · exact ht

theorem State.window_none_of_view {t : State} (h : t.view = s.view) (hs : s.intake.window = none) :
    t.intake.window = none := by
  have := State.target_of_view h
  rw [hs] at this
  simpa using this

theorem State.reloadLayout_window (x : Image) (h : s.intake.window = none) :
    (s.reloadLayout x).intake.window = none := by
  rw [State.reloadLayout_eq]
  refine State.window_none_of_view (State.followLayout_view _) (State.retireByLayout_window _ ?_)
  rw [State.reloadLifts_intake, State.relaid_intake, h]

/-- R171 steps 2 and 3: what the image's layout and parameters leave of a table without a window. -/
theorem State.reloadable_of_window {x : Image} (hs : s.TableLaws) (hw : s.intake.window = none) :
    ((s.reloadLayout x).reloadSettings x.settings).Reloadable x := by
  have hv := State.reloadSettings_view (s.reloadLayout x) x.settings
  refine ⟨State.TableLaws.of_view _ _ hv (State.reloadLayout_tableLaws hs x).setSettings,
    State.window_none_of_view hv (by rw [State.setSettings_intake, State.reloadLayout_window x hw]), fun a => ?_⟩
  rw [State.layout_of_view hv, State.setSettings_axle, State.reloadLayout_layout]

theorem State.reload_eq (x : Image) : s.reload x =
    ((((s.reloadLayout x).reloadSettings x.settings).reloadPositions x).dropBound).compareAllPairs := rfl

/-- R171: what a reload makes of each record. -/
theorem State.reload_record {x : Image} (hs : s.TableLaws) (hw : s.intake.window = none) (hx : x.tableLaw)
    (q : Position) : ((s.reload x).position q).view = (PositionRecord.ofStored (x.positions.get q)).view := by
  rw [State.reload_eq, State.record_of_view (State.compareAllPairs_view _)]
  exact (State.reloadable_of_window hs hw).view hx q

theorem State.reload_layout (x : Image) (a : AxleId) : ((s.reload x).axle a).layout = (x.axles.get a).layout := by
  have hl : ∀ u v : State, u.loads = v.loads → (u.axle a).layout = (v.axle a).layout := fun u v h => by
    simp [State.axle, h]
  rw [State.reload_eq, State.layout_of_view (State.compareAllPairs_view _)]
  refine (hl _ _ (State.reloadPositions_loads x)).trans ?_
  rw [State.layout_of_view (State.reloadSettings_view _ _), State.setSettings_axle, State.reloadLayout_layout]

theorem State.reload_window {x : Image} (hw : s.intake.window = none) : (s.reload x).intake.window = none := by
  rw [State.reload_eq]
  refine State.window_none_of_view (State.compareAllPairs_view _) ?_
  refine (congrArg Intake.window (State.reloadPositions_intake x)).trans ?_
  exact State.window_none_of_view (State.reloadSettings_view _ _)
    (by rw [State.setSettings_intake, State.reloadLayout_window x hw])

theorem State.TableLaws.reload {x : Image} (hs : s.TableLaws) (hw : s.intake.window = none) (hx : x.tableLaw) :
    (s.reload x).TableLaws := by
  have hst := s.reload_store x
  refine State.tableLaws_of_image hx (State.reload_layout x) (State.reload_record hs hw hx) (State.reload_window hw)
    (fun c hc => ?_) (fun i hi => hs.image i (by rwa [hst] at hi)) (fun i hi => hs.snapshot i (by rwa [hst] at hi))
  rw [State.reload_eq] at hc ⊢
  have hv := State.compareAllPairs_view (((s.reloadLayout x).reloadSettings x.settings).reloadPositions x).dropBound
  have hm := List.mem_map_of_mem (f := fun c : Candidate => c.bound.id) hc
  rw [State.candidates_of_view hv] at hm
  obtain ⟨d, hd, he⟩ := List.mem_map.1 hm
  rw [State.boundPosition_none]
  intro p
  rw [State.bound_of_view hv, ← he]
  exact State.boundPosition_none.1 (State.dropBound_candidates hd) p

theorem defaultImage_tableLaw : defaultImage.tableLaw := by
  have h : ∀ p, (defaultImage.positions.get p).bound = none := fun p => by
    cases p with
    | road a sl => cases a <;> cases sl <;> rfl
    | _ => rfl
  refine ⟨fun p hp => ?_, fun p q b hp => ?_⟩ <;> rw [h] at hp <;> cases hp

/-- R7, R172: a power-on. -/
theorem State.TableLaws.start (hs : s.TableLaws) (high : Bool) (wires : PerWheel Bool) :
    (s.start high wires).TableLaws := by
  have hx : s.store.startImage.tableLaw := by
    rcases s.store.startImage_cases with ⟨i, hi, h⟩ | h
    · rw [h]; exact hs.image i hi
    · rw [h]; exact defaultImage_tableLaw
  refine State.TableLaws.of_view _ _ (State.settle_view _) ?_
  refine State.tableLaws_of_image hx (fun a => ?_) (fun q => ?_) rfl (fun c hc => by cases hc) hs.image
    (fun i hi => by cases hi)
  · cases a <;> rfl
  · simp [State.started, State.position]

end

end Sys2Proof.Machine
end

section
/-! SUPPORT. Every command keeps the laws of the wheel position table (R3, R4, R6, R35). -/
namespace Sys2Proof.Machine

section
variable {s : State}

/-! ### The learn window -/

/-- R36: a window opens on an EMPTY position that exists. -/
theorem State.TableLaws.openWindow {q : Position} (hs : s.TableLaws) (hw : s.intake.window = none)
    (hq : s.positionExists q = true) (he : (s.position q).state = .empty) (n : Nat) :
    ((s.setPosition q (s.position q).targeted).setIntake { s.intake with
      window := some { target := q, openedAt := n, trigger := none } }).TableLaws := by
  have hn : ∀ p, (s.position p).state ≠ .learning := fun p hp => by
    obtain ⟨w, h, -⟩ := State.window_of_learning hs.learn hp
    rw [hw] at h; cases h
  refine State.RecordChange.tableLaws (s := s) (p := q) ⟨fun p hp => ?_, ?_, fun p => ?_, fun c hc => ⟨c, hc, rfl⟩, ?_, ?_⟩
    hs rfl (fun p => rfl) fun hp => ?_
  · rw [State.setIntake_position, State.setPosition_position, if_neg hp]
  · rw [State.setIntake_position, State.setPosition_position_self]; rfl
  · rw [State.setIntake_position, State.setPosition_position]
    by_cases hp : p = q
    · subst hp; rw [if_pos rfl]; exact iff_of_true rfl rfl
    · rw [if_neg hp]
      exact iff_of_false (hn p) (by simpa using Ne.symm hp)
  · intro b hb
    rw [State.setIntake_position, State.setPosition_position_self] at hb
    cases hb
  · intro b hb
    rw [State.setIntake_position, State.setPosition_position_self] at hb
    cases hb
  · rw [hq] at hp; cases hp

theorem State.TableLaws.beginLearn (hs : s.TableLaws) (p : Params) : (s.beginLearn p).1.TableLaws := by
  unfold State.beginLearn
  split; · exact hs
  split; · exact hs
  split; · exact hs
  split; · exact hs
  split; · exact hs
  rename_i hx hw he
  exact State.TableLaws.of_view _ _ (State.tell_view _ _)
    (hs.openWindow (by simpa using hw) (by simpa using hx) (by simpa using he) _)

theorem State.TableLaws.cancelLearn (hs : s.TableLaws) : s.cancelLearn.1.TableLaws := by
  unfold State.cancelLearn
  split
  · exact State.TableLaws.of_view _ _ (State.tell_view _ _) hs.cancelWindow
  · exact hs

/-- R38: a confirmation closes the window over its target's new record. -/
theorem State.confirm_view {w : LearnWindow} {x : Trigger} (h : s.boundPosition x.bound.id = none) :
    (s.confirm w x).view = ((s.setIntake { s.intake with
      window := none
      candidates := s.intake.candidates.filter fun c => decide (c.bound.id ≠ x.bound.id) }).setPosition w.target
        ((s.position w.target).learned x)).view := by
  unfold State.confirm
  rw [h]
  simp only [State.reportTelegram_view, State.evaluate_view, State.noteLearnResult_eq, State.setNotices_view]
  rfl

theorem State.TableLaws.confirm {w : LearnWindow} {x : Trigger} (hs : s.TableLaws) (hw : s.intake.window = some w) :
    (s.confirm w x).TableLaws := by
  cases h : s.boundPosition x.bound.id with
  | some q =>
    unfold State.confirm
    rw [h]
    exact State.TableLaws.of_view _ _ ((State.setNotices_view _ _).trans (State.setTrigger_view hw _)) hs
  | none =>
    refine State.TableLaws.of_view _ _ (State.confirm_view h) ?_
    have hb : ((s.position w.target).learned x).bound = some x.bound := rfl
    refine (hs.bound.closeWindow hw rfl (by simp [PositionRecord.learned]) (fun c hc => (List.mem_filter.1 hc).1)
      (fun b hb' q => ?_) fun b hb' c hc => ?_).tableLaws hs rfl (fun _ => rfl) fun hp => ?_
    · rw [hb] at hb'; cases hb'
      exact State.boundPosition_none.1 h q
    · rw [hb] at hb'; cases hb'
      simpa using (List.mem_filter.1 hc).2
    · have := hs.exist w.target hp
      rw [(hs.learn w.target).2 ⟨w, hw, rfl⟩] at this
      cases this

theorem State.TableLaws.confirmDue (hs : s.TableLaws) : s.confirmDue.TableLaws := by
  unfold State.confirmDue
  split
  · exact hs
  · split
    · exact hs
    · split
      · exact State.TableLaws.of_view _ _ (State.settle_view _) (hs.confirm ‹_›)
      · exact hs

theorem State.TableLaws.expireDue (hs : s.TableLaws) : s.expireDue.TableLaws := by
  unfold State.expireDue
  split
  · exact hs
  · split
    · exact hs.expireWindow ‹_›
    · exact hs

/-- An emptied list keeps the laws. -/
theorem State.TableLaws.noCandidates (hs : s.TableLaws) : (s.setCandidates []).TableLaws :=
  hs.setCandidates fun _ hc => by cases hc

theorem State.TableLaws.filterCandidates (hs : s.TableLaws) (f : Candidate → Bool) :
    (s.setCandidates (s.intake.candidates.filter f)).TableLaws :=
  hs.setCandidates fun _ hc => hs.id.apart_of_mem (List.mem_filter.1 hc).1


theorem State.TableLaws.enterWatch (hs : s.TableLaws) : s.enterWatch.TableLaws := by
  unfold State.enterWatch
  dsimp only
  refine State.TableLaws.of_view _ _ (State.setChannels_view _ _) ?_
  refine State.TableLaws.noCandidates (State.TableLaws.cancelWindow (State.TableLaws.of_view s _ ?_ hs))
  simp

/-! ### Telegrams -/

theorem PositionRecord.heard_isBound (r : PositionRecord) (t : Telegram) : (r.heard t).state.isBound = true := by
  unfold PositionRecord.heard
  dsimp only
  split <;> rfl

theorem State.noteDuplicate_view (t : Telegram) : (s.noteDuplicate t).view = s.view := by
  unfold State.noteDuplicate
  split
  · split
    · exact State.setNotices_view _ _
    · rfl
  · rfl

theorem State.isBound_of_boundPosition (hs : s.bindingLaw) {id : SensorId} {p : Position}
    (h : s.boundPosition id = some p) : (s.position p).state.isBound = true := by
  rw [← hs p]
  have := State.boundPosition_some h
  cases hb : (s.position p).bound with
  | none => rw [hb] at this; cases this
  | some b => rfl

theorem State.takeBound_view (p : Position) (t : Telegram) :
    (s.takeBound p t).view = (s.setPosition p ((s.position p).heard t)).view := by
  unfold State.takeBound
  rw [State.noteDuplicate_view, State.reportTelegram_view, State.evaluate_view]

theorem State.TableLaws.takeBound {p : Position} (hs : s.TableLaws) (h : (s.position p).state.isBound = true)
    (t : Telegram) : (s.takeBound p t).TableLaws :=
  State.TableLaws.of_view _ _ (State.takeBound_view p t) (hs.setBoundState h rfl (PositionRecord.heard_isBound _ _))

theorem State.TableLaws.takeTest (hs : s.TableLaws) (t : Telegram) : (s.takeTest t).TableLaws := by
  unfold State.takeTest
  split
  · split
    · refine State.TableLaws.of_view _ _ (State.reportTelegram_view _ _) (hs.setReadings rfl rfl)
    · exact hs
  · exact hs

theorem State.TableLaws.takeCandidate (hs : s.TableLaws) (kind : SensorKind) {t : Telegram}
    (h : s.boundPosition t.id = none) : (s.takeCandidate kind t).TableLaws := by
  refine State.TableLaws.of_view _ _ (State.takeCandidate_view kind t) (hs.setCandidates fun c hc p => ?_)
  rcases State.takeCandidate_ids kind t hc with he | hm
  · rw [he]; exact State.boundPosition_none.1 h p
  · exact hs.id.apart_of_mem hm p

theorem State.TableLaws.takeUnbound (hs : s.TableLaws) (kind : SensorKind) {t : Telegram}
    (h : s.boundPosition t.id = none) : (s.takeUnbound kind t).TableLaws := by
  unfold State.takeUnbound
  split
  · exact State.TableLaws.of_view _ _ (State.takeTrigger_view ‹_› _ _) hs
  all_goals
    split
    · exact hs
    · exact hs.takeCandidate kind h

theorem State.TableLaws.takeTelegram (hs : s.TableLaws) (t : Telegram) : (s.takeTelegram t).TableLaws := by
  unfold State.takeTelegram
  split
  · exact hs
  · exact hs.takeTest t
  · split
    · exact hs.takeBound (State.isBound_of_boundPosition hs.binding ‹_›) t
    · exact hs
  · split
    · exact hs.takeBound (State.isBound_of_boundPosition hs.binding ‹_›) t
    · exact hs.takeUnbound _ ‹_›

theorem State.TableLaws.telegramArrives (hs : s.TableLaws) : s.telegramArrives.TableLaws := by
  have hc : s.closeSequence.TableLaws := State.TableLaws.of_view s _ (State.setIntake_view rfl rfl) hs
  unfold State.telegramArrives
  split
  · split
    · exact State.TableLaws.of_view _ _ (State.settle_view _) (hc.takeTelegram _)
    · exact hc
  · exact hs

theorem State.fallSilent_view {q : Position} (h : (s.position q).silenceDue = true ∧
    ((s.position q).state = .live ∨ (s.position q).state = .awaiting)) : (s.fallSilent q).view =
      (s.setPosition q { s.position q with state := .silent, silenceDue := false }).view := by
  unfold State.fallSilent
  rw [if_pos h]
  simp

theorem State.TableLaws.fallSilent (hs : s.TableLaws) (q : Position) : (s.fallSilent q).TableLaws := by
  by_cases h : (s.position q).silenceDue = true ∧ ((s.position q).state = .live ∨ (s.position q).state = .awaiting)
  · refine State.TableLaws.of_view _ _ (State.fallSilent_view h) (hs.setBoundState ?_ rfl rfl)
    rcases h.2 with h | h <;> rw [h] <;> rfl
  · rw [State.fallSilent, if_neg h]; exact hs

/-! ### The requests that write, move, drop or adopt -/

theorem State.TableLaws.setSetpoints (hs : s.TableLaws) (p : Params) : (s.setSetpoints p).1.TableLaws := by
  refine State.withPosition_keeps hs fun q _ => ?_
  split
  · exact hs
  · exact State.TableLaws.of_view _ _ ((State.carry_view _ _).trans (State.evaluate_view _ _)) (hs.setReadings rfl rfl)

theorem State.TableLaws.setBatch (hs : s.TableLaws) (p : Params) : (s.setBatchSize p).1.TableLaws := by
  unfold State.setBatchSize; split
  · exact hs.setPort
  · exact hs

theorem State.TableLaws.writeSetpoints (hs : s.TableLaws) (p : Params) : (s.writeSetpoints p).1.TableLaws := by
  have hw : (s.writeValues (byteAt p 0) 1 (resolved 0 (sentValues p))).1.TableLaws :=
    State.writeValues_keeps State.TableLaws.of_view (fun u q v _ hu => hu.setReadings rfl rfl) _ _ _ hs
  unfold State.writeSetpoints
  split
  · exact hs
  · dsimp only
    split <;> exact State.TableLaws.of_view _ _ (State.settle_view _) hw

theorem State.TableLaws.retireSensor (hs : s.TableLaws) (p : Params) : (s.retireSensor p).1.TableLaws :=
  State.withPosition_keeps hs fun q _ => State.TableLaws.of_view _ _ (State.carry_view _ _) (hs.retirePosition q)

@[simp] theorem State.dropCandidate_position (id : SensorId) (q : Position) :
    (s.dropCandidate id).position q = s.position q := rfl

theorem PositionRecord.adopting_isBound (r : PositionRecord) (c : Candidate) : (r.adopting c).state.isBound = true := by
  unfold PositionRecord.adopting
  dsimp only
  split <;> rfl

/-- R26: a candidate's sensor at an EMPTY position that exists. -/
theorem State.TableLaws.adopt {q : Position} {c : Candidate} (hs : s.TableLaws) (hq : s.positionExists q = true)
    (he : (s.position q).state = .empty) (hc : c ∈ s.intake.candidates) :
    ((s.setPosition q ((s.position q).adopting c)).dropCandidate c.bound.id).TableLaws := by
  have hb : ((s.position q).adopting c).bound = some c.bound := rfl
  have hk := (s.position q).adopting_isBound c
  refine State.RecordChange.tableLaws (s := s) (p := q) ⟨fun p hp => ?_, ?_, fun p => ?_,
    fun d hd => ⟨d, (List.mem_filter.1 hd).1, rfl⟩, fun b hb' p _ => ?_, fun b hb' d hd => ?_⟩
    hs rfl (fun p => rfl) fun hp => ?_
  · rw [State.dropCandidate_position, State.setPosition_position, if_neg hp]
  · rw [State.dropCandidate_position, State.setPosition_position_self, hk, hb]; rfl
  · refine Iff.trans ?_ (State.learnLaw_iff.1 hs.learn p)
    rw [State.dropCandidate_position, State.setPosition_position]
    split
    · subst p
      exact iff_of_false (fun h => by rw [h] at hk; cases hk) (by rw [he]; simp)
    · rfl
  · rw [State.dropCandidate_position, State.setPosition_position_self, hb] at hb'
    cases hb'
    exact hs.id.apart_of_mem hc p
  · rw [State.dropCandidate_position, State.setPosition_position_self, hb] at hb'
    cases hb'
    simpa using (List.mem_filter.1 hd).2
  · rw [hq] at hp; cases hp

theorem State.TableLaws.adoptCandidate (hs : s.TableLaws) (p : Params) : (s.adoptCandidate p).1.TableLaws := by
  refine State.withPosition_keeps hs fun q hq => ?_
  split
  · exact hs
  · rename_i he
    split
    · exact hs
    · rename_i c hc
      exact State.TableLaws.of_view _ _ ((State.carry_view _ _).trans (State.evaluate_view _ _))
        (hs.adopt hq (by simpa using he) (List.mem_of_find?_eq_some hc))

/-! ### Swapping -/

/-- R22: two records exchange what they hold of their sensors. -/
def State.exchange (s : State) (a b : Position) : State :=
  (s.setPosition a ((s.position a).withSensorOf (s.position b))).setPosition b
    ((s.position b).withSensorOf (s.position a))

theorem State.judgeSwapped_view (p : Position) : (s.judgeSwapped p).view = s.view := by
  unfold State.judgeSwapped
  split <;> exact State.setPosition_view rfl

theorem State.swap_view (a b : Position) : (s.swap a b).view = (s.exchange a b).view := by
  unfold State.swap State.exchange
  simp only [State.comparePairOf_view, State.noteLevels_view, State.judgeSwapped_view]

theorem State.exchange_position {a b : Position} (hab : a ≠ b) (q : Position) :
    (s.exchange a b).position q = (s.position q).withSensorOf (s.position (Equiv.swap a b q)) := by
  unfold State.exchange
  rw [State.setPosition_position, State.setPosition_position]
  by_cases hb : q = b
  · subst hb; rw [if_pos rfl, Equiv.swap_apply_right]
  · by_cases ha : q = a
    · subst ha; rw [if_neg hb, if_pos rfl, Equiv.swap_apply_left]
    · rw [if_neg hb, if_neg ha, Equiv.swap_apply_of_ne_of_ne ha hb]; rfl

theorem State.TableLaws.exchange {a b : Position} (hs : s.TableLaws) (hab : a ≠ b) (ha : s.positionExists a = true)
    (hb : s.positionExists b = true) (hla : (s.position a).state ≠ .learning) (hlb : (s.position b).state ≠ .learning) :
    (s.exchange a b).TableLaws := by
  have hbound : ∀ q, ((s.exchange a b).position q).bound = (s.position (Equiv.swap a b q)).bound := fun q => by
    rw [State.exchange_position hab]; rfl
  have hstate : ∀ q, ((s.exchange a b).position q).state = (s.position (Equiv.swap a b q)).state := fun q => by
    rw [State.exchange_position hab]; rfl
  have hmove : ∀ {P : Position → Prop}, P a → P b → ∀ q, ¬P q → Equiv.swap a b q = q := fun pa pb q hq =>
    Equiv.swap_apply_of_ne_of_ne (fun h => hq (h ▸ pa)) fun h => hq (h ▸ pb)
  refine ⟨fun q => ?_, fun q => ?_, fun q hq => ?_, ⟨fun p q x hp hq => ?_, fun p x c hp hc => ?_⟩, hs.image, hs.snapshot⟩
  · rw [hbound, hstate]; exact hs.binding _
  · rw [hstate]
    refine Iff.trans ?_ (hs.learn q)
    by_cases hq : (s.position q).state = .learning
    · rw [hmove (P := fun q => (s.position q).state ≠ .learning) hla hlb q (fun h => h hq)]
    · refine iff_of_false (fun h => ?_) hq
      have := hmove (P := fun q => (s.position q).state ≠ .learning) hla hlb _ (fun hn => hn h)
      rw [Equiv.swap_apply_self] at this
      exact hq (this ▸ h)
  · replace hq : s.positionExists q = false := hq
    rw [hstate, hmove (P := fun q => s.positionExists q = true) ha hb q (by rw [hq]; simp)]
    exact hs.exist q hq
  · rw [hbound] at hp hq
    exact (Equiv.swap a b).injective (hs.id.1 _ _ x hp hq)
  · rw [hbound] at hp
    exact hs.id.2 _ x c hp hc

theorem State.TableLaws.swapPositions (hs : s.TableLaws) (p : Params) : (s.swapPositions p).1.TableLaws := by
  unfold State.swapPositions
  dsimp only
  split
  · exact hs
  · exact hs
  · split; · exact hs
    split; · exact hs
    split; · exact hs
    split; · exact hs
    split; · exact hs
    rename_i hab hxa hxb hla hlb
    exact State.TableLaws.of_view _ _ ((State.carry_view _ _).trans (State.swap_view _ _))
      (hs.exchange hab (by simpa using hxa) (by simpa using hxb) hla hlb)

/-! ### Layout, store, Restart -/

theorem State.TableLaws.writeAxleLayout (hs : s.TableLaws) (p : Params) : (s.writeAxleLayout p).1.TableLaws := by
  refine State.gated_keeps hs ?_
  split; · exact hs
  split; · exact hs
  split; · exact hs
  split; · exact hs
  exact State.TableLaws.of_view _ _ (State.carry_view _ _) (hs.writeLayout _ _ _)

/-- R169: a snapshot binds what the table binds. -/
theorem State.TableLaws.snapshot_tableLaw (hs : s.TableLaws) : s.snapshot.tableLaw := by
  have hb : ∀ p, (s.snapshot.positions.get p).bound = (s.position p).bound := fun p => by
    simp only [State.snapshot, PerPosition.get_map, PositionRecord.stored]
    change (if (s.position p).state.isBound = true then (s.position p).bound else none) = _
    split
    · rfl
    · rename_i h
      have := hs.binding p
      rw [Bool.eq_false_iff.2 h] at this
      exact (by simpa using this : (s.position p).bound = none).symm
  have hl : ∀ a, (s.axle a).layout = (s.snapshot.axles.get a).layout := fun a => by
    simp [State.snapshot, AxleRecord.stored, State.axle]
  refine ⟨fun p hp => ?_, fun p q b hp hq => ?_⟩
  · rw [hb, hs.binding] at hp
    rw [← State.positionExists_of_layout hl]
    exact State.exists_of_bound hs hp
  · rw [hb] at hp hq
    exact hs.id.1 p q b hp hq

theorem State.TableLaws.saveTables (hs : s.TableLaws) : s.saveTables.1.TableLaws := by
  unfold State.saveTables; split
  · exact hs
  · refine hs.setStore (fun i hi => by cases hi) (fun i hi => ?_)
    cases hi
    exact hs.snapshot_tableLaw

theorem State.TableLaws.endSave (hs : s.TableLaws) (b : Bool) : (s.endSave b).TableLaws := by
  unfold State.endSave
  split
  · exact hs
  · split
    · refine State.TableLaws.of_view _ _ (State.setNotices_view _ _) ?_
      refine hs.setStore (fun i hi => ?_) (fun i hi => by cases hi)
      cases b with
      | false => cases hi
      | true => cases hi; exact hs.snapshot _ ‹_›
    · exact hs

theorem State.TableLaws.loseSaving (hs : s.TableLaws) :
    ({ s.setStore { s.store with saving := none } with powered := false } : State).TableLaws :=
  ⟨hs.binding, hs.learn, hs.exist, hs.id, hs.image, fun _ hi => by cases hi⟩

theorem State.TableLaws.restoreTables (hs : s.TableLaws) : s.restoreTables.1.TableLaws := by
  refine State.gated_keeps hs ?_
  split
  · exact State.TableLaws.of_view _ _ (State.carry_view _ _)
      (hs.cancelWindow.reload State.cancelWindow_window (hs.image _ ‹_›))
  · exact hs

theorem State.restartLive_view (s : State) :
    s.restartLive.view = s.emptyTable.restartStability.restartWorkshop.restartIntake.view := by
  unfold State.restartLive
  simp [State.wakeIfWatching_view]

theorem State.TableLaws.restartIntake (hs : s.TableLaws) :
    s.restartIntake.TableLaws ∧ s.restartIntake.intake.window = none :=
  ⟨State.TableLaws.of_view (s.cancelWindow.setCandidates []) _ rfl hs.cancelWindow.noCandidates,
    State.cancelWindow_window⟩

/-- R173: a Restart leaves no open window. -/
theorem State.TableLaws.restartLive (hs : s.TableLaws) :
    s.restartLive.TableLaws ∧ s.restartLive.intake.window = none := by
  have he : s.emptyTable.restartStability.restartWorkshop.TableLaws := State.TableLaws.of_view s _
    (by simp [State.restartWorkshop, State.restartStability, State.emptyTable]) hs
  obtain ⟨h, hw⟩ := he.restartIntake
  exact ⟨State.TableLaws.of_view _ _ s.restartLive_view h, State.window_none_of_view s.restartLive_view hw⟩

theorem State.TableLaws.restartPolicy (hs : s.TableLaws) (hw : s.intake.window = none) : s.restartPolicy.TableLaws := by
  unfold State.restartPolicy
  split
  · exact hs
  · split
    · exact hs.reload hw (hs.image _ ‹_›)
    · exact State.TableLaws.of_view _ _ (State.setNotices_view _ _) hs

theorem State.TableLaws.restart (hs : s.TableLaws) : s.restart.TableLaws := by
  have hp : s.restartPort.TableLaws := hs.setPort
  obtain ⟨h, hw⟩ := hp.restartLive
  exact State.TableLaws.of_view _ _ s.restart_view
    (State.TableLaws.restartPolicy (State.TableLaws.of_view _ _ (State.setNotices_view _ _) h)
      (by rw [State.setNotices_intake, hw]))

end

/-! ### Every command -/

theorem State.TableLaws.exec {i : Instr} {s t : State} (hs : s.TableLaws) (h : exec i s = .next t) : t.TableLaws := by
  by_cases hi : changesView i = false
  · exact hs.of_view _ _ (exec_view hi h)
  by_cases hp : writesParameters i = true
  · obtain ⟨x, hx⟩ := exec_parametersWritten hp h
    exact State.TableLaws.of_view _ _ hx hs.setSettings
  have live : ∀ {dt : Nat} {f : State → State}, (∀ u : State, u.TableLaws → (f u).TableLaws) → (s.live dt f).TableLaws :=
    fun hf => State.live_keeps State.TableLaws.of_view hf hs
  have request : ∀ {dt code : Nat} {p : Params} {accepts : Nat → Bool} {own : State → State × Answer} {n : Named},
      (∀ u : State, u.TableLaws → (own u).1.TableLaws) →
      (s.live dt fun u => u.request code p accepts own n).TableLaws :=
    fun ho => live fun u hu => State.request_keeps State.TableLaws.of_view ho hu
  cases i <;> simp only [changesView, writesParameters, not_true_eq_false, Bool.true_eq_false] at hi hp <;> injection h <;>
    subst t
  case powerOn => exact State.TableLaws.start (State.TableLaws.of_view _ _ (s.elapse_view _) hs) _ _
  case restart =>
    refine live fun u hu => ?_
    split
    · exact State.TableLaws.restart (State.TableLaws.of_view _ _ u.clockOut_view hu)
    · exact State.request_keeps State.TableLaws.of_view (fun v hv => hv) hu
  case setBatchSize => exact request fun u hu => hu.setBatch _
  case setPositionSetpoints => exact request fun u hu => hu.setSetpoints _
  case writeSetpoints => exact request fun u hu => hu.writeSetpoints _
  case swapPositions => exact request fun u hu => hu.swapPositions _
  case retireSensor => exact request fun u hu => hu.retireSensor _
  case adoptCandidate => exact request fun u hu => hu.adoptCandidate _
  case beginLearn => exact request fun u hu => hu.beginLearn _
  case cancelLearn => exact request fun u hu => hu.cancelLearn
  case writeAxleLayout => exact request fun u hu => hu.writeAxleLayout _
  case saveTables => exact request fun u hu => hu.saveTables
  case restoreTables => exact request fun u hu => hu.restoreTables
  case saveEnd => exact live fun u hu => hu.endSave _
  case telegramArrival => exact live fun u hu => hu.telegramArrives
  case learnConfirmation => exact live fun u hu => hu.confirmDue
  case learnWindowExpiry => exact live fun u hu => hu.expireDue
  case sensorSilent => exact live fun u hu => hu.fallSilent _
  case candidateExpiry => exact live fun u hu => hu.filterCandidates _
  case runOnExpiry =>
    refine live fun u hu => ?_
    split
    · exact State.TableLaws.of_view _ _ (State.settle_view _) hu.enterWatch
    · exact hu
  case lossOfSupply => exact live fun u hu => hu.loseSaving

/-- Settles O10: the laws hang on the view of the table, and each command that changes it keeps them. -/
theorem tableStaysLawful : Obligations.TableStaysLawful := fun _ _ hs h =>
  step_keeps State.TableLaws.of_view (fun _ _ _ hs h => hs.exec h) hs h

end Sys2Proof.Machine
end

section
/-! SUPPORT. A sensor is bound, moved or dropped by the listed ways alone (R6). -/
namespace Sys2Proof.Machine

/-- From `s` to `t` no position's binding changes. -/
def State.BindingsKept (s t : State) : Prop := ∀ p, (t.position p).bound = (s.position p).bound

/-- What the rules below need of a table: R4 and R35. -/
structure State.BoundStates (s : State) : Prop where
  binding : s.bindingLaw
  learn : s.learnLaw

section
variable {s t u : State}

theorem State.BindingsKept.of_view (h : t.view = s.view) : s.BindingsKept t := State.bound_of_view h

theorem State.BindingsKept.trans (h : s.BindingsKept t) (k : t.BindingsKept u) : s.BindingsKept u :=
  fun p => (k p).trans (h p)

theorem State.BindingsKept.setPosition {q : Position} {r : PositionRecord} (h : r.bound = (s.position q).bound) :
    s.BindingsKept (s.setPosition q r) := fun p => by
  rw [State.setPosition_position]
  split
  · subst p; exact h
  · rfl

/-- One record is written without its binding. -/
theorem State.BindingsKept.of_record {q : Position} {r : PositionRecord} (h : t.view = (s.setPosition q r).view)
    (hr : r.bound = (s.position q).bound) : s.BindingsKept t :=
  (State.BindingsKept.setPosition hr).trans (.of_view h)

theorem State.BoundStates.of_view (h : t.view = s.view) (hs : s.BoundStates) : t.BoundStates :=
  ⟨State.bindingLaw_of_view h hs.binding, State.learnLaw_of_view h hs.learn⟩

theorem State.BoundStates.bound_none {p : Position} (hs : s.BoundStates) (h : (s.position p).state.isBound = false) :
    (s.position p).bound = none := by
  have := hs.binding p
  rw [h] at this
  simpa using this

/-- R35: the window's target holds no sensor. -/
theorem State.BoundStates.target_bound (hs : s.BoundStates) {w : LearnWindow} (h : s.intake.window = some w) :
    (s.position w.target).bound = none :=
  hs.bound_none (by rw [(hs.learn w.target).2 ⟨w, h, rfl⟩]; rfl)

theorem State.BoundStates.cancelWindow (hs : s.BoundStates) : s.BindingsKept s.cancelWindow := fun p => by
  rw [State.cancelWindow_position hs.learn]
  split
  · rename_i h
    exact (hs.bound_none (by rw [h]; rfl)).symm
  · rfl

theorem State.BoundStates.expireDue (hs : s.BoundStates) : s.BindingsKept s.expireDue := by
  unfold State.expireDue
  split
  · exact .of_view rfl
  · split
    · rename_i w hw _
      exact State.BindingsKept.setPosition (s := s.setIntake { s.intake with window := none })
        (q := w.target) (r := (s.position w.target).emptied) (hs.target_bound hw).symm
    · exact .of_view rfl

theorem State.BoundStates.enterWatch (hs : s.BoundStates) : s.BindingsKept s.enterWatch := by
  have hv : ((((s.setMode { s.mode with power := .watch, runOnSince := none }).workshopOff.stuIdle).forceLower).retireEntry
      .digital).view = s.view := by simp
  exact (State.BindingsKept.of_view hv).trans (hs.of_view hv).cancelWindow

theorem State.BoundStates.beginLearn (hs : s.BoundStates) (p : Params) : s.BindingsKept (s.beginLearn p).1 := by
  unfold State.beginLearn
  split; · exact .of_view rfl
  split; · exact .of_view rfl
  split; · exact .of_view rfl
  split; · exact .of_view rfl
  split; · exact .of_view rfl
  rename_i q _ _ _ _ he
  refine State.BindingsKept.setPosition (s := s) (q := q) (r := (s.position q).targeted) ?_
  refine (hs.bound_none ?_).symm
  rw [show (s.position q).state = .empty by simpa using he]; rfl

theorem State.BoundStates.cancelLearn (hs : s.BoundStates) : s.BindingsKept s.cancelLearn.1 := by
  unfold State.cancelLearn
  split
  · exact hs.cancelWindow
  · exact .of_view rfl

theorem State.takeTelegram_bindingsKept (s : State) (t : Telegram) : s.BindingsKept (s.takeTelegram t) := by
  have hb : ∀ p, s.BindingsKept (s.takeBound p t) := fun p =>
    State.BindingsKept.of_record (State.takeBound_view p t) rfl
  have hc : ∀ kind, s.BindingsKept (s.takeCandidate kind t) := fun kind =>
    (show s.BindingsKept (s.setIntake { s.intake with candidates := (s.takeCandidate kind t).intake.candidates })
      from fun _ => rfl).trans (.of_view (State.takeCandidate_view kind t))
  unfold State.takeTelegram State.takeTest State.takeUnbound
  split
  · exact .of_view rfl
  · split
    · split
      · exact State.BindingsKept.of_record (State.reportTelegram_view _ _) rfl
      · exact .of_view rfl
    · exact .of_view rfl
  · split
    · exact hb _
    · exact .of_view rfl
  · split
    · exact hb _
    · split
      · exact .of_view (State.takeTrigger_view ‹_› _ _)
      all_goals
        split
        · exact .of_view rfl
        · exact hc _

theorem State.telegramArrives_bindingsKept (s : State) : s.BindingsKept s.telegramArrives := by
  have hc : s.BindingsKept s.closeSequence := fun _ => rfl
  unfold State.telegramArrives
  split
  · split
    · exact (hc.trans (State.takeTelegram_bindingsKept _ _)).trans (.of_view (State.settle_view _))
    · exact hc
  · exact .of_view rfl

theorem State.fallSilent_bindingsKept (s : State) (q : Position) : s.BindingsKept (s.fallSilent q) := by
  by_cases h : (s.position q).silenceDue = true ∧ ((s.position q).state = .live ∨ (s.position q).state = .awaiting)
  · exact State.BindingsKept.of_record (State.fallSilent_view h) rfl
  · rw [State.fallSilent, if_neg h]; exact .of_view rfl

theorem State.setSetpoints_bindingsKept (s : State) (p : Params) : s.BindingsKept (s.setSetpoints p).1 := by
  refine State.withPosition_keeps (P := fun t => s.BindingsKept t) (.of_view rfl) fun q _ => ?_
  split
  · exact .of_view rfl
  · exact State.BindingsKept.of_record ((State.carry_view _ _).trans (State.evaluate_view _ _)) rfl

theorem State.writeSetpoints_bindingsKept (s : State) (p : Params) : s.BindingsKept (s.writeSetpoints p).1 := by
  have hw : s.BindingsKept (s.writeValues (byteAt p 0) 1 (resolved 0 (sentValues p))).1 :=
    State.writeValues_keeps (P := fun t => s.BindingsKept t) (fun _ _ hv h => h.trans (.of_view hv))
      (fun u q v _ hu => hu.trans (State.BindingsKept.setPosition rfl)) _ _ _ (.of_view rfl)
  unfold State.writeSetpoints
  split
  · exact .of_view rfl
  · dsimp only
    split <;> exact hw.trans (.of_view (State.settle_view _))

/-- What a rule keeps of the bindings, a live command keeps. -/
theorem State.BoundStates.live {dt : Nat} {f : State → State} (hs : s.BoundStates)
    (hf : ∀ u : State, u.BoundStates → u.BindingsKept (f u)) : s.BindingsKept (s.live dt f) := by
  have he := s.elapse_view dt
  unfold State.live
  split
  · exact (State.BindingsKept.of_view he).trans (hf _ (hs.of_view he))
  · exact .of_view he

/-- What a request's rule keeps of the bindings, its exchange keeps. -/
theorem State.BoundStates.request {code : Nat} {p : Params} {accepts : Nat → Bool} {own : State → State × Answer}
    {n : Named} (hs : s.BoundStates) (ho : ∀ u : State, u.BoundStates → u.BindingsKept (own u).1) :
    s.BindingsKept (s.request code p accepts own n) := by
  have hv : s.clockOut.endBatch.ageDetail.view = s.view := by simp
  have hk := State.BindingsKept.of_view hv
  unfold State.request
  refine State.BindingsKept.trans ?_ (.of_view (State.reply_view _ _ _))
  unfold State.answer
  split
  · exact hk.trans (ho _ (hs.of_view hv))
  · exact hk

end

/-- Settles O17: each command that is not listed keeps the view, writes parameters or the store, or changes records and
the window without a binding. -/
theorem onlyBindingCommandsBind : Obligations.OnlyBindingCommandsBind := by
  intro i s t hbind hlearn h hi
  have hs : s.BoundStates := ⟨hbind, hlearn⟩
  by_cases hv : changesView i = false
  · exact State.BindingsKept.of_view (exec_view hv h)
  by_cases hp : writesParameters i = true
  · obtain ⟨x, hx⟩ := exec_parametersWritten hp h
    exact (show s.BindingsKept (s.setSettings x) from fun _ => rfl).trans (.of_view hx)
  by_cases hst : writesStoreAlone i = true
  · obtain ⟨x, hx⟩ := exec_storeWritten hst h
    exact (show s.BindingsKept (s.setStore x) from fun _ => rfl).trans (.of_view hx)
  have live : ∀ {dt : Nat} {f : State → State}, (∀ u : State, u.BoundStates → u.BindingsKept (f u)) →
      s.BindingsKept (s.live dt f) := fun hf => hs.live hf
  have request : ∀ {dt code : Nat} {p : Params} {accepts : Nat → Bool} {own : State → State × Answer} {n : Named},
      (∀ u : State, u.BoundStates → u.BindingsKept (own u).1) →
      s.BindingsKept (s.live dt fun u => u.request code p accepts own n) := fun ho => hs.live fun _ hu => hu.request ho
  cases i <;>
    simp only [changesView, writesParameters, writesStoreAlone, writesBindings, not_true_eq_false, Bool.true_eq_false] at hi hv hp hst <;>
    injection h <;> subst t
  case setBatchSize => exact request fun u _ => by unfold State.setBatchSize; split <;> exact fun _ => rfl
  case setPositionSetpoints => exact request fun u _ => u.setSetpoints_bindingsKept _
  case writeSetpoints => exact request fun u _ => u.writeSetpoints_bindingsKept _
  case beginLearn => exact request fun u hu => hu.beginLearn _
  case cancelLearn => exact request fun u hu => hu.cancelLearn
  case telegramArrival => exact live fun u _ => u.telegramArrives_bindingsKept
  case learnWindowExpiry => exact live fun u hu => hu.expireDue
  case sensorSilent => exact live fun u _ => u.fallSilent_bindingsKept _
  case candidateExpiry => exact live fun u _ => fun _ => rfl
  case runOnExpiry =>
    refine live fun u hu => ?_
    split
    · exact hu.enterWatch.trans (.of_view (State.settle_view _))
    · exact .of_view rfl

end Sys2Proof.Machine
end

section
/-! SUPPORT. The levels of a record and the comparison of a pair (R11 to R14, R18). -/
namespace Sys2Proof.Machine

/-! ### The setpoint and the expected pressure -/

section
variable {s : State}

theorem State.setpointAt_of_spare {p : Position} (h : isSpare p = true) : s.setpointAt p = (s.position p).pl := by
  cases p with
  | road => cases h
  | sp1 => rfl
  | sp2 => rfl

theorem State.setpointAt_of_pe_none {p : Position} (h : (s.position p).pe = none) :
    s.setpointAt p = (s.position p).pl := by
  cases p with
  | road => simp [State.setpointAt, h, effectiveSetpoint]
  | sp1 => rfl
  | sp2 => rfl

theorem State.loadRatioAt_road (a : AxleId) (sl : Slot) : s.loadRatioAt (.road a sl) =
    if (s.axle a).lift = .down then (s.group (s.axle a).layout.group).l else 0 := by
  cases h : (s.axle a).lift <;> simp [State.loadRatioAt, h]

theorem State.loadRatioAt_le (h : s.loadLaw) (p : Position) : s.loadRatioAt p ≤ 1000 := by
  cases p with
  | road a sl =>
    rw [State.loadRatioAt_road]
    split
    · exact h _
    · omega
  | sp1 => simp [State.loadRatioAt]
  | sp2 => simp [State.loadRatioAt]

/-- R11: under a share of at most 1000 the effective setpoint lies between the two setpoints. -/
theorem effectiveSetpoint_mem {pl e l : Nat} (he : e ≤ pl) (hl : l ≤ 1000) :
    e ≤ effectiveSetpoint pl (some e) l ∧ effectiveSetpoint pl (some e) l ≤ pl := by
  have hm : (pl - e) * l / 1000 ≤ pl - e :=
    Nat.div_le_of_le_mul (by rw [Nat.mul_comm 1000]; exact Nat.mul_le_mul_left _ hl)
  simp only [effectiveSetpoint]
  omega

theorem State.setpointAt_mem {p : Position} {e : Nat} (h : s.loadLaw) (hp : isSpare p = false)
    (hpe : (s.position p).pe = some e) (he : e ≤ (s.position p).pl) :
    e ≤ s.setpointAt p ∧ s.setpointAt p ≤ (s.position p).pl := by
  cases p with
  | road a sl =>
    simp only [State.setpointAt, hpe]
    exact effectiveSetpoint_mem he (State.loadRatioAt_le h _)
  | sp1 => cases hp
  | sp2 => cases hp

end

/-- R12: the product of a setpoint and a temperature in their ranges lies between its two ends. -/
theorem expectedProduct_mem {pSet n : Nat} (h1 : 300 ≤ pSet) (h2 : pSet ≤ 1200) (h3 : 233 ≤ n) (h4 : n ≤ 423) :
    400 * 233 ≤ (pSet + 100) * n ∧ (pSet + 100) * n ≤ 1300 * 423 :=
  ⟨Nat.mul_le_mul (by omega) h3, Nat.mul_le_mul (by omega) h4⟩

/-- Settles O21: the cases of the setpoint, and the product's range. -/
theorem expectedPressureIsFormed : Obligations.ExpectedPressureIsFormed := by
  refine ⟨fun s p => ⟨State.setpointAt_of_spare, fun _ => State.setpointAt_of_pe_none, fun a sl e hp he => ?_,
    fun hl e hp hpe he => State.setpointAt_mem hl hp hpe he⟩, fun pSet T h1 h2 h3 h4 => ?_⟩
  · subst hp
    simp only [State.setpointAt, he, effectiveSetpoint, State.loadRatioAt_road]
  · obtain ⟨n, hn⟩ : ∃ n : Nat, (n : Int) = T + 273 := ⟨(T + 273).toNat, by omega⟩
    have hm := expectedProduct_mem h1 h2 (by omega : 233 ≤ n) (by omega)
    have he : expectedPressure pSet (some T) = (pSet + 100) * n / 293 - 100 := by
      simp [expectedPressure, ← hn]
    have hz : ((pSet : Int) + 100) * (T + 273) = (((pSet + 100) * n : Nat) : Int) := by rw [← hn]; push_cast; rfl
    rw [he, hz]
    generalize (pSet + 100) * n = m at hm
    exact ⟨by omega, by omega, by omega, rfl, by simp [expectedPressure], fun _ => rfl⟩

/-! ### The levels -/

theorem temperatureLevel_table (hot : Nat) (T : Int) :
    (temperatureLevel hot .normal (some T) = .hot ↔ (hot : Int) ≤ T) ∧
    (temperatureLevel hot .normal (some T) = .normal ↔ T < (hot : Int)) ∧
    (temperatureLevel hot .hot (some T) = .normal ↔ T ≤ (hot : Int) - 5) ∧
    (temperatureLevel hot .hot (some T) = .hot ↔ (hot : Int) - 5 < T) := by
  simp only [temperatureLevel]
  refine ⟨?_, ?_, ?_, ?_⟩ <;> split <;> simp <;> omega

/-- R14: the level that a ratio gives, for every level before. -/
def levelTable (now : PressureLevel) (q : Nat) : PressureLevel :=
  if q < 700 then .lowAlarm
  else if q < 730 then (if now = .lowAlarm then .lowAlarm else .lowWarning)
  else if q < 800 then .lowWarning
  else if q < 830 then (if now = .lowAlarm ∨ now = .lowWarning then .lowWarning else .lowAdvisory)
  else if q < 900 then .lowAdvisory
  else if q < 930 then
    (if now = .lowAlarm ∨ now = .lowWarning ∨ now = .lowAdvisory then .lowAdvisory else .none)
  else if q ≤ 1220 then .none
  else if q ≤ 1250 then (if now = .highAdvisory then .highAdvisory else .none)
  else .highAdvisory

/-- R14: the entry and the return severity of each band of the ratio. -/
theorem severity_bands (q : Nat) :
    (q < 700 ∧ entrySeverity q = 3 ∧ returnSeverity q = 3) ∨
    (700 ≤ q ∧ q < 730 ∧ entrySeverity q = 2 ∧ returnSeverity q = 3) ∨
    (730 ≤ q ∧ q < 800 ∧ entrySeverity q = 2 ∧ returnSeverity q = 2) ∨
    (800 ≤ q ∧ q < 830 ∧ entrySeverity q = 1 ∧ returnSeverity q = 2) ∨
    (830 ≤ q ∧ q < 900 ∧ entrySeverity q = 1 ∧ returnSeverity q = 1) ∨
    (900 ≤ q ∧ q < 930 ∧ entrySeverity q = 0 ∧ returnSeverity q = 1) ∨
    (930 ≤ q ∧ entrySeverity q = 0 ∧ returnSeverity q = 0) := by
  unfold entrySeverity returnSeverity
  split_ifs <;> omega

theorem levelAtRatio_eq (now : PressureLevel) (q : Nat) : levelAtRatio now q = levelTable now q := by
  unfold levelAtRatio
  rcases severity_bands q with ⟨h, he, hr⟩ | ⟨h, h', he, hr⟩ | ⟨h, h', he, hr⟩ | ⟨h, h', he, hr⟩ | ⟨h, h', he, hr⟩ |
    ⟨h, h', he, hr⟩ | ⟨h, he, hr⟩
  all_goals rw [he, hr]
  case inr.inr.inr.inr.inr.inr =>
    simp (disch := omega) only [levelTable, if_neg, levelFromNone]
    cases now <;> simp [PressureLevel.severity] <;> split_ifs <;> first | rfl | omega
  all_goals
    have hnone : levelFromNone q = .none := if_neg (by omega)
    simp (disch := omega) only [levelTable, if_pos, if_neg]
    cases now <;> simp [PressureLevel.severity, lowLevel, hnone]

/-- Settles O22: the ratio's bands, each for every level before. -/
theorem tyreLevelTables : Obligations.TyreLevelTables := by
  refine ⟨fun hot T => ?_, fun now last expected q => ⟨rfl, rfl, fun v hv => ?_⟩⟩
  · obtain ⟨h1, h2, h3, h4⟩ := temperatureLevel_table hot T
    exact ⟨h1, h2, h3, h4, fun now => rfl⟩
  · subst hv
    exact levelAtRatio_eq now _

/-! ### Pairs -/

section
variable (s : State) (a : AxleId) (sd : Side)

/-- R18: a member that is not LIVE, holds no pressure or is too old is not judged. -/
theorem State.judgeable_eq_none {r : PositionRecord} (h : r.state ≠ .live ∨ r.pressure = none ∨
    s.silenceTimeout / 2 < r.age.getD 0) : s.judgeable r = none := by
  unfold State.judgeable
  split
  · rename_i hc
    rcases h with h | h | h
    · exact absurd hc.1 h
    · exact h
    · exact absurd hc.2 (by omega)
  · rfl

theorem State.judgeable_of_live {r : PositionRecord} (h : r.state = .live) (ha : r.age.getD 0 ≤ s.silenceTimeout / 2) :
    s.judgeable r = r.pressure := if_pos ⟨h, ha⟩

theorem State.comparedPair_unordered {sl : Slot} (hsl : sl = sd.inner ∨ sl = sd.outer)
    (h : s.judgeable (s.position (.road a sl)) = none) : s.comparedPair a sd = .unordered := by
  unfold State.comparedPair
  rcases hsl with rfl | rfl
  · rw [h]
  · rw [h]; cases s.judgeable (s.position (.road a sd.inner)) <;> rfl

theorem State.comparePair_pairMismatch (h : s.pair a sd ≠ .notAPair) : (s.comparePair a sd).port.notices.pairMismatch =
    if s.comparedPair a sd = .mismatched ∧ s.pair a sd ≠ .mismatched then
      s.port.notices.pairMismatch ||| bit (pairNumber a sd)
    else s.port.notices.pairMismatch := by
  unfold State.comparePair
  rw [if_neg h]
  dsimp only
  split <;> rfl

end

/-- Settles O23: what each member is worth, and what the comparison writes. -/
theorem pairComparisonTable : Obligations.PairComparisonTable := by
  refine fun s a sd => ⟨fun sl hsl h => s.comparedPair_unordered a sd hsl (s.judgeable_eq_none h),
    fun i o hi ho hpi hpo hai hao => ?_, fun h => ⟨?_, s.comparePair_pairMismatch a sd h⟩, fun h => if_pos h⟩
  · unfold State.comparedPair
    rw [s.judgeable_of_live hi hai, s.judgeable_of_live ho hao, hpi, hpo]
    rfl
  · rw [comparePair_pair, if_pos ⟨⟨rfl, rfl⟩, h⟩]

end Sys2Proof.Machine
end

section
/-! SUPPORT. A parameter count that does not fit (R20, R147, R157, R158). -/
namespace Sys2Proof.Machine

theorem exactly_eq_true {n c : Nat} : exactly n c = true ↔ c = n := by simp [exactly]

section
variable {s : State} {dt code : Nat} {p : Params} {accepts : Nat → Bool} {own : State → State × Answer} {named : Named}

/-- R157: the exchange of a request whose count does not fit. -/
theorem State.live_request_badCount (h : s.powered = true) (hc : accepts p.count = false) :
    s.live dt (fun u => u.request code p accepts own named) = (s.taken dt).turnedAway code .badParameter named := by
  rw [State.live_on h, State.request_badCount (by simp [hc])]

end

/-- R157: a request with one refusal for every count that it does not take. -/
theorem exec_badCount {i : Instr} {s : State} {code : Nat} {p : Params} {l : List Nat} (h : s.powered = true)
    (hp : requestParts i = some (code, p)) (hl : requestCounts i = some l) (hc : p.count ∉ l)
    (hs : ∀ dt, i ≠ .stageStep dt p) : exec i s = .next ((s.taken (commandTime i)).turnedAway code .badParameter unnamed) := by
  cases i <;> simp only [requestParts, requestCounts, Option.some.injEq, Prod.mk.injEq, reduceCtorEq] at hp hl <;>
    obtain ⟨rfl, rfl⟩ := hp <;> subst hl
  case stageStep dt q => exact absurd rfl (hs dt)
  case restart dt q =>
    refine congrArg Host.Outcome.next ((State.live_on h dt _).trans ?_)
    rw [if_neg fun hk => hc (by simp [hk.1])]
    exact State.request_badCount fun hk => hc (by simpa [exactly] using hk.2)
  all_goals
    refine congrArg Host.Outcome.next (State.live_request_badCount h ?_)
    simpa [exactly] using hc

/-- R147: a Stage Step with a count that no kind has. -/
theorem exec_stageStep_badCount {s : State} {dt : Nat} {p : Params} (h : s.powered = true) (hc : p.count ∉ [2, 3, 5]) :
    ∃ n, stepOf p = .error n ∧ exec (.stageStep dt p) s = .next ((s.taken dt).turnedAway 0x62 .badParameter n) := by
  have hn : stepCount p.count = false := by simpa [stepCount, exactly, and_assoc] using hc
  exact ⟨unfitNamed p, stepOf_of_badCount hn, congrArg Host.Outcome.next (State.live_request_badCount h hn)⟩

/-- R20: what a list that does not fit its count is refused for. -/
theorem writeSetpointsRefusal_badCount {p : Params} (h : p.count ≠ 2 + 2 * byteAt p 1) : writeSetpointsRefusal p =
    some (if 2 ≤ p.count ∧ (byteAt p 1 = 0 ∨ 13 < byteAt p 1) then namedAt 1 else unnamed) := by
  unfold writeSetpointsRefusal
  by_cases h2 : p.count < 2
  · simp [h2, show ¬2 ≤ p.count by omega]
  · by_cases hb : byteAt p 1 = 0 ∨ 13 < byteAt p 1
    · simp [h2, hb, show 2 ≤ p.count by omega]
    · simp [h2, hb, h]

theorem exec_writeSetpoints_badCount {s : State} {dt : Nat} {p : Params} (h : s.powered = true)
    (hc : p.count ≠ 2 + 2 * byteAt p 1 ∨ 28 < p.count) :
    exec (.writeSetpoints dt p) s = .next ((s.taken dt).turnedAway 0x26 .badParameter
      (if p.count ≤ 28 ∧ 2 ≤ p.count ∧ (byteAt p 1 = 0 ∨ 13 < byteAt p 1) then namedAt 1 else unnamed)) := by
  refine congrArg Host.Outcome.next ((State.live_on h dt _).trans ?_)
  by_cases hb : 28 < p.count
  · rw [if_neg fun hk => absurd hk.1 (by omega)]
    exact State.request_badCount fun hk => absurd hk.1 (by omega)
  · have hle : p.count ≤ 28 := by omega
    refine State.request_refused hle rfl ?_
    have hr := writeSetpointsRefusal_badCount (hc.resolve_right hb)
    simp only [hle, true_and]
    unfold State.writeSetpoints
    rw [hr]
    rfl

theorem exactly_zero_badCount {p : Params} (h : p.count ≠ 0) : (decide (p.count ≤ 28) && exactly 0 p.count) = false := by
  simp [exactly, h]

/-- R159: a Continue with parameters leaves its batch read. -/
theorem exec_continueRead_badCount {s : State} {dt : Nat} {p : Params} (h : s.powered = true) (hc : p.count ≠ 0) :
    exec (.continueRead dt p) s =
      .next ((s.elapse dt).clockOut.ageDetail.turnedAway 0x24 .badParameter unnamed) := by
  refine congrArg Host.Outcome.next ((State.live_on h dt _).trans ?_)
  simp only [State.answer, exactly_zero_badCount hc, Bool.false_eq_true, if_false, State.refuse]
  exact State.reply_refused _ _ _ _

/-- R158: a Fault Detail with parameters leaves a detail of its own only where one is held. -/
theorem exec_faultDetail_badCount {s : State} {dt : Nat} {p : Params} (h : s.powered = true) (hc : p.count ≠ 0) :
    exec (.faultDetail dt p) s = .next ((s.elapse dt).clockOut.endBatch.replyDetail s.port.detail.isSome
      (.refused .badParameter unnamed)) := by
  refine congrArg Host.Outcome.next ((State.live_on h dt _).trans ?_)
  simp only [State.answer, exactly_zero_badCount hc, Bool.false_eq_true, if_false, State.refuse]
  rfl

/-- Settles O34: the count is judged before the request's own rule; Write Setpoints and Stage Step name what theirs misses. -/
theorem badCountsAreRefused : Obligations.BadCountsAreRefused := by
  refine ⟨fun i s code p l h hp hl hc => ⟨exec_badCount h hp hl hc, ?_⟩, fun dt p s h hc => exec_writeSetpoints_badCount h hc,
    fun dt p s c h hc e => ?_⟩
  · rintro dt rfl
    cases hp
    cases hl
    exact exec_stageStep_badCount h hc
  · subst e
    refine ⟨exec_continueRead_badCount h hc, fun hd => ?_, fun hd => ?_⟩
    · rw [exec_faultDetail_badCount h hc, Option.isSome_iff_ne_none.2 hd]
      rfl
    · rw [exec_faultDetail_badCount h hc, hd]
      rfl

end Sys2Proof.Machine
end

section
/-! SUPPORT. What an evaluation leaves (R10, R15, R18), and the ages of sensors and candidates (R16, R42, R46). -/
namespace Sys2Proof.Machine

section
variable {s t u : State}

/-! ### Evaluations -/

theorem State.OnlyTyres.refl (s : State) : s.OnlyTyres s := rfl

theorem State.OnlyTyres.trans (h : s.OnlyTyres t) (k : t.OnlyTyres u) : s.OnlyTyres u := by
  unfold State.OnlyTyres at h k ⊢
  rw [k, h]; rfl

theorem State.setPosition_onlyTyres (p : Position) (r : PositionRecord) : s.OnlyTyres (s.setPosition p r) := rfl

theorem State.setNotices_onlyTyres (n : Notices) : s.OnlyTyres (s.setNotices n) := rfl

theorem State.OnlyTyres.loads (h : s.OnlyTyres t) : t.loads = s.loads := by rw [h]; rfl
theorem State.OnlyTyres.settings (h : s.OnlyTyres t) : t.settings = s.settings := by rw [h]; rfl
theorem State.OnlyTyres.intake (h : s.OnlyTyres t) : t.intake = s.intake := by rw [h]; rfl

theorem State.OnlyTyres.andIntake (h : s.OnlyTyres t) : s.OnlyTyresAndIntake t := by
  unfold State.OnlyTyres at h
  unfold State.OnlyTyresAndIntake
  rw [h]; rfl

theorem State.OnlyTyresAndIntake.trans (h : s.OnlyTyresAndIntake t) (k : t.OnlyTyresAndIntake u) :
    s.OnlyTyresAndIntake u := by
  unfold State.OnlyTyresAndIntake at h k ⊢
  rw [k, h]; rfl

theorem State.comparePairOf_onlyTyres (p : Position) : s.OnlyTyres (s.comparePairOf p) := by
  obtain ⟨pairs, m, h⟩ := comparePairOf_frame s p
  rw [h]; rfl

theorem State.noteLevels_onlyTyres (p : Position) (r : PositionRecord) : s.OnlyTyres (s.noteLevels p r) := by
  unfold State.noteLevels; split <;> rfl

/-- R10: an evaluation changes the table and two of the notices. -/
theorem State.evaluate_frame (p : Position) : ∃ x l m, s.evaluate p =
    (s.setTyres x).setNotices { s.port.notices with tyreLevel := l, pairMismatch := m } := by
  unfold State.evaluate
  split
  · obtain ⟨pairs, m, h⟩ := comparePairOf_frame ((s.setPosition p (s.evaluatedRecord p)).noteLevels p (s.position p)) p
    rw [h]
    unfold State.noteLevels
    split <;> exact ⟨_, _, _, rfl⟩
  · exact ⟨s.tyres, s.port.notices.tyreLevel, s.port.notices.pairMismatch, rfl⟩

theorem State.evaluate_onlyTyres (p : Position) : s.OnlyTyres (s.evaluate p) := by
  obtain ⟨x, l, m, h⟩ := s.evaluate_frame p
  rw [h]; rfl

theorem State.evaluate_of_unbound {p : Position} (h : (s.position p).state.isBound = false) : s.evaluate p = s := by
  simp [State.evaluate, h]

/-- R10: what an evaluation makes of its own record. -/
theorem State.evaluate_self {p : Position} (h : (s.position p).state.isBound = true) :
    (s.evaluate p).position p = s.evaluatedRecord p := by
  rw [State.evaluate_position, if_pos ⟨rfl, h⟩]

theorem State.JudgedFrom.congr {q : Position} {r r' : PositionRecord} (h : u.JudgedFrom q r')
    (hr : r'.levels = r.levels) : u.JudgedFrom q r := by
  obtain ⟨hp, ht⟩ := Prod.mk.inj hr
  exact ⟨h.expected, by rw [← hp]; exact h.pressure, by rw [← ht]; exact h.temperature⟩

/-- R10, R15, R18: an evaluation that starts from the pairs, the notices and the levels of before a change. -/
theorem State.Evaluated.from {q : Position} {r r' : PositionRecord} (h : t.Evaluated u q r')
    (hp : t.tyres.pairs = s.tyres.pairs) (hl : t.port.notices.tyreLevel = s.port.notices.tyreLevel)
    (hm : t.port.notices.pairMismatch = s.port.notices.pairMismatch) (hr : r'.levels = r.levels) : s.Evaluated u q r := by
  refine ⟨h.judged.congr hr, ?_, h.pairs.from (fun a sd => by unfold State.pair; rw [hp]) hm⟩
  rw [h.level, hl]
  unfold State.levelBit
  rw [hr]

theorem State.setPosition_pairs (p : Position) (r : PositionRecord) : (s.setPosition p r).tyres.pairs = s.tyres.pairs :=
  rfl

/-- R10: a record that is written and then evaluated, from the levels that the write leaves. -/
theorem State.evaluate_written {q : Position} {r r' : PositionRecord} (hb : r.state.isBound = true)
    (hr : r.levels = r'.levels) : s.Evaluated ((s.setPosition q r).evaluate q) q r' := by
  have h := evaluate_evaluated (s.setPosition q r) q (by rw [State.setPosition_position_self]; exact hb)
  rw [State.setPosition_position_self] at h
  exact h.from rfl rfl rfl hr

end

/-! ### Ages -/

section
variable {s : State}

theorem countUp_eq_min (top n : Nat) : countUp top n = min top (n + 1) := by
  unfold countUp; split <;> omega

theorem PositionRecord.aged_of_unbound {r : PositionRecord} (h : r.state.isBound = false) (n : Nat) : r.aged n = r := by
  simp [PositionRecord.aged, h]

theorem PositionRecord.aged_of_bound {r : PositionRecord} (h : r.state.isBound = true) (n : Nat) : r.aged n =
    { r with
      age := some (countUp 65535 (r.age.getD 0))
      silenceDue := (decide (r.state = .live) || decide (r.state = .awaiting)) &&
        decide (n < countUp 65535 (r.age.getD 0)) } := by
  simp [PositionRecord.aged, h]

theorem State.countAges_position (q : Position) : s.countAges.position q = (s.position q).aged s.silenceTimeout := by
  simp only [State.countAges, State.position, State.setCandidates]
  exact PerPosition.get_map _ _ _

theorem State.comparePairOf_sensorSilent (p : Position) :
    (s.comparePairOf p).port.notices.sensorSilent = s.port.notices.sensorSilent := by
  obtain ⟨pairs, m, h⟩ := comparePairOf_frame s p
  rw [h]; rfl

/-- R46: what a count makes of a candidate. -/
theorem Candidate.aged_spec (c : Candidate) : c.aged.age = min 600 (c.age + 1) ∧
    c.aged.firstHeard = min 65535 (c.firstHeard + 1) ∧ (c.sinceSighting = none → c.aged.sinceSighting = none) ∧
    ∀ n, c.sinceSighting = some n → c.aged.sinceSighting = some (min 60 (n + 1)) := by
  refine ⟨countUp_eq_min _ _, countUp_eq_min _ _, fun h => by simp [Candidate.aged, h],
    fun n h => by simp [Candidate.aged, h, countUp_eq_min _ _]⟩

/-- R16: a record that is marked becomes SILENT. -/
theorem State.fallSilent_spec {q : Position} (hd : (s.position q).silenceDue = true)
    (hq : (s.position q).state = .live ∨ (s.position q).state = .awaiting) :
    s.OnlyTyres (s.fallSilent q) ∧
      ((s.fallSilent q).position q) = { s.position q with state := .silent, silenceDue := false } ∧
      (s.fallSilent q).port.notices.sensorSilent = s.port.notices.sensorSilent ||| bit q.index ∧
      s.PairsCompared (s.fallSilent q) [q] ∧ ∀ r, r ≠ q → (s.fallSilent q).position r = s.position r := by
  unfold State.fallSilent
  rw [if_pos ⟨hd, hq⟩, State.noteSensorSilent_eq]
  have hc := comparePairOf_compared ((s.setPosition q { s.position q with state := .silent, silenceDue := false }).setNotices
    { s.port.notices with sensorSilent := s.port.notices.sensorSilent ||| bit q.index }) q
  refine ⟨((State.setPosition_onlyTyres _ _).trans (State.setNotices_onlyTyres _)).trans (State.comparePairOf_onlyTyres _),
    ?_, ?_, hc.from (fun _ _ => rfl) rfl, fun r hr => ?_⟩
  · simp
  · rw [State.comparePairOf_sensorSilent]; rfl
  · simp [State.setPosition_position, hr]

end

/-- Settles O42: each rule of a second, on the record or the entry that it counts. -/
theorem agesCount : Obligations.AgesCount := by
  intro dt s h
  refine ⟨⟨(s.elapse dt).countAges, congrArg Host.Outcome.next (State.live_on h dt _), rfl, rfl, rfl, rfl,
    fun q hq => ?_, fun q hq => ?_, ?_, fun i c hc => ⟨c.aged, ?_, rfl, rfl, rfl, rfl, c.aged_spec⟩⟩, rfl,
    fun q hd hq => ⟨(s.elapse dt).fallSilent q, congrArg Host.Outcome.next (State.live_on h dt _), ?_⟩, fun q hq => ?_,
    fun id => congrArg Host.Outcome.next (State.live_on h dt _)⟩
  · rw [State.countAges_position]
    exact PositionRecord.aged_of_unbound hq _
  · have hr : (s.elapse dt).countAges.position q = _ :=
      ((s.elapse dt).countAges_position q).trans (PositionRecord.aged_of_bound hq _)
    rw [hr, countUp_eq_min _ _]
    refine ⟨rfl, rfl, rfl, ?_⟩
    simp only [Bool.and_eq_true, Bool.or_eq_true, decide_eq_true_eq]
    exact Iff.rfl
  · exact List.length_map _
  · exact (List.getElem?_map ..).trans (congrArg (Option.map Candidate.aged) hc)
  · obtain ⟨h1, h2, h3, h4, h5⟩ := State.fallSilent_spec (s := s.elapse dt) hd hq
    rw [h2]
    exact ⟨h1, rfl, rfl, rfl, rfl, h3, h4.from (fun _ _ => rfl) rfl, h5⟩
  · refine congrArg Host.Outcome.next ((State.live_on h dt _).trans (if_neg ?_))
    rintro ⟨h1, h2⟩
    rcases hq with hq | ⟨h3, h4⟩
    · exact absurd (hq.symm.trans h1) (by simp)
    · exact h2.elim h3 h4

end Sys2Proof.Machine
end

section
/-! SUPPORT. The learn window opens, is cancelled, expires or is confirmed (R36, R38 to R41). -/
namespace Sys2Proof.Machine

section
variable {s : State}

/-- The indices of the 22 positions. -/
theorem Position.ofIndex_none {n : Nat} (h : 21 < n) : Position.ofIndex n = none := by
  unfold Position.ofIndex
  exact List.getElem?_eq_none (by rw [show Position.list.length = 22 from rfl]; omega)

theorem Position.ofIndex_some {n : Nat} (h : n ≤ 21) : ∃ q, Position.ofIndex n = some q :=
  ⟨_, List.getElem?_eq_getElem (l := Position.list) (i := n) (by rw [show Position.list.length = 22 from rfl]; omega)⟩

theorem Position.le_of_ofIndex {n : Nat} {q : Position} (h : Position.ofIndex n = some q) : n ≤ 21 := by
  by_contra hn
  rw [Position.ofIndex_none (by omega)] at h
  cases h

/-- R3: an index names the position that has it. -/
theorem Position.index_of_ofIndex {n : Nat} {q : Position} (h : Position.ofIndex n = some q) : q.index = n := by
  have hn := Position.le_of_ofIndex h
  have hall : ∀ m : Fin 22, ∀ q, Position.ofIndex m = some q → q.index = m := by decide
  exact hall ⟨n, by omega⟩ q h

/-! ### Begin Learn -/

theorem State.beginLearn_opens {p : Params} {q : Position} (hq : Position.ofIndex (byteAt p 0) = some q)
    (hp : s.mode.power ≠ .watch) (hx : s.positionExists q = true) (hw : s.intake.window = none)
    (he : (s.position q).state = .empty) : s.beginLearn p = ((s.setPosition q (s.position q).targeted).setIntake
      { s.intake with window := some ⟨q, s.now, none⟩ }, .done []) := by
  simp only [State.beginLearn, hq, hp, hx, hw, he]
  rfl

theorem State.beginLearn_missing {p : Params} {q : Position} (hq : Position.ofIndex (byteAt p 0) = some q)
    (hp : s.mode.power ≠ .watch) (hx : s.positionExists q = false) :
    s.beginLearn p = (s, .refused .noSuchRecord unnamed) := by
  simp only [State.beginLearn, hq, hp, hx]
  rfl

theorem State.beginLearn_conflict {p : Params} {q : Position} (hq : Position.ofIndex (byteAt p 0) = some q)
    (hp : s.mode.power ≠ .watch) (hx : s.positionExists q = true)
    (h : s.intake.window.isSome = true ∨ (s.position q).state ≠ .empty) :
    s.beginLearn p = (s, .refused .conflict unnamed) := by
  simp only [State.beginLearn, hq, if_neg hp, hx, Bool.not_true, Bool.false_eq_true, if_false]
  by_cases hw : s.intake.window.isSome = true
  · rw [if_pos hw]; rfl
  · rw [if_neg hw, if_pos (h.resolve_left hw)]; rfl

theorem State.beginLearn_badIndex {p : Params} (h : 21 < byteAt p 0) :
    s.beginLearn p = (s, .refused .badParameter unnamed) := by
  simp only [State.beginLearn, Position.ofIndex_none h]
  rfl

/-! ### Expiry and confirmation -/

theorem State.expireDue_of_none (h : s.intake.window = none) : s.expireDue = s := by simp [State.expireDue, h]

theorem State.expireDue_of_some {w : LearnWindow} (h : s.intake.window = some w) :
    s.expireDue = if w.openedAt + 120000000 ≤ s.now then s.expireWindow w else s := by
  simp only [State.expireDue, h]
  rfl

theorem State.confirmDue_of_none (h : s.intake.window = none) : s.confirmDue = s := by simp [State.confirmDue, h]

theorem State.confirmDue_of_noTrigger {w : LearnWindow} (h : s.intake.window = some w) (ht : w.trigger = none) :
    s.confirmDue = s := by simp [State.confirmDue, h, ht]

theorem State.confirmDue_of_trigger {w : LearnWindow} {x : Trigger} (h : s.intake.window = some w)
    (ht : w.trigger = some x) :
    s.confirmDue = if x.arrival + 2000000 ≤ s.now then (s.confirm w x).settle else s := by
  simp only [State.confirmDue, h, ht]
  rfl

theorem State.boundPosition_isSome {q : Position} {b : Binding} (h : (s.position q).bound = some b) :
    ∃ p, s.boundPosition b.id = some p := by
  rw [← Option.isSome_iff_exists, Option.isSome_iff_ne_none]
  intro hn
  exact State.boundPosition_none.1 hn q (by rw [h]; rfl)

theorem State.boundPosition_of_free {id : SensorId} (h : ∀ q b, (s.position q).bound = some b → b.id ≠ id) :
    s.boundPosition id = none := by
  rw [State.boundPosition_none]
  intro q hq
  cases hb : (s.position q).bound with
  | none => rw [hb] at hq; cases hq
  | some b =>
    rw [hb] at hq
    exact h q b hb (Option.some.inj hq)

/-- R41: a duplicate leaves the window open without its trigger. -/
theorem State.confirm_duplicate {w : LearnWindow} {x : Trigger} {p : Position} (h : s.boundPosition x.bound.id = some p) :
    s.confirm w x = (s.setIntake { s.intake with window := some { w with trigger := none } }).noteLearnResult
      .duplicate w.target := by
  unfold State.confirm
  rw [h]
  rfl

/-- R38: the table, the window and the list that a confirmation evaluates. -/
def State.confirmed (s : State) (w : LearnWindow) (x : Trigger) : State :=
  let t := s.setPosition w.target ((s.position w.target).learned x)
  ((t.setIntake { t.intake with window := none }).dropCandidate x.bound.id).noteLearnResult .done w.target

theorem State.confirm_binds {w : LearnWindow} {x : Trigger} (h : s.boundPosition x.bound.id = none) :
    s.confirm w x = ((s.confirmed w x).evaluate w.target).reportTelegram w.target := by
  unfold State.confirm
  rw [h]
  rfl

theorem State.confirmed_position (w : LearnWindow) (x : Trigger) (q : Position) : (s.confirmed w x).position q =
    if q = w.target then (s.position w.target).learned x else s.position q :=
  State.setPosition_position ..

theorem State.reportTelegram_of_other {p : Position} (h : ∀ r, s.mode.running = some r → r.step ≠ .sensorListen p) :
    s.reportTelegram p = s := by
  unfold State.reportTelegram
  split
  · exact if_neg (h _ ‹_›)
  · rfl

/-- R148: the report of a telegram changes the workshop record, the table of the offers and one notice. -/
theorem State.reportTelegram_frame (p : Position) : s.reportTelegram p =
    ((s.setDemands (s.reportTelegram p).demands).setMode (s.reportTelegram p).mode).setNotices
      { s.port.notices with workshopChange := (s.reportTelegram p).port.notices.workshopChange } := by
  unfold State.reportTelegram State.stepDone State.enterWorkshopState
  split
  · split
    · dsimp only
      split <;> split <;> rfl
    · rfl
  · rfl

theorem State.Evaluated.reportTelegram {t : State} {q : Position} {r : PositionRecord} (h : s.Evaluated t q r)
    (p : Position) : s.Evaluated (t.reportTelegram p) q r := by
  rw [t.reportTelegram_frame p]
  exact ⟨⟨h.judged.expected, h.judged.pressure, h.judged.temperature⟩, h.level, ⟨h.pairs.compared, h.pairs.kept, h.pairs.notice⟩⟩

theorem State.evaluate_mode (q : Position) : (s.evaluate q).mode = s.mode := by
  obtain ⟨x, l, m, h⟩ := s.evaluate_frame q
  rw [h]; rfl

theorem State.evaluate_learnResult (q : Position) :
    (s.evaluate q).port.notices.learnResult = s.port.notices.learnResult := by
  obtain ⟨x, l, m, h⟩ := s.evaluate_frame q
  rw [h]; rfl

theorem State.reportTelegram_learnResult (q : Position) :
    (s.reportTelegram q).port.notices.learnResult = s.port.notices.learnResult := by
  rw [s.reportTelegram_frame q]; rfl

/-- R38, R40: what a confirmation leaves. -/
theorem State.confirm_spec {w : LearnWindow} {x : Trigger} (h : s.boundPosition x.bound.id = none) :
    (∀ r, r ≠ w.target → (s.confirm w x).position r = s.position r) ∧
    (s.confirm w x).position w.target = (s.confirmed w x).evaluatedRecord w.target ∧
    s.Evaluated (s.confirm w x) w.target (s.position w.target).cleared ∧
    (s.confirm w x).intake = (s.confirmed w x).intake ∧
    (s.confirm w x).port.notices.learnResult = some (.done, w.target) ∧
    ((∀ r, s.mode.running = some r → r.step ≠ .sensorListen w.target) → s.OnlyTyresAndIntake (s.confirm w x)) := by
  rw [State.confirm_binds h]
  have hb : ((s.confirmed w x).position w.target).state.isBound = true := by rw [State.confirmed_position, if_pos rfl]; rfl
  have hl : ((s.confirmed w x).position w.target).levels = (s.position w.target).cleared.levels := by
    rw [State.confirmed_position, if_pos rfl]; rfl
  refine ⟨fun r hr => ?_, ?_, ?_, ?_, ?_, fun hr => ?_⟩
  · rw [State.reportTelegram_position, State.evaluate_position_ne _ hr, State.confirmed_position, if_neg hr]
  · rw [State.reportTelegram_position, State.evaluate_self hb]
  · exact State.Evaluated.reportTelegram (State.Evaluated.from (s := s) (evaluate_evaluated _ _ hb) rfl rfl rfl hl) _
  · rw [State.reportTelegram_intake, State.evaluate_intake]
  · rw [State.reportTelegram_learnResult, State.evaluate_learnResult]; rfl
  · rw [State.reportTelegram_of_other (by rw [State.evaluate_mode]; exact hr)]
    exact State.OnlyTyresAndIntake.trans (t := s.confirmed w x) rfl (State.evaluate_onlyTyres _).andIntake

end

section
variable {s : State} {dt : Nat} {p : Params}

theorem exec_beginLearn (h : s.powered = true) : exec (.beginLearn dt p) s =
    .next ((s.elapse dt).request 0x30 p (exactly 1) (State.beginLearn p)) :=
  congrArg Host.Outcome.next (State.live_on h dt _)

theorem exec_cancelLearn (h : s.powered = true) : exec (.cancelLearn dt p) s =
    .next ((s.elapse dt).request 0x31 p (exactly 0) State.cancelLearn) :=
  congrArg Host.Outcome.next (State.live_on h dt _)

theorem exec_learnWindowExpiry (h : s.powered = true) : exec (.learnWindowExpiry dt) s = .next (s.elapse dt).expireDue :=
  congrArg Host.Outcome.next (State.live_on h dt _)

theorem exec_learnConfirmation (h : s.powered = true) : exec (.learnConfirmation dt) s = .next (s.elapse dt).confirmDue :=
  congrArg Host.Outcome.next (State.live_on h dt _)

end

/-- Settles O40: the cases of each rule of the window. -/
theorem learnWindowRuns : Obligations.LearnWindowRuns := by
  intro dt p s h
  rw [exec_beginLearn h, exec_cancelLearn h, exec_learnWindowExpiry h, exec_learnConfirmation h]
  simp only [Host.Outcome.next.injEq]
  refine ⟨fun q hc hq hp => ⟨fun hx hw he => ?_, fun hx => ?_, fun hx hw => ?_⟩, fun hc hi => ?_, fun hc hw => ?_,
    fun hw => ⟨State.expireDue_of_none hw, State.confirmDue_of_none hw⟩, fun w hw => ⟨fun hc => ?_, fun hd => ?_, fun hd => ?_,
      fun ht => State.confirmDue_of_noTrigger hw ht, fun x hx => ⟨fun hd => ?_, fun hd hb => ?_, fun hd hb => ?_⟩⟩⟩
  · exact State.request_done (by omega) (exactly_eq_true.2 hc) (State.beginLearn_opens (s := s.taken dt) hq hp hx hw he)
  · exact State.request_refused (by omega) (exactly_eq_true.2 hc) (State.beginLearn_missing (s := s.taken dt) hq hp hx)
  · exact State.request_refused (by omega) (exactly_eq_true.2 hc) (State.beginLearn_conflict (s := s.taken dt) hq hp hx hw)
  · exact State.request_refused (by omega) (exactly_eq_true.2 hc) (State.beginLearn_badIndex (s := s.taken dt) hi)
  · refine State.request_refused (by omega) (exactly_eq_true.2 hc) (if_neg ?_)
    rw [State.taken_intake, hw]; simp
  · refine State.request_done (by omega) (exactly_eq_true.2 hc) ((if_pos ?_).trans ?_)
    · rw [State.taken_intake, hw]; rfl
    · rw [State.cancelWindow_some (s := s.taken dt) hw]; rfl
  · exact (State.expireDue_of_some (s := s.elapse dt) hw).trans (if_pos hd)
  · exact (State.expireDue_of_some (s := s.elapse dt) hw).trans (if_neg (Nat.not_le.2 hd))
  · exact (State.confirmDue_of_trigger (s := s.elapse dt) hw hx).trans (if_neg (Nat.not_le.2 hd))
  · obtain ⟨q, b, hq, hid⟩ := hb
    obtain ⟨r, hr⟩ := State.boundPosition_isSome (s := s.elapse dt) hq
    rw [hid] at hr
    refine ((State.confirmDue_of_trigger (s := s.elapse dt) hw hx).trans (if_pos hd)).trans ?_
    rw [State.confirm_duplicate hr]
    rfl
  · obtain ⟨h1, h2, h3, h4, h5, h6⟩ :=
      State.confirm_spec (s := s.elapse dt) (w := w) (State.boundPosition_of_free (s := s.elapse dt) hb)
    refine ⟨(s.elapse dt).confirm w x, (State.confirmDue_of_trigger (s := s.elapse dt) hw hx).trans (if_pos hd), h1, ?_⟩
    have hr : ((s.elapse dt).confirmed w x).position w.target = (s.position w.target).learned x :=
      ((s.elapse dt).confirmed_position w x _).trans (if_pos rfl)
    rw [h2, h4]
    unfold State.evaluatedRecord
    rw [hr]
    exact ⟨rfl, rfl, rfl, rfl, rfl, rfl, rfl, rfl, rfl, ⟨h3.judged, h3.level, h3.pairs.from (fun _ _ => rfl) rfl⟩, rfl, h5, rfl, h6⟩

end Sys2Proof.Machine
end

section
/-! SUPPORT. The requests that write setpoints, retire a sensor, adopt a candidate and exchange two sensors (R9, R10, R15,
R18, R19, R22 to R24, R26). -/
namespace Sys2Proof.Machine

/-! ### A position by its index -/

section
variable {s : State} {i : Nat} {n m : Named} {own : Position → State × Answer}

theorem State.withPosition_above (h : 21 < i) : s.withPosition i n m own = (s, .refused .badParameter n) := by
  simp only [State.withPosition, Position.ofIndex_none h]
  rfl

theorem State.withPosition_missing {q : Position} (h : Position.ofIndex i = some q) (hq : s.positionExists q = false) :
    s.withPosition i n m own = (s, .refused .noSuchRecord m) := by
  simp only [State.withPosition, h, hq, Bool.false_eq_true, if_false]
  rfl

theorem State.withPosition_own {q : Position} (h : Position.ofIndex i = some q) (hq : s.positionExists q = true) :
    s.withPosition i n m own = own q := by
  simp only [State.withPosition, h, hq, if_true]

end

/-! ### Setpoints -/

/-- R9: the setpoints that a position accepts. -/
theorem setpointRefusal_of_inRange {q : Position} {pl : Nat} {pe : Option Nat} (h : setpointsInRange q pl pe) :
    setpointRefusal q pl pe = none := by
  obtain ⟨⟨h1, h2⟩, he⟩ := h
  unfold setpointRefusal
  rw [if_neg (by omega), if_neg (by omega)]
  cases pe with
  | none => rfl
  | some e =>
    obtain ⟨h3, h4, h5⟩ := he e rfl
    simp only
    rw [if_neg (by rw [h3]; simp), if_neg (by omega), if_neg (by omega)]

/-- R9: what a light setpoint is refused for, beside a laden setpoint in range. -/
theorem setpointRefusal_of_light {q : Position} {pl e : Nat} (h1 : 300 ≤ pl) (h2 : pl ≤ 1200)
    (h : ¬setpointsInRange q pl (some e)) : setpointRefusal q pl (some e) =
      some (positionAt 3 q.index (if isSpare q then none else if e < 300 then some 300 else some pl)) := by
  unfold setpointRefusal
  rw [if_neg (by omega), if_neg (by omega)]
  dsimp only
  by_cases hs : isSpare q = true
  · rw [if_pos hs, if_pos hs]
  · rw [if_neg hs, if_neg hs]
    by_cases he : e < 300
    · rw [if_pos he, if_pos he]
    · rw [if_neg he, if_neg he, if_pos]
      by_contra hpl
      refine h ⟨⟨h1, h2⟩, fun e' he' => ?_⟩
      cases he'
      exact ⟨by simpa using hs, by omega, by omega⟩

section
variable {s : State} {p : Params} {q : Position}

/-- R9, R10: the records that a write of setpoints evaluates. -/
def State.withSetpoints (s : State) (q : Position) (pl : Nat) (pe : Option Nat) : State :=
  s.setPosition q { s.position q with pl := pl, pe := pe }

theorem State.setSetpoints_done {pl : Nat} {pe : Option Nat} (hq : Position.ofIndex (byteAt p 0) = some q)
    (hx : s.positionExists q = true) (hpl : wordAt p 1 = pl) (hpe : lightSetpoint p = pe)
    (hr : setpointsInRange q pl pe) :
    s.setSetpoints p = (((s.withSetpoints q pl pe).evaluate q).settle, .done []) := by
  unfold State.setSetpoints
  rw [State.withPosition_own hq hx]
  subst hpl hpe
  rw [setpointRefusal_of_inRange hr]
  rfl

theorem State.setSetpoints_refused {n : Named} (hq : Position.ofIndex (byteAt p 0) = some q)
    (hx : s.positionExists q = true) (hr : setpointRefusal q (wordAt p 1) (lightSetpoint p) = some n) :
    s.setSetpoints p = (s, .refused .badParameter n) := by
  unfold State.setSetpoints
  rw [State.withPosition_own hq hx]
  simp only [hr]
  rfl

/-- R9, R10: what the writing of two setpoints leaves of its position. -/
theorem State.withSetpoints_evaluate (s : State) (q : Position) (pl : Nat) (pe : Option Nat) :
    let u := (s.withSetpoints q pl pe).evaluate q
    s.OnlyTyres u ∧ (u.position q).pl = pl ∧ (u.position q).pe = pe ∧
      (∀ r, r ≠ q → u.position r = s.position r) ∧
      (u.position q).bound = (s.position q).bound ∧ (u.position q).state = (s.position q).state ∧
      (u.position q).pressure = (s.position q).pressure ∧ (u.position q).age = (s.position q).age ∧
      (u.position q).temperature = (s.position q).temperature ∧
      (u.position q).fastLoss = (s.position q).fastLoss ∧ (u.position q).batteryLow = (s.position q).batteryLow ∧
      ((s.position q).state.isBound = false → u.position q = { s.position q with pl := pl, pe := pe } ∧
        u.tyres.pairs = s.tyres.pairs ∧ u.port.notices = s.port.notices) ∧
      ((s.position q).state.isBound = true → s.Evaluated u q (s.position q)) := by
  have hq : (s.withSetpoints q pl pe).position q = { s.position q with pl := pl, pe := pe } :=
    State.setPosition_position_self ..
  have ho : ∀ r, r ≠ q → ((s.withSetpoints q pl pe).evaluate q).position r = s.position r := fun r hr => by
    rw [State.evaluate_position_ne _ hr]
    exact (State.setPosition_position ..).trans (if_neg hr)
  have ht : s.OnlyTyres ((s.withSetpoints q pl pe).evaluate q) :=
    (State.setPosition_onlyTyres _ _).trans (State.evaluate_onlyTyres _)
  cases hb : (s.position q).state.isBound with
  | false =>
    have hu : (s.withSetpoints q pl pe).evaluate q = s.withSetpoints q pl pe :=
      State.evaluate_of_unbound (by rw [hq]; exact hb)
    rw [hu] at ho ht ⊢
    dsimp only
    rw [hq]
    exact ⟨ht, rfl, rfl, ho, rfl, rfl, rfl, rfl, rfl, rfl, rfl, fun _ => ⟨rfl, rfl, rfl⟩, fun h => by cases h⟩
  | true =>
    have hw : s.Evaluated ((s.withSetpoints q pl pe).evaluate q) q (s.position q) := State.evaluate_written hb rfl
    have hu := State.evaluate_self (s := s.withSetpoints q pl pe) (p := q) (by rw [hq]; exact hb)
    dsimp only
    rw [hu]
    unfold State.evaluatedRecord
    rw [hq]
    exact ⟨ht, rfl, rfl, ho, rfl, rfl, rfl, rfl, rfl, rfl, rfl, fun h => (by cases h), fun _ => hw⟩

end

section
variable {s : State} {dt : Nat} {p : Params}

theorem exec_setPositionSetpoints (h : s.powered = true) : exec (.setPositionSetpoints dt p) s =
    .next ((s.elapse dt).request 0x25 p (fun n => exactly 3 n || exactly 5 n) (State.setSetpoints p)) :=
  congrArg Host.Outcome.next (State.live_on h dt _)

theorem exec_writeTyreParameters (h : s.powered = true) : exec (.writeTyreParameters dt p) s =
    .next ((s.elapse dt).request 0x34 p (fun n => exactly 0 n || exactly 3 n) (State.writeTyreParameters p)) :=
  congrArg Host.Outcome.next (State.live_on h dt _)

end

/-- Settles O36: the checks of the request in their order, and the evaluation of what it writes. -/
theorem setpointsAreWritten : Obligations.SetpointsAreWritten := by
  intro dt p s h
  rw [exec_setPositionSetpoints h, exec_writeTyreParameters h]
  simp only [Host.Outcome.next.injEq]
  have hcount : ∀ {a b : Nat}, p.count = a ∨ p.count = b → (exactly a p.count || exactly b p.count) = true := by
    rintro a b (h | h) <;> simp [exactly, h]
  refine ⟨fun q pl pe hc hq hx hpl hr => ?_, fun hc => ⟨fun hi => ?_, fun q hq => ?_⟩, fun hc => ?_, fun hc hr => ?_,
    fun hc hr => ?_⟩
  · have hle : lightSetpoint p = pe ∧ (p.count = 3 ∨ p.count = 5) := by
      rcases hc with ⟨hc, rfl⟩ | ⟨hc, rfl⟩ <;> simp [lightSetpoint, hc]
    obtain ⟨h1, h2, h3, h4, h5, h6, h7, h8, h9, h10, h11, h12, h13⟩ := (s.taken dt).withSetpoints_evaluate q pl pe
    exact ⟨_, State.request_done (by omega) (hcount hle.2) (State.setSetpoints_done (s := s.taken dt) hq hx hpl hle.1 hr),
      h1, h2, h3, h4, h5, h6, h7, h8, h9, h10, h11, h12, fun hb => (h13 hb).from rfl rfl rfl rfl⟩
  · exact State.request_refused (by omega) (hcount hc) (State.withPosition_above hi)
  · have hi := Position.index_of_ofIndex hq
    refine ⟨fun hx => ?_, fun hx hlo => ?_, fun hx hhi => ?_, fun hx h1 h2 h5 hr => ?_⟩
    · rw [hi]
      exact State.request_refused (by omega) (hcount hc) (State.withPosition_missing (s := s.taken dt) hq hx)
    · refine State.request_refused (by omega) (hcount hc) (State.setSetpoints_refused (s := s.taken dt) hq hx ?_)
      exact if_pos hlo
    · refine State.request_refused (by omega) (hcount hc) (State.setSetpoints_refused (s := s.taken dt) hq hx ?_)
      exact (if_neg (by omega)).trans (if_pos hhi)
    · refine State.request_refused (by omega) (hcount hc) (State.setSetpoints_refused (s := s.taken dt) hq hx ?_)
      rw [show lightSetpoint p = some (wordAt p 3) from if_pos h5]
      exact setpointRefusal_of_light h1 h2 hr
  · exact State.request_done (by omega) (hcount (.inl hc)) (if_pos hc)
  · exact State.request_done (by omega) (hcount (.inr hc)) ((if_neg (by omega)).trans (if_pos hr))
  · exact State.request_refused (by omega) (hcount (.inr hc)) ((if_neg (by omega)).trans (if_neg hr))

end Sys2Proof.Machine
end

section
/-! SUPPORT. Retire Sensor and Adopt Candidate (R10, R15, R18, R24, R26, R40). -/
namespace Sys2Proof.Machine

section
variable {s : State} {q : Position}

/-! ### Retiring -/

/-- R18: a pair with a member that is not LIVE compares as UNORDERED. -/
theorem State.PairsCompared.unordered {u : State} {l : List Position} {a : AxleId} {sl : Slot} (h : s.PairsCompared u l)
    (hl : .road a sl ∈ l) (hn : s.pair a sl.side ≠ .notAPair) (hs : (u.position (.road a sl)).state ≠ .live) :
    u.pair a sl.side = .unordered := by
  rw [h.compared a sl hl hn]
  refine State.comparedPair_unordered _ a sl.side (sl := sl) ?_ (State.judgeable_eq_none _ (.inl ?_))
  · cases sl <;> simp [Slot.side, Side.inner, Side.outer]
  · exact hs

/-- R15, R18, R24: what the clearing of a bound record leaves. -/
theorem State.clearBound_spec (s : State) (q : Position) :
    s.OnlyTyres (s.clearBound q) ∧
    (s.clearBound q).port.notices.tyreLevel = (if (s.position q).levels = (.none, .normal) then s.port.notices.tyreLevel
      else s.port.notices.tyreLevel ||| bit q.index) ∧ s.PairsCompared (s.clearBound q) [q] := by
  have hl : ∀ t : State, (t.comparePairOf q).port.notices.tyreLevel = t.port.notices.tyreLevel := fun t => by
    obtain ⟨pairs, m, h⟩ := comparePairOf_frame t q
    rw [h]; rfl
  have hn : ((s.setPosition q (s.position q).emptied).noteLevels q (s.position q)).tyres.pairs = s.tyres.pairs ∧
      ((s.setPosition q (s.position q).emptied).noteLevels q (s.position q)).port.notices.pairMismatch =
        s.port.notices.pairMismatch := by
    unfold State.noteLevels; split <;> exact ⟨rfl, rfl⟩
  have hc := comparePairOf_compared ((s.setPosition q (s.position q).emptied).noteLevels q (s.position q)) q
  unfold State.clearBound
  refine ⟨((State.setPosition_onlyTyres _ _).trans (State.noteLevels_onlyTyres _ _)).trans (State.comparePairOf_onlyTyres _),
    ?_, hc.from (fun a sd => by unfold State.pair; rw [hn.1]) hn.2⟩
  rw [hl]
  unfold State.noteLevels
  rw [State.setPosition_position_self, show (s.position q).emptied.levels = (.none, .normal) from rfl]
  by_cases he : (s.position q).levels = (.none, .normal)
  · rw [if_pos he, if_pos he.symm]; rfl
  · rw [if_neg he, if_neg (Ne.symm he)]; rfl

theorem State.cancelWindow_onlyTyresAndIntake : s.OnlyTyresAndIntake s.cancelWindow :=
  State.cancelWindow_frame

theorem State.retirePosition_onlyTyresAndIntake (q : Position) : s.OnlyTyresAndIntake (s.retirePosition q) := by
  rcases (s.position q).state.cases_bound with h | h | h
  · rw [State.retirePosition_empty h]; rfl
  · rw [State.retirePosition_learning h]; exact State.cancelWindow_onlyTyresAndIntake
  · rw [State.retirePosition_bound h]; exact (s.clearBound_spec q).1.andIntake

theorem State.retirePosition_candidates (q : Position) :
    (s.retirePosition q).intake.candidates = s.intake.candidates := by
  rcases (s.position q).state.cases_bound with h | h | h
  · rw [State.retirePosition_empty h]
  · rw [State.retirePosition_learning h]; exact State.cancelWindow_candidates
  · rw [State.retirePosition_bound h, State.clearBound_intake]

theorem State.retirePosition_self (hl : s.learnLaw) (q : Position) : ((s.retirePosition q).position q).state = .empty ∧
    ((s.retirePosition q).position q).pl = (s.position q).pl ∧
    ((s.retirePosition q).position q).pe = (s.position q).pe := by
  rw [State.retirePosition_position hl]
  split
  · exact ⟨rfl, rfl, rfl⟩
  · rename_i h
    exact ⟨by simpa using h, rfl, rfl⟩

/-- R24, R40: retiring a LEARNING position is a cancel. -/
theorem State.retirePosition_of_learning (hl : s.learnLaw) (h : (s.position q).state = .learning) :
    (s.retirePosition q).intake.window = none ∧ (s.retirePosition q).tyres.pairs = s.tyres.pairs ∧
      (s.retirePosition q).port.notices = { s.port.notices with learnResult := some (.cancelled, q) } := by
  obtain ⟨w, hw, rfl⟩ := State.window_of_learning hl h
  rw [State.retirePosition_learning h, State.cancelWindow_some hw]
  exact ⟨rfl, rfl, rfl⟩

/-! ### Adopting -/

/-- R45: under the law of the list an ID names one candidate. -/
theorem find_candidate {l : List Candidate} {c : Candidate} {id : SensorId}
    (hl : (l.map fun c => c.bound.id).Nodup) (hc : c ∈ l) (h : c.bound.id = id) :
    l.find? (fun c => decide (c.bound.id = id)) = some c := by
  cases hf : l.find? fun c => decide (c.bound.id = id) with
  | none =>
    rw [List.find?_eq_none] at hf
    exact absurd (decide_eq_true h) (hf c hc)
  | some d =>
    have hd := List.find?_some hf
    exact congrArg some (List.inj_on_of_nodup_map hl (List.mem_of_find?_eq_some hf) hc ((of_decide_eq_true hd).trans h.symm))

/-- R26: the table and the list that an adoption evaluates. -/
def State.adopted (s : State) (q : Position) (c : Candidate) : State :=
  (s.setPosition q ((s.position q).adopting c)).dropCandidate c.bound.id

theorem State.adopted_position (q : Position) (c : Candidate) (r : Position) : (s.adopted q c).position r =
    if r = q then (s.position q).adopting c else s.position r :=
  State.setPosition_position ..

theorem State.adoptCandidate_done {p : Params} {c : Candidate} (hq : Position.ofIndex (byteAt p 4) = some q)
    (hx : s.positionExists q = true) (he : (s.position q).state = .empty)
    (hf : (s.intake.candidates.find? fun c => decide (c.bound.id = idAt p 0)) = some c) :
    s.adoptCandidate p = (((s.adopted q c).evaluate q).settle, .done []) := by
  unfold State.adoptCandidate
  dsimp only
  rw [State.withPosition_own hq hx, if_neg (by simp [he]), hf]
  rfl

theorem State.adoptCandidate_conflict {p : Params} (hq : Position.ofIndex (byteAt p 4) = some q)
    (hx : s.positionExists q = true) (he : (s.position q).state ≠ .empty) :
    s.adoptCandidate p = (s, .refused .conflict (positionAt 4 (byteAt p 4) none)) := by
  unfold State.adoptCandidate
  dsimp only
  rw [State.withPosition_own hq hx, if_pos he]
  rfl

theorem State.adoptCandidate_unknown {p : Params} (hq : Position.ofIndex (byteAt p 4) = some q)
    (hx : s.positionExists q = true) (he : (s.position q).state = .empty)
    (hc : ∀ c ∈ s.intake.candidates, c.bound.id ≠ idAt p 0) :
    s.adoptCandidate p = (s, .refused .noSuchRecord (positionAt 0 (byteAt p 4) none)) := by
  have hf : (s.intake.candidates.find? fun c => decide (c.bound.id = idAt p 0)) = none :=
    List.find?_eq_none.2 fun c hm => by simpa using hc c hm
  unfold State.adoptCandidate
  dsimp only
  rw [State.withPosition_own hq hx, if_neg (by simp [he]), hf]
  rfl

/-- R10, R26: what an adoption leaves. -/
theorem State.adopted_evaluate (s : State) (q : Position) (c : Candidate) :
    s.OnlyTyresAndIntake ((s.adopted q c).evaluate q) ∧
    (∀ r, r ≠ q → ((s.adopted q c).evaluate q).position r = s.position r) ∧
    ((s.adopted q c).evaluate q).position q = (s.adopted q c).evaluatedRecord q ∧
    s.Evaluated ((s.adopted q c).evaluate q) q (s.position q) ∧
    ((s.adopted q c).evaluate q).intake = (s.adopted q c).intake := by
  have hq : (s.adopted q c).position q = (s.position q).adopting c := (s.adopted_position q c q).trans (if_pos rfl)
  have hb : ((s.adopted q c).position q).state.isBound = true := by rw [hq]; exact PositionRecord.adopting_isBound _ _
  refine ⟨State.OnlyTyresAndIntake.trans (t := s.adopted q c) rfl (State.evaluate_onlyTyres _).andIntake, fun r hr => ?_,
    State.evaluate_self hb, ?_, State.evaluate_intake _ _⟩
  · rw [State.evaluate_position_ne _ hr, State.adopted_position, if_neg hr]
  · refine (evaluate_evaluated _ _ hb).from rfl rfl rfl ?_
    rw [hq]; rfl

end

section
variable {s : State} {dt : Nat} {p : Params}

theorem exec_retireSensor (h : s.powered = true) : exec (.retireSensor dt p) s =
    .next ((s.elapse dt).request 0x28 p (exactly 1) (State.retireSensor p)) :=
  congrArg Host.Outcome.next (State.live_on h dt _)

theorem exec_adoptCandidate (h : s.powered = true) : exec (.adoptCandidate dt p) s =
    .next ((s.elapse dt).request 0x33 p (exactly 5) (State.adoptCandidate p)) :=
  congrArg Host.Outcome.next (State.live_on h dt _)

end

/-- Settles O39: the three states of a retired position, and the adoption of the one candidate with the ID. -/
theorem sensorsAreRetiredAndAdopted : Obligations.SensorsAreRetiredAndAdopted := by
  intro dt p s h
  rw [exec_retireSensor h, exec_adoptCandidate h]
  simp only [Host.Outcome.next.injEq]
  refine ⟨fun q hc hq hx hl => ?_, fun hc hi => ?_, fun q hc hq hx => ?_, fun q c hc hq hx he hl hm hid => ?_, fun hc hi => ?_,
    fun q hc hq => ⟨fun hx => ?_, fun hx he => ?_, fun hx he hn => ?_⟩⟩
  · have hown : (s.taken dt).retireSensor p = (((s.taken dt).retirePosition q).settle, .done []) :=
      State.withPosition_own (s := s.taken dt) hq hx
    obtain ⟨hself, hpl, hpe⟩ := State.retirePosition_self (s := s.taken dt) hl q
    refine ⟨_, State.request_done (by omega) (exactly_eq_true.2 hc) hown, State.retirePosition_onlyTyresAndIntake q,
      fun r hr => ?_, State.retirePosition_candidates q, hself, hpl, hpe, fun hb => ?_, fun hq => ?_, fun hq => ?_⟩
    · rw [State.retirePosition_position (s := s.taken dt) hl, if_neg fun hk => hr hk.1]; rfl
    · obtain ⟨-, h1, h2⟩ := (s.taken dt).clearBound_spec q
      have h3 := State.clearBound_position (s := s.taken dt) q q
      rw [if_pos rfl] at h3
      rw [State.retirePosition_bound (s := s.taken dt) hb]
      have h4 : s.PairsCompared ((s.taken dt).clearBound q) [q] := h2.from (fun _ _ => rfl) rfl
      refine ⟨h3, State.clearBound_intake q, h1, h4, ?_⟩
      rintro a sl rfl hn
      exact h4.unordered (List.mem_singleton.2 rfl) hn (by rw [h3]; simp [PositionRecord.emptied])
    · exact State.retirePosition_of_learning (s := s.taken dt) hl hq
    · exact State.retirePosition_empty (s := s.taken dt) hq
  · exact State.request_refused (by omega) (exactly_eq_true.2 hc) (State.withPosition_above hi)
  · exact State.request_refused (by omega) (exactly_eq_true.2 hc) (State.withPosition_missing (s := s.taken dt) hq hx)
  · obtain ⟨h1, h2, h3, h4, h5⟩ := (s.taken dt).adopted_evaluate q c
    refine ⟨_, State.request_done (by omega) (exactly_eq_true.2 hc)
      (State.adoptCandidate_done (s := s.taken dt) hq hx he (find_candidate hl.2 hm hid)), h1, h2, ?_⟩
    have hr : ((s.taken dt).adopted q c).position q = (s.position q).adopting c :=
      ((s.taken dt).adopted_position q c q).trans (if_pos rfl)
    rw [h3, h5, ← hid]
    unfold State.evaluatedRecord
    rw [hr]
    exact ⟨rfl, rfl, rfl, rfl, rfl, rfl, rfl, rfl, rfl, h4.from rfl rfl rfl rfl, rfl, rfl⟩
  · exact State.request_refused (by omega) (exactly_eq_true.2 hc) (State.withPosition_above hi)
  · exact State.request_refused (by omega) (exactly_eq_true.2 hc) (State.withPosition_missing (s := s.taken dt) hq hx)
  · exact State.request_refused (by omega) (exactly_eq_true.2 hc)
      (State.adoptCandidate_conflict (s := s.taken dt) hq hx he)
  · exact State.request_refused (by omega) (exactly_eq_true.2 hc)
      (State.adoptCandidate_unknown (s := s.taken dt) hq hx he hn)

end Sys2Proof.Machine
end

section
/-! SUPPORT. Swap Positions (R10, R15, R18, R22, R23). -/
namespace Sys2Proof.Machine

/-! ### Two comparisons, one after the other -/

/-- R18: a comparison of a pair that has just been compared changes nothing. -/
theorem judgedPair_judgedPair (x : PairState) (delta d : Nat) :
    judgedPair (judgedPair x delta d) delta d = judgedPair x delta d := by
  unfold judgedPair
  by_cases h1 : delta < d
  · simp [h1]
  · by_cases h2 : x = .mismatched ∧ delta < d + 20
    · simp [h1, h2]
    · simp [h1, h2]

section
variable {s t u : State} {a b : AxleId} {sd : Side} {sl : Slot} {l l' : List Position}

theorem State.setPair_comparedPair (a : AxleId) (sd : Side) (x : PairState) : (s.setPair a sd x).comparedPair a sd =
    match s.judgeable (s.position (.road a sd.inner)), s.judgeable (s.position (.road a sd.outer)) with
    | some i, some o => judgedPair x s.settings.pairDelta (absDiff i o)
    | _, _ => .unordered := by
  have : (s.setPair a sd x).pair a sd = x := by rw [State.setPair_pair, if_pos ⟨rfl, rfl⟩]
  unfold State.comparedPair
  rw [this]
  rfl

theorem State.setPair_comparedPair_idem (a : AxleId) (sd : Side) (x : PairState) :
    (s.setPair a sd ((s.setPair a sd x).comparedPair a sd)).comparedPair a sd = (s.setPair a sd x).comparedPair a sd := by
  simp only [State.setPair_comparedPair]
  cases s.judgeable (s.position (.road a sd.inner)) with
  | none => rfl
  | some i =>
    cases s.judgeable (s.position (.road a sd.outer)) with
    | none => rfl
    | some o => exact judgedPair_judgedPair _ _ _

/-- R18: a pair that a list of positions reaches. -/
def reachesPair (l : List Position) (a : AxleId) (sd : Side) : Prop := ∃ sl : Slot, sl.side = sd ∧ .road a sl ∈ l

/-- R18: the pairs after one comparison. -/
theorem State.PairsCompared.pair_eq (h : s.PairsCompared u l) (a : AxleId) (sd : Side) :
    (u.pair a sd = s.pair a sd ∧ (s.pair a sd = .notAPair ∨ ¬reachesPair l a sd)) ∨
      (s.pair a sd ≠ .notAPair ∧ reachesPair l a sd ∧
        u.pair a sd = (u.setPair a sd (s.pair a sd)).comparedPair a sd) := by
  by_cases hn : s.pair a sd = .notAPair
  · exact .inl ⟨h.kept a sd (.inl hn), .inl hn⟩
  · by_cases hl : reachesPair l a sd
    · obtain ⟨sl, rfl, hm⟩ := hl
      exact .inr ⟨hn, ⟨sl, rfl, hm⟩, h.compared a sl hm hn⟩
    · exact .inl ⟨h.kept a sd (.inr fun sl hs hm => hl ⟨sl, hs, hm⟩), .inr hl⟩

/-- R18: two comparisons on the same records. -/
theorem State.PairsCompared.append (h : s.PairsCompared t l) (k : t.PairsCompared u l')
    (hq : ∀ q, u.position q = t.position q) (hm : u.inputs.motion = t.inputs.motion)
    (hd : u.settings.pairDelta = t.settings.pairDelta) : s.PairsCompared u (l ++ l') := by
  have hj : ∀ a sd x, (u.setPair a sd x).comparedPair a sd = (t.setPair a sd x).comparedPair a sd := fun a sd x =>
    comparedPair_congr (by rw [State.setPair_pair, State.setPair_pair, if_pos ⟨rfl, rfl⟩, if_pos ⟨rfl, rfl⟩]) hq hm hd
  have hmove : ∀ a sd, t.pair a sd ≠ s.pair a sd → u.pair a sd = t.pair a sd := fun a sd hne => by
    rcases h.pair_eq a sd with ⟨h1, -⟩ | ⟨-, -, h1⟩
    · exact absurd h1 hne
    · rcases k.pair_eq a sd with ⟨k1, -⟩ | ⟨-, -, k1⟩
      · exact k1
      · rw [k1, hj, h1, State.setPair_comparedPair_idem]
  refine ⟨fun a sl hl hn => ?_, fun a sd hk => ?_, fun i => ?_⟩
  · rw [hj]
    rcases h.pair_eq a sl.side with ⟨h1, h2⟩ | ⟨-, -, h1⟩
    · have hl' : .road a sl ∈ l' := (List.mem_append.1 hl).resolve_left fun hc =>
        h2.elim hn fun hr => hr ⟨sl, rfl, hc⟩
      rw [k.compared a sl hl' (by rw [h1]; exact hn), hj, h1]
    · rcases k.pair_eq a sl.side with ⟨k1, -⟩ | ⟨-, -, k1⟩
      · rw [k1, h1]
      · rw [k1, hj, h1, State.setPair_comparedPair_idem]
  · have h1 : t.pair a sd = s.pair a sd := h.kept a sd (hk.imp_right fun hr sl hs hm => hr sl hs (List.mem_append_left _ hm))
    rw [k.kept a sd, h1]
    rw [h1]
    exact hk.imp_right fun hr sl hs hm => hr sl hs (List.mem_append_right _ hm)
  · rw [k.notice i, h.notice i, or_assoc]
    refine or_congr_right ⟨?_, ?_⟩
    · rintro (⟨a, sd, rfl, h1, h2⟩ | ⟨a, sd, rfl, h1, h2⟩)
      · exact ⟨a, sd, rfl, by rw [hmove a sd (by rw [h1]; exact Ne.symm h2), h1], h2⟩
      · refine ⟨a, sd, rfl, h1, fun hc => h2 ?_⟩
        by_contra hne
        exact h2 (by rw [← hmove a sd (by rw [hc]; exact hne)]; exact h1)
    · rintro ⟨a, sd, rfl, h1, h2⟩
      by_cases hc : t.pair a sd = .mismatched
      · exact .inl ⟨a, sd, rfl, hc, h2⟩
      · exact .inr ⟨a, sd, rfl, h1, hc⟩

end

/-! ### The swap -/

section
variable {s : State}

/-- R22: the record that a swap leaves of a position that has received a sensor, or none. -/
theorem State.judgeSwapped_position (p q : Position) : (s.judgeSwapped p).position q =
    if q = p then if (s.position p).state.isBound then s.evaluatedRecord p else (s.position p).cleared
    else s.position q := by
  unfold State.judgeSwapped
  split <;> exact State.setPosition_position ..

theorem State.judgeSwapped_onlyTyres (p : Position) : s.OnlyTyres (s.judgeSwapped p) := by
  unfold State.judgeSwapped; split <;> rfl

theorem State.judgeSwapped_pairs (p : Position) : (s.judgeSwapped p).tyres.pairs = s.tyres.pairs := by
  unfold State.judgeSwapped; split <;> rfl

theorem State.judgeSwapped_notices (p : Position) : (s.judgeSwapped p).port = s.port := by
  unfold State.judgeSwapped; split <;> rfl

/-- R11: a setpoint hangs on its own record and on the loads. -/
theorem State.setpointAt_congr {t : State} {q : Position} (hl : t.loads = s.loads) (hpl : (t.position q).pl = (s.position q).pl)
    (hpe : (t.position q).pe = (s.position q).pe) : t.setpointAt q = s.setpointAt q := by
  cases q <;> simp only [State.setpointAt, State.loadRatioAt, State.axle, State.group, hl, hpl, hpe]

theorem State.evaluatedRecord_congr {t : State} {q : Position} (hl : t.loads = s.loads) (hs : t.settings = s.settings)
    (hq : t.position q = s.position q) : t.evaluatedRecord q = s.evaluatedRecord q := by
  unfold State.evaluatedRecord
  rw [hq, hs, State.setpointAt_congr hl (by rw [hq]) (by rw [hq])]

/-- R22: the records after the exchange, judged. -/
def State.swapped (s : State) (a b : Position) : State := ((s.exchange a b).judgeSwapped a).judgeSwapped b

theorem State.swapped_onlyTyres (a b : Position) : s.OnlyTyres (s.swapped a b) :=
  State.OnlyTyres.trans (t := s.exchange a b) rfl
    ((State.judgeSwapped_onlyTyres a).trans (State.judgeSwapped_onlyTyres b))

theorem State.swapped_position {a b : Position} (hab : a ≠ b) (q : Position) : (s.swapped a b).position q =
    if q = a ∨ q = b then
      if (s.position (Equiv.swap a b q)).state.isBound then (s.exchange a b).evaluatedRecord q
      else ((s.exchange a b).position q).cleared
    else s.position q := by
  have hst : ∀ r, ((s.exchange a b).position r).state = (s.position (Equiv.swap a b r)).state := fun r => by
    rw [State.exchange_position hab]; rfl
  have hb : ((s.exchange a b).judgeSwapped a).position b = (s.exchange a b).position b := by
    rw [State.judgeSwapped_position, if_neg (Ne.symm hab)]
  have hj := State.judgeSwapped_onlyTyres (s := s.exchange a b) a
  unfold State.swapped
  rw [State.judgeSwapped_position, hb, State.evaluatedRecord_congr hj.loads hj.settings hb]
  by_cases hqb : q = b
  · subst hqb
    rw [hst, if_pos (rfl : q = q), if_pos (Or.inr (rfl : q = q))]
  · rw [if_neg hqb, State.judgeSwapped_position]
    by_cases hqa : q = a
    · subst hqa
      rw [hst, if_pos (rfl : q = q), if_pos (Or.inl (rfl : q = q))]
    · rw [if_neg hqa, if_neg (by simp [hqa, hqb]), State.exchange_position hab, Equiv.swap_apply_of_ne_of_ne hqa hqb]
      rfl

theorem State.swap_eq (a b : Position) : s.swap a b =
    ((((s.swapped a b).noteLevels a (s.position a)).noteLevels b (s.position b)).comparePairOf a).comparePairOf b := rfl

theorem State.swap_position (a b q : Position) : (s.swap a b).position q = (s.swapped a b).position q := by
  simp only [State.swap_eq, State.comparePairOf_position, State.noteLevels_position]

theorem State.swap_onlyTyres (a b : Position) : s.OnlyTyres (s.swap a b) := by
  rw [State.swap_eq]
  exact ((((State.swapped_onlyTyres a b).trans (State.noteLevels_onlyTyres _ _)).trans (State.noteLevels_onlyTyres _ _)).trans
    (State.comparePairOf_onlyTyres _)).trans (State.comparePairOf_onlyTyres _)

theorem State.comparePairOf_tyreLevel (p : Position) :
    (s.comparePairOf p).port.notices.tyreLevel = s.port.notices.tyreLevel := by
  obtain ⟨pairs, m, h⟩ := comparePairOf_frame s p
  rw [h]; rfl

theorem State.noteLevels_tyreLevel (p : Position) (r : PositionRecord) : (s.noteLevels p r).port.notices.tyreLevel =
    s.port.notices.tyreLevel ||| s.levelBit p r := by
  unfold State.noteLevels State.levelBit
  split
  · simp
  · rfl

theorem State.noteLevels_pairMismatch (p : Position) (r : PositionRecord) :
    (s.noteLevels p r).port.notices.pairMismatch = s.port.notices.pairMismatch := by
  unfold State.noteLevels; split <;> rfl

theorem State.levelBit_congr {t : State} {p : Position} (h : t.position p = s.position p) (r : PositionRecord) :
    t.levelBit p r = s.levelBit p r := by
  unfold State.levelBit; rw [h]

theorem State.swapped_port (a b : Position) : (s.swapped a b).port = s.port := by
  unfold State.swapped
  rw [State.judgeSwapped_notices, State.judgeSwapped_notices]
  rfl

theorem State.swapped_pairs (a b : Position) : (s.swapped a b).tyres.pairs = s.tyres.pairs := by
  unfold State.swapped
  rw [State.judgeSwapped_pairs, State.judgeSwapped_pairs]
  rfl

theorem State.swap_tyreLevel (a b : Position) : (s.swap a b).port.notices.tyreLevel =
    s.port.notices.tyreLevel ||| (s.swap a b).levelBit a (s.position a) ||| (s.swap a b).levelBit b (s.position b) := by
  rw [State.levelBit_congr (State.swap_position a b a), State.levelBit_congr (State.swap_position a b b), State.swap_eq,
    State.comparePairOf_tyreLevel, State.comparePairOf_tyreLevel, State.noteLevels_tyreLevel, State.noteLevels_tyreLevel,
    State.swapped_port, State.levelBit_congr (s := s.swapped a b) (State.noteLevels_position _ _ _ _)]

theorem State.OnlyTyres.inputs {t : State} (h : s.OnlyTyres t) : t.inputs = s.inputs := by rw [h]; rfl

theorem State.swap_pairsCompared (a b : Position) : s.PairsCompared (s.swap a b) [a, b] := by
  rw [State.swap_eq]
  have h := comparePairOf_compared (((s.swapped a b).noteLevels a (s.position a)).noteLevels b (s.position b)) a
  have k := comparePairOf_compared
    ((((s.swapped a b).noteLevels a (s.position a)).noteLevels b (s.position b)).comparePairOf a) b
  have ht := State.comparePairOf_onlyTyres
    (s := (((s.swapped a b).noteLevels a (s.position a)).noteLevels b (s.position b)).comparePairOf a) b
  refine (h.append k (fun q => State.comparePairOf_position _ _ _) (by rw [ht.inputs]) (by rw [ht.settings])).from
    (fun c sd => ?_) ?_
  · unfold State.pair
    rw [State.noteLevels_tyres, State.noteLevels_tyres, State.swapped_pairs]
  · rw [State.noteLevels_pairMismatch, State.noteLevels_pairMismatch, State.swapped_port]

/-- R10, R22: a swap judges a record that has received a sensor from the levels it has received. -/
theorem State.swap_judged {a b x y : Position} (hab : a ≠ b) (hx : x = a ∨ x = b) (hy : Equiv.swap a b x = y)
    (hb : (s.position y).state.isBound = true) : (s.swap a b).JudgedFrom x (s.position y) := by
  have hr : (s.swap a b).position x = (s.exchange a b).evaluatedRecord x := by
    rw [State.swap_position, State.swapped_position hab, if_pos hx, hy, if_pos hb]
  have he : (s.exchange a b).position x = (s.position x).withSensorOf (s.position y) := by
    rw [State.exchange_position hab, hy]
  have ht : (s.exchange a b).OnlyTyres (s.swap a b) := State.swap_onlyTyres a b
  have hset : (s.swap a b).setpointAt x = (s.exchange a b).setpointAt x :=
    State.setpointAt_congr ht.loads (by rw [hr]; rfl) (by rw [hr]; rfl)
  refine ⟨?_, ?_, ?_⟩
  · rw [hset, hr]; rfl
  · rw [hset, hr]; unfold State.evaluatedRecord; rw [he]; rfl
  · rw [ht.settings, hr]; unfold State.evaluatedRecord; rw [he]; rfl

/-- R22: what a swapped record holds of its sensor: all of the other's but the levels, whatever is judged of it. -/
theorem State.swap_record {a b x y : Position} (hab : a ≠ b) (hx : x = a ∨ x = b) (hy : Equiv.swap a b x = y) :
    (s.swap a b).position x = if (s.position y).state.isBound then
      (s.exchange a b).evaluatedRecord x else ((s.position x).withSensorOf (s.position y)).cleared := by
  rw [State.swap_position, State.swapped_position hab, if_pos hx, hy, State.exchange_position hab, hy]

theorem State.swap_spec {a b x y : Position} (hab : a ≠ b) (hx : x = a ∨ x = b) (hy : Equiv.swap a b x = y)
    (hl : (s.position y).state ≠ .learning) :
    let u := s.swap a b
    (u.position x).pl = (s.position x).pl ∧ (u.position x).pe = (s.position x).pe ∧
      (u.position x).state = (s.position y).state ∧ (u.position x).bound = (s.position y).bound ∧
      ((s.position y).state = .empty →
        (u.position x).pressure = none ∧ (u.position x).temperature = none ∧ (u.position x).age = none ∧
          (u.position x).pressureLevel = .none ∧ (u.position x).temperatureLevel = .normal ∧
          (u.position x).batteryLow = false ∧ (u.position x).fastLoss = false ∧ (u.position x).expected = none) ∧
      ((s.position y).state ≠ .empty →
        (u.position x).pressure = (s.position y).pressure ∧
          (u.position x).temperature = (s.position y).temperature ∧ (u.position x).age = (s.position y).age ∧
          (u.position x).batteryLow = (s.position y).batteryLow ∧
          (u.position x).fastLoss = (s.position y).fastLoss ∧ u.JudgedFrom x (s.position y)) := by
  have hr := s.swap_record hab hx hy
  dsimp only
  rcases (s.position y).state.cases_bound with he | he | he
  · rw [he, if_neg (by simp [PositionState.isBound])] at hr
    rw [hr]
    exact ⟨rfl, rfl, rfl, rfl, fun _ => ⟨rfl, rfl, rfl, rfl, rfl, rfl, rfl, rfl⟩, fun hn => absurd he hn⟩
  · exact absurd he hl
  · have hj := State.swap_judged hab hx hy he
    have hxe : (s.exchange a b).position x = (s.position x).withSensorOf (s.position y) := by
      rw [State.exchange_position hab, hy]
    rw [if_pos he] at hr
    rw [hr]
    unfold State.evaluatedRecord
    rw [hxe]
    refine ⟨rfl, rfl, rfl, rfl, fun hn => ?_, fun _ => ⟨rfl, rfl, rfl, rfl, rfl, hj⟩⟩
    rw [hn] at he; cases he

/-! ### The request -/

variable {p : Params} {a b : Position} {i j : Nat}

theorem State.swapPositions_of (hi : Position.ofIndex (byteAt p 0) = some a) (hj : Position.ofIndex (byteAt p 1) = some b)
    (hab : a ≠ b) : s.swapPositions p =
      if !s.positionExists a then s.refuse .noSuchRecord (positionAt 0 (byteAt p 0) none)
      else if !s.positionExists b then s.refuse .noSuchRecord (positionAt 1 (byteAt p 1) none)
      else if (s.position a).state = .learning then s.refuse .conflict (positionAt 0 (byteAt p 0) none)
      else if (s.position b).state = .learning then s.refuse .conflict (positionAt 1 (byteAt p 1) none)
      else (s.swap a b).carry noData := by
  simp only [State.swapPositions, hi, hj, if_neg hab]

theorem State.swapPositions_above_first (h : 21 < byteAt p 0) :
    s.swapPositions p = (s, .refused .badParameter (positionAt 0 (byteAt p 0) none)) := by
  simp only [State.swapPositions, Position.ofIndex_none h]
  rfl

theorem State.swapPositions_above_second (hi : byteAt p 0 ≤ 21) (h : 21 < byteAt p 1) :
    s.swapPositions p = (s, .refused .badParameter (positionAt 1 (byteAt p 1) none)) := by
  obtain ⟨a, ha⟩ := Position.ofIndex_some hi
  simp only [State.swapPositions, Position.ofIndex_none h, ha]
  rfl

theorem State.swapPositions_same (hi : byteAt p 0 ≤ 21) (h : byteAt p 0 = byteAt p 1) :
    s.swapPositions p = (s, .refused .badParameter (sameSwapNamed (byteAt p 0))) := by
  obtain ⟨a, ha⟩ := Position.ofIndex_some hi
  have hb := ha
  rw [h] at hb
  simp only [State.swapPositions, ha, hb, if_true]
  rfl

end

theorem exec_swapPositions {s : State} {dt : Nat} {p : Params} (h : s.powered = true) : exec (.swapPositions dt p) s =
    .next ((s.elapse dt).request 0x27 p (exactly 2) (State.swapPositions p)) :=
  congrArg Host.Outcome.next (State.live_on h dt _)

/-- Settles O38: each of the two records takes what the other held, and both pairs are compared. -/
theorem swapExchangesTheSensors : Obligations.SwapExchangesTheSensors := by
  intro dt p s i j h hc hi hj
  subst hi hj
  rw [exec_swapPositions h]
  simp only [Host.Outcome.next.injEq]
  have refused : ∀ {c n}, (s.taken dt).swapPositions p = (s.taken dt, .refused c n) →
      (s.elapse dt).request 0x27 p (exactly 2) (State.swapPositions p) = (s.taken dt).turnedAway 0x27 c n :=
    fun ho => State.request_refused (by omega) (exactly_eq_true.2 hc) ho
  refine ⟨fun a b ha hb hab hxa hxb hla hlb => ?_, fun hi => refused (State.swapPositions_above_first hi),
    fun hi hj => refused (State.swapPositions_above_second hi hj), fun hi he => refused (State.swapPositions_same hi he),
    fun a b ha hb hab => ?_⟩
  · have hown : (s.taken dt).swapPositions p = (((s.taken dt).swap a b).settle, .done []) := by
      rw [State.swapPositions_of ha hb hab]
      have h1 : (s.taken dt).positionExists a = true := hxa
      have h2 : (s.taken dt).positionExists b = true := hxb
      rw [h1, h2]
      exact (if_neg hla).trans (if_neg hlb)
    refine ⟨_, State.request_done (by omega) (exactly_eq_true.2 hc) hown, State.swap_onlyTyres a b, fun q hqa hqb => ?_,
      State.swap_tyreLevel a b, (State.swap_pairsCompared (s := s.taken dt) a b).from (fun _ _ => rfl) rfl,
      fun x y hxy => ?_⟩
    · rw [State.swap_position, State.swapped_position hab, if_neg (by simp [hqa, hqb])]; rfl
    · rcases hxy with ⟨rfl, rfl⟩ | ⟨rfl, rfl⟩
      · exact State.swap_spec (s := s.taken dt) hab (.inl rfl) (Equiv.swap_apply_left ..) hlb
      · exact State.swap_spec (s := s.taken dt) hab (.inr rfl) (Equiv.swap_apply_right ..) hla
  · have hown := State.swapPositions_of (s := s.taken dt) ha hb hab
    refine ⟨fun hxa => refused (hown.trans ?_), fun hxa hxb => refused (hown.trans ?_),
      fun hxa hxb hla => refused (hown.trans ?_), fun hxa hxb hla hlb => refused (hown.trans ?_)⟩
    · rw [show (s.taken dt).positionExists a = false from hxa]; rfl
    · rw [show (s.taken dt).positionExists a = true from hxa, show (s.taken dt).positionExists b = false from hxb]; rfl
    · rw [show (s.taken dt).positionExists a = true from hxa, show (s.taken dt).positionExists b = true from hxb]
      exact if_pos hla
    · rw [show (s.taken dt).positionExists a = true from hxa, show (s.taken dt).positionExists b = true from hxb]
      exact (if_neg hla).trans (if_pos hlb)

end Sys2Proof.Machine
end

section
/-! SUPPORT. The read requests, field by field (R3, R127, R141, R164, R165, R167). -/
namespace Sys2Proof.Machine

/-! ### Fields -/

theorem decide_toNat_mul (p : Prop) [Decidable p] (n : Nat) : n * (decide p).toNat = if p then n else 0 := by
  by_cases h : p <;> simp [h]

theorem toNat_mul_eq_ite (b : Bool) (n : Nat) : n * b.toNat = if b then n else 0 := by cases b <;> simp

/-- Bit `i` of a set of flags is flag `i`. -/
theorem testBit_flagBits (l : List Bool) (i : Nat) : (flagBits l).testBit i = l.getD i false := by
  induction l generalizing i with
  | nil => simp [flagBits]
  | cons b l ih =>
    have hf : flagBits (b :: l) = b.toNat + 2 * flagBits l := rfl
    cases i with
    | zero => rw [hf, Nat.testBit_zero]; cases b <;> simp [Nat.add_mod]
    | succ i =>
      rw [hf, Nat.testBit_succ, List.getD_cons_succ, ← ih]
      congr 1
      cases b <;> simp
      omega

theorem flagBits_lt (l : List Bool) : flagBits l < 2 ^ l.length := by
  induction l with
  | nil => simp [flagBits]
  | cons b l ih =>
    have hf : flagBits (b :: l) = b.toNat + 2 * flagBits l := rfl
    rw [hf, List.length_cons, Nat.pow_succ]
    cases b <;> simp <;> omega

theorem bytes2_length (n : Nat) : (bytes2 n).length = 2 := rfl
theorem bytes4_length (n : Nat) : (bytes4 n).length = 4 := rfl
theorem opt2_length (x : Option Nat) : (opt2 x).length = 2 := rfl
theorem acceleration_length (x : Option Int) : (acceleration x).length = 2 := by cases x <;> rfl
theorem fallbackBytes_length (x : Option FallbackCause) : (fallbackBytes x).length = 2 := by
  cases x with
  | none => rfl
  | some x => cases x <;> rfl

theorem acceleration_some (v : Int) : acceleration (some v) = bytes2 (v % 65536).toNat := by
  rw [acceleration, BitVec.toNat_ofInt]
  rfl

/-! ### The records of the reads -/

section
variable (s : State)

theorem State.ageField_eq (r : PositionRecord) : s.ageField r =
    if r.state = .learning ∧ s.intake.window.isSome = true then
      s.intake.window.map (fun w => (w.openedAt + 120000000 - s.now) / 1000000) else r.age := by
  unfold State.ageField
  cases hr : r.state <;> cases hw : s.intake.window <;> simp [State.windowRemaining, seconds]

theorem State.summaryFlags_eq (q : Position) : s.summaryFlags q = (s.position q).pressureLevel.code +
    (if (s.position q).temperatureLevel = .hot then 8 else 0) + (if (s.position q).batteryLow then 16 else 0) +
      (if (s.position q).fastLoss then 32 else 0) + 64 * (s.pairOf q).code := by
  simp only [State.summaryFlags, toNat_mul_eq_ite, decide_eq_true_eq]

theorem State.positionData_eq (q : Position) (r : PositionRecord) (h : s.position q = r) : s.positionData q =
    [byte q.index, if s.positionExists q = true then byte r.state.code else 0xFF] ++
      bytes4 ((r.bound.map fun b => b.id.toNat).getD 0) ++ [byte ((r.bound.map fun b => b.kind.code).getD 0)] ++
      opt2 r.pressure ++ [opt1 (r.temperature.map fun t => (t + 50).toNat)] ++
      opt2 (if r.state = .learning ∧ s.intake.window.isSome = true then
        s.intake.window.map (fun w => (w.openedAt + 120000000 - s.now) / 1000000) else r.age) ++
      [byte (r.pressureLevel.code + (if r.temperatureLevel = .hot then 8 else 0) + (if r.batteryLow then 16 else 0) +
        (if r.fastLoss then 32 else 0) + 64 * (s.pairOf q).code)] ++
      bytes2 r.pl ++ opt2 r.pe ++ opt2 r.expected := by
  subst h
  unfold State.positionData State.positionSummary
  dsimp only
  rw [State.summaryFlags_eq, State.ageField_eq]
  cases s.positionExists q <;> rfl

theorem AxleLayout.flags_eq (x : AxleLayout) : x.flags = x.present.toNat + 2 * x.dual.toNat + 4 * x.liftable.toNat +
    8 * x.valve2.toNat + (if x.group = .g2 then 16 else 0) + 32 * x.brakeX.toNat := by
  rw [← decide_toNat_mul]
  simp only [AxleLayout.flags, flagBits, List.foldr_cons, List.foldr_nil]
  omega

theorem sensorNibble_eq (w : Option WheelId) : sensorNibble w = (w.map WheelId.number).getD 0 := by
  cases w <;> rfl

theorem State.transitionLeft_eq (a : AxleId) : s.transitionLeft a =
    if (s.axle a).lift = .raising then some (((s.axle a).liftSince + 3000000 - s.now) / 1000)
    else if (s.axle a).lift = .lowering then some (((s.axle a).liftSince + 2000000 - s.now) / 1000) else none := by
  unfold State.transitionLeft
  cases (s.axle a).lift <;> rfl

theorem State.axleData_eq (a : AxleId) (r : AxleRecord) (h : s.axle a = r) : s.axleData a =
    [byte (r.layout.present.toNat + 2 * r.layout.dual.toNat + 4 * r.layout.liftable.toNat +
        8 * r.layout.valve2.toNat + (if r.layout.group = .g2 then 16 else 0) + 32 * r.layout.brakeX.toNat),
      byte ((r.layout.left.map WheelId.number).getD 0 * 16 + (r.layout.right.map WheelId.number).getD 0),
      byte r.mode.code, byte r.lift.code, if r.raisePending then 1 else 0] ++
      opt2 (if r.lift = .raising then some ((r.liftSince + 3000000 - s.now) / 1000)
        else if r.lift = .lowering then some ((r.liftSince + 2000000 - s.now) / 1000) else none) := by
  subst h
  unfold State.axleData AxleRecord.layoutBytes
  rw [State.transitionLeft_eq, AxleLayout.flags_eq, sensorNibble_eq, sensorNibble_eq]
  cases (s.axle a).raisePending <;> rfl

theorem GroupRecord.causes_eq (r : GroupRecord) : r.causes = r.holdStart.toNat + 2 * r.holdTransition.toNat +
    4 * r.holdRoll.toNat + 8 * r.holdSensor.toNat := by
  simp only [GroupRecord.causes, flagBits, List.foldr_cons, List.foldr_nil]
  omega

theorem State.pendingSet_eq : flagBits (AxleId.list.map fun a => (s.axle a).raisePending) =
    (s.axle .a1).raisePending.toNat + 2 * (s.axle .a2).raisePending.toNat + 4 * (s.axle .a3).raisePending.toNat +
      8 * (s.axle .a4).raisePending.toNat + 16 * (s.axle .a5).raisePending.toNat := by
  simp only [AxleId.list, List.map_cons, List.map_nil, flagBits, List.foldr_cons, List.foldr_nil]
  omega

theorem State.loadData_eq (g : GroupId) (r : GroupRecord) (k : Calibration) (hr : s.group g = r)
    (hk : s.calibration g = k) : s.loadData g =
    [byte r.status.code, byte (r.holdStart.toNat + 2 * r.holdTransition.toNat + 4 * r.holdRoll.toNat +
        8 * r.holdSensor.toNat)] ++
      bytes2 r.w ++ bytes2 r.l ++ [byte r.n] ++ bytes2 r.ratio ++ bytes2 k.pe ++ bytes2 k.pl ++ bytes2 k.we ++
      bytes2 k.wl ++ bytes2 k.re ++
      [byte ((s.axle .a1).raisePending.toNat + 2 * (s.axle .a2).raisePending.toNat +
        4 * (s.axle .a3).raisePending.toNat + 8 * (s.axle .a4).raisePending.toNat +
        16 * (s.axle .a5).raisePending.toNat)] ++
      bytes2 s.settings.knee ++ bytes2 s.settings.circumference ++ [byte s.settings.teeth] := by
  subst hr hk
  unfold State.loadData
  dsimp only
  rw [GroupRecord.causes_eq, State.pendingSet_eq]

theorem State.channelData_eq (c : ChannelId) (r : ChannelRecord) (h : s.channel c = r) : s.channelData c =
    bytes2 r.target ++ bytes2 r.driverPart ++ bytes2 r.cap ++ bytes2 (min r.target r.cap) ++ opt2 r.delivered ++
      [byte r.lock.code, byte (r.inlet.toNat + 2 * r.exhaust.toNat)] ++ opt2 r.wheelSpeed ++ opt2 r.slip ++
      [byte (r.wheelSpeed.isNone.toNat + 2 * r.suspended.toNat + 4 * r.suppressed.toNat +
        8 * r.inletMonitor.isSome.toNat + 16 * r.exhaustMonitor.isSome.toNat)] := by
  subst h
  have h2 : ∀ a b : Bool, flagBits [a, b] = a.toNat + 2 * b.toNat := fun a b => by simp [flagBits]
  have h5 : ∀ a b c d e : Bool, flagBits [a, b, c, d, e] =
      a.toNat + 2 * b.toNat + 4 * c.toNat + 8 * d.toNat + 16 * e.toNat := fun a b c d e => by
    simp only [flagBits, List.foldr_cons, List.foldr_nil]; omega
  unfold State.channelData
  dsimp only
  rw [h2, h5]
  rfl

theorem State.channelData_of_absent {c : ChannelId} (h : (s.channel c).delivered = none) : ∃ head tail, head.length = 8 ∧
    s.channelData c = head ++ [0xFF, 0xFF] ++ tail := by
  rw [State.channelData_eq s c _ rfl, h, opt2_none]
  simp only [List.append_assoc]
  exact ⟨bytes2 _ ++ (bytes2 _ ++ (bytes2 _ ++ bytes2 _)), _, rfl, rfl⟩

theorem State.modeData_eq : s.modeData = [byte s.channels.mode.code] ++ fallbackBytes s.channels.cause ++
    [if s.channels.redundancy then 1 else 0] ++ bytes2 s.inputFaultSet := by
  have hf : ∀ b, flag b = if b then 1 else 0 := fun b => by cases b <;> rfl
  simp only [State.modeData, hf]

theorem State.stabilityData_eq (x : Stability) (limit : Nat) (h : s.stability = x)
    (hl : limit = x.frozen.getD x.liveLimit) : s.stabilityData =
    [byte x.state.code] ++ acceleration x.accel ++
      bytes2 x.liveLimit ++ bytes2 x.lr ++ [byte x.derate] ++ opt2 x.frozen ++ bytes2 (600 * limit / 1000) ++
      bytes2 (500 * limit / 1000) ++ opt2 x.pInt ++ bytes2 x.pressure ++
      [opt1 (x.ramp.map fun r => if r.up then 1 else 2), opt1 (x.inner.map ChannelId.number),
        opt1 (x.pulse.map Pulse.code)] ++
      opt2 (x.probeSince.map fun t => (t + 300000 - s.now) / 1000) ++
      opt2 (x.lastNegative.map fun t => min 65535 ((s.now - t) / 1000)) ++
      [byte ((if (s.analog .lat).validity = .valid then 1 else 0) + 2 * x.exitSince.isSome.toNat +
        4 * x.latSince.isSome.toNat)] := by
  subst h hl
  have h3 : ∀ b c : Bool, flagBits [decide ((s.analog .lat).validity = .valid), b, c] =
      (if (s.analog .lat).validity = .valid then 1 else 0) + 2 * b.toNat + 4 * c.toNat := fun b c => by
    rw [← decide_toNat_mul]
    simp only [flagBits, List.foldr_cons, List.foldr_nil]; omega
  unfold State.stabilityData
  dsimp only
  rw [h3]
  rfl

theorem State.parameterData_eq (k : StabilityParameters) (h : s.settings.stability = k) : s.parameterData =
    bytes2 k.halfTrack ++ bytes2 k.heightEmpty ++ bytes2 k.heightLaden ++ bytes2 k.margin ++
      [if k.enable then 1 else 0] ++ bytes2 (heightInUse k s.stability.lr) ++
      bytes2 (staticThreshold k s.stability.lr) := by
  subst h
  have hf : ∀ b, flag b = if b then 1 else 0 := fun b => by cases b <;> rfl
  simp only [State.parameterData, hf]

theorem State.inputFaultSet_analog (i : AnalogId) : s.inputFaultSet.testBit i.number =
    (s.analogInUse i && decide ((s.analog i).validity = .invalid)) := by
  unfold State.inputFaultSet
  rw [testBit_flagBits]
  cases i <;> rfl

theorem State.inputFaultSet_wheel (w : WheelId) : s.inputFaultSet.testBit (7 + w.number) =
    (s.wheelInUse w && !(s.wheel w).valid) := by
  unfold State.inputFaultSet
  rw [testBit_flagBits]
  cases w <;> rfl

theorem State.inputFaultSet_lt : s.inputFaultSet < 16384 := by
  have h := flagBits_lt (AnalogId.list.map s.analogFault ++ WheelId.list.map s.wheelFault)
  rw [List.length_append, List.length_map, List.length_map] at h
  norm_num [AnalogId.list, WheelId.list] at h
  exact h

end

/-! ### Entries and absent fields -/

section
variable (s : State)

theorem State.entryData_fresh (x : Source) (d : Demand) (c : Nat) : s.entryData ⟨x, d, c, none⟩ =
    [byte x.code, byte (min 255 ((s.now - c) / 1000000))] ++ d.data := by
  unfold State.entryData State.secSince
  rw [List.append_nil]

theorem State.entryData_refreshed (x : Source) (d : Demand) (c r : Nat) : s.entryData ⟨x, d, c, some r⟩ =
    s.entryData ⟨x, d, c, none⟩ ++ [byte ((s.now - r) / 1000)] := by
  unfold State.entryData State.msSince
  rw [List.append_nil]

theorem Demand.data_whole (v : Nat) : Demand.data (.whole v) = bytes2 v := rfl

theorem Demand.data_channels (l : PerChannel Nat) :
    Demand.data (.channels l) = bytes2 l.chL ++ bytes2 l.chR ++ bytes2 l.chX := rfl

theorem State.stabilityData_of_absent (h : s.stability.accel = none) :
    ∃ tail, s.stabilityData = [byte s.stability.state.code, 0x80, 0x00] ++ tail := by
  rw [State.stabilityData_eq s _ _ rfl rfl, h, show acceleration none = [0x80, 0x00] from rfl]
  simp only [List.append_assoc, List.cons_append, List.nil_append, List.cons.injEq, true_and, exists_eq']

end

/-! ### Lengths -/

section
variable (s : State)

theorem State.positionData_length (q : Position) : (s.positionData q).length = 19 := by
  simp [State.positionData_eq s q _ rfl, bytes2_length, bytes4_length, opt2_length]

theorem State.axleData_length (a : AxleId) : (s.axleData a).length = 7 := by
  simp [State.axleData_eq s a _ rfl, opt2_length]

theorem State.loadData_length (g : GroupId) : (s.loadData g).length = 25 := by
  simp [State.loadData_eq s g _ _ rfl rfl, bytes2_length]

theorem State.channelData_length (c : ChannelId) : (s.channelData c).length = 17 := by
  simp [State.channelData_eq s c _ rfl, bytes2_length, opt2_length]

theorem State.modeData_length : s.modeData.length = 6 := by
  simp [State.modeData_eq, bytes2_length, fallbackBytes_length]

theorem State.stabilityData_length : s.stabilityData.length = 26 := by
  rw [State.stabilityData_eq s _ _ rfl rfl]
  simp [bytes2_length, opt2_length, acceleration_length]

theorem State.parameterData_length : s.parameterData.length = 13 := by
  simp [State.parameterData_eq s _ rfl, bytes2_length]

end

/-! ### Find Sensor -/

section
variable {s : State} {id : SensorId}

theorem State.found_bound {q : Position} (h : s.boundPosition id = some q) : s.found id = [1, byte q.index] := by
  simp only [State.found, h]

theorem State.found_candidate {i : Nat} (h : s.boundPosition id = none)
    (hi : candidateIndex s.intake.candidates id = some i) : s.found id = [2, byte (i + 1)] := by
  simp only [State.found, h, hi]

theorem State.found_none (h : s.boundPosition id = none) (hi : candidateIndex s.intake.candidates id = none) :
    s.found id = [0, 0xFF] := by
  simp only [State.found, h, hi]
  rfl

/-- R45: under the law of the list an ID stands at one place. -/
theorem candidateIndex_of_nodup {l : List Candidate} {i : Nat} {c : Candidate}
    (hl : (l.map fun c => c.bound.id).Nodup) (hc : l[i]? = some c) (h : c.bound.id = id) :
    candidateIndex l id = some i := by
  cases hf : candidateIndex l id with
  | none => exact absurd h (candidateIndex_none.1 hf c (List.mem_of_getElem? hc))
  | some j =>
    obtain ⟨d, hd, he⟩ := candidateIndex_some hf
    have hm : (l.map fun c => c.bound.id)[j]? = (l.map fun c => c.bound.id)[i]? := by
      simp [hd, hc, he, h]
    obtain ⟨hj, -⟩ := List.getElem?_eq_some_iff.1 hd
    exact congrArg some ((List.getElem?_inj (by simpa using hj) hl).1 hm)

end

/-! ### The requests -/

section
variable {s : State} {dt : Nat} {p : Params}

/-- A read of a record that its selector names. -/
theorem State.request_tell {code n : Nat} {own : State → State × Answer} {named : Named} {data : State → List Byte}
    (hc : p.count = n) (hn : n ≤ 28) (ho : own (s.taken dt) = (s.taken dt).tell data) :
    (s.elapse dt).request code p (exactly n) own named = (s.taken dt).answered code (data (s.taken dt)) :=
  State.request_done (by omega) (exactly_eq_true.2 hc) ho

theorem State.request_refuse {code n : Nat} {own : State → State × Answer} {named m : Named} {c : RefusalCode}
    (hc : p.count = n) (hn : n ≤ 28) (ho : own (s.taken dt) = (s.taken dt).refuse c m) :
    (s.elapse dt).request code p (exactly n) own named = (s.taken dt).turnedAway code c m :=
  State.request_refused (by omega) (exactly_eq_true.2 hc) ho

theorem State.readBrakeState_channel {c : ChannelId} (h : ChannelId.ofNumber (byteAt p 0) = some c) :
    s.readBrakeState p = s.tell fun s => s.channelData c := by
  unfold State.readBrakeState
  unfold ChannelId.ofNumber at h
  split at h <;> cases h <;> simp [*]

theorem State.readBrakeState_above (h : 4 < byteAt p 0) : s.readBrakeState p = s.refuse .badParameter unnamed := by
  unfold State.readBrakeState
  split <;> first | omega | rfl

theorem State.readStability_above (h : 1 < byteAt p 0) : s.readStability p = s.refuse .badParameter unnamed := by
  unfold State.readStability
  split <;> first | omega | rfl

end

/-- Settles O33: the codes, the fields of each record, and the request that reads it. -/
theorem stateReadsAnswer : Obligations.StateReadsAnswer := by
  refine ⟨?_, fun s => ?_, fun dt p s h => ?_⟩
  · refine ⟨rfl, rfl, rfl, rfl, rfl, rfl, rfl, rfl, rfl, rfl, rfl, fun c => ⟨rfl, rfl, rfl⟩, rfl, rfl, rfl, rfl, rfl,
      fun n => ⟨rfl, rfl, rfl, rfl⟩, opt2_none, rfl, rfl, acceleration_some⟩
  · refine ⟨s.positionData_eq, fun a sl => rfl, rfl, rfl, s.axleData_eq, s.loadData_eq, rfl,
      fun x d c => ⟨fun v hv => ?_, fun l hl => ?_, fun r => ?_⟩, fun i => State.offered_eq_none, fun c hc => ?_,
      fun hl => ?_, s.channelData_eq, s.modeData_eq, s.inputFaultSet_analog, s.inputFaultSet_wheel, s.inputFaultSet_lt,
      s.stabilityData_eq, s.parameterData_eq⟩
    · rw [hv, State.entryData_fresh, Demand.data_whole]
    · rw [hl, State.entryData_fresh, Demand.data_channels, ← List.append_assoc, ← List.append_assoc]
    · exact s.entryData_refreshed x d c r
    · exact State.channelData_of_absent _ (by rw [State.followValves_delivered, State.pressureOf, hc]; rfl)
    · exact s.takeAccel.stabilityData_of_absent hl
  · refine ⟨fun q hc hq hx => ⟨?_, State.positionData_length _ q⟩, fun q hc hq hx => ?_, fun hc hi => ?_, fun hc hr => ?_,
      fun hc h0 h1 => ⟨fun q b hl hb hid => ?_, fun hn => ⟨fun i c hl hi hid => ?_, fun hcn => ?_⟩⟩,
      fun a hc ha => ⟨?_, State.axleData_length _ a⟩, fun hc ha => ?_, fun g hc hg => ⟨?_, State.loadData_length _ g⟩,
      fun hc hg => ?_, fun hc h0 => ?_, fun c hc hn => ⟨?_, State.channelData_length _ c⟩,
      fun hc h4 => ⟨?_, State.modeData_length _⟩, fun hc h4 => ?_, fun hc h0 => ⟨?_, State.stabilityData_length _⟩,
      fun hc h1 => ⟨?_, State.parameterData_length _⟩, fun hc h1 => ?_⟩
    all_goals refine congrArg Host.Outcome.next ((State.live_on h dt _).trans ?_)
    · exact State.request_tell (data := fun u => u.positionData q) hc (by omega)
        (by exact State.withPosition_own (s := s.taken dt) hq hx)
    · exact State.request_refuse hc (by omega) (by exact State.withPosition_missing (s := s.taken dt) hq hx)
    · exact State.request_refuse hc (by omega) (by exact State.withPosition_above hi)
    · exact State.request_refuse hc (by omega) (by exact if_pos (by simpa [reservedId] using hr))
    · refine (State.request_tell (data := fun u => u.found (idAt p 0)) hc (by omega) ?_).trans ?_
      · exact if_neg (by simp [reservedId, h0, h1])
      · rw [State.found_bound (s := s.taken dt) (hid ▸ State.boundPosition_of_bound (s := s.taken dt) hl hb)]
    · refine (State.request_tell (data := fun u => u.found (idAt p 0)) hc (by omega) ?_).trans ?_
      · exact if_neg (by simp [reservedId, h0, h1])
      · rw [State.found_candidate (State.boundPosition_of_free (s := s.taken dt) hn)
          (candidateIndex_of_nodup (l := (s.taken dt).intake.candidates) hl.2 hi hid)]
    · refine (State.request_tell (data := fun u => u.found (idAt p 0)) hc (by omega) ?_).trans ?_
      · exact if_neg (by simp [reservedId, h0, h1])
      · rw [State.found_none (State.boundPosition_of_free (s := s.taken dt) hn)
          (candidateIndex_none (l := (s.taken dt).intake.candidates).2 hcn)]
    · exact State.request_tell (data := fun u => u.axleData a) hc (by omega) (by simp only [ha])
    · exact State.request_refuse hc (by omega) (by simp only [ha])
    · exact State.request_tell (data := fun u => u.loadData g) hc (by omega) (by simp only [hg])
    · exact State.request_refuse hc (by omega) (by simp only [hg])
    · exact State.request_tell hc (by omega) (by simp only [State.readBrakeState, h0])
    · exact State.request_tell (data := fun u => u.channelData c) hc (by omega) (State.readBrakeState_channel hn)
    · exact State.request_tell hc (by omega) (by simp only [State.readBrakeState, h4])
    · exact State.request_refuse hc (by omega) (State.readBrakeState_above h4)
    · exact State.request_tell hc (by omega) (by simp only [State.readStability, h0])
    · exact State.request_tell hc (by omega) (by simp only [State.readStability, h1])
    · exact State.request_refuse hc (by omega) (State.readStability_above h1)

end Sys2Proof.Machine
end

section
/-! SUPPORT. Characters and telegrams (R28 to R34, R37, R43 to R45). -/
namespace Sys2Proof.Machine

/-! ### The check and the fields of a telegram -/

theorem crc8Shift_eq (c : Byte) : crc8Shift c = if c.getLsbD 7 = true then (c <<< 1) ^^^ 0x07#8 else c <<< 1 := by
  unfold crc8Shift
  rw [BitVec.msb_eq_getLsbD_last]

theorem crc8_append (l : List Byte) (b : Byte) (f : Byte → Byte)
    (hf : ∀ x, f x = if x.getLsbD 7 = true then (x <<< 1) ^^^ 0x07#8 else x <<< 1) :
    crc8 (l ++ [b]) = f (f (f (f (f (f (f (f (crc8 l ^^^ b)))))))) := by
  have : f = crc8Shift := funext fun x => (hf x).trans (crc8Shift_eq x).symm
  subst this
  exact List.foldl_append

theorem Reception.telegram_eq (x : Reception) : x.telegram =
    if x.synced = true ∧ x.bad = false ∧ x.chars.length = 10 then telegramOf x.chars else none := by
  unfold Reception.telegram
  refine if_congr ?_ rfl rfl
  simp [and_assoc]

/-- R29: the ID of four bytes. -/
theorem idBytes_lt (a b c d : Byte) : ((a.toNat * 256 + b.toNat) * 256 + c.toNat) * 256 + d.toNat < 4294967296 := by
  have := a.isLt; have := b.isLt; have := c.isLt; have := d.isLt
  omega

theorem telegramId_toNat (a b c d : Byte) : (BitVec.ofNat 32 (ofBytes2 a b * 65536 + ofBytes2 c d)).toNat =
    ((a.toNat * 256 + b.toNat) * 256 + c.toNat) * 256 + d.toNat := by
  have := idBytes_lt a b c d
  rw [BitVec.toNat_ofNat]
  unfold ofBytes2
  omega

theorem Byte.eq_iff_toNat (k : Byte) (n : Nat) (h : n < 256) : k = BitVec.ofNat 8 n ↔ k.toNat = n := by
  rw [← BitVec.toNat_inj, BitVec.toNat_ofNat, Nat.mod_eq_of_lt (by simpa using h)]

/-- R29: the kinds by the kind byte. -/
theorem kindOfByte_iff (k : Byte) : (kindOfByte k = .failed ↔ k.toNat = 0) ∧ (kindOfByte k = .sensor .valve ↔ k.toNat = 1) ∧
    (kindOfByte k = .sensor .rim ↔ k.toNat = 2) ∧ (kindOfByte k = .sensor .tread ↔ k.toNat = 3) ∧
    (kindOfByte k = .test ↔ k.toNat = 0xFF) ∧ (kindOfByte k = .unsupported ↔ 4 ≤ k.toNat ∧ k.toNat ≤ 0xFE) := by
  have hk := k.isLt
  unfold kindOfByte
  simp only [Byte.eq_iff_toNat k _ (by decide : 0 < 256), Byte.eq_iff_toNat k _ (by decide : 1 < 256),
    Byte.eq_iff_toNat k _ (by decide : 2 < 256), Byte.eq_iff_toNat k _ (by decide : 3 < 256),
    Byte.eq_iff_toNat k _ (by decide : 255 < 256)]
  split
  · simp; omega
  split
  · simp; omega
  split
  · simp; omega
  split
  · simp; omega
  split
  · simp; omega
  · simp; omega

theorem pressureField_table (n : Nat) : (n = 0xFFFF → pressureField n = none) ∧ (n ≤ 1400 → pressureField n = some n) ∧
    (1400 < n → n ≠ 0xFFFF → pressureField n = some 1400) := by
  unfold pressureField
  refine ⟨fun h => if_pos h, fun h => ?_, fun h h' => ?_⟩
  · rw [if_neg (by omega), Nat.min_eq_left h]
  · rw [if_neg h', Nat.min_eq_right (by omega)]

theorem temperatureField_table (n : Nat) : (200 < n → temperatureField n = none) ∧
    (n ≤ 9 → temperatureField n = some (-40)) ∧ (10 ≤ n → n ≤ 200 → temperatureField n = some ((n : Int) - 50)) := by
  unfold temperatureField
  refine ⟨fun h => if_pos h, fun h => ?_, fun h h' => ?_⟩
  · rw [if_neg (by omega), if_pos h]
  · rw [if_neg (by omega), if_neg (by omega)]

/-- R29: ten bytes that spell no telegram. -/
theorem telegramOf_eq_none {i0 i1 i2 i3 k p0 p1 t f c : Byte} :
    telegramOf [i0, i1, i2, i3, k, p0, p1, t, f, c] = none ↔ crc8 [i0, i1, i2, i3, k, p0, p1, t, f] ≠ c ∨
      ((i0.toNat * 256 + i1.toNat) * 256 + i2.toNat) * 256 + i3.toNat = 0 ∨
      ((i0.toNat * 256 + i1.toNat) * 256 + i2.toNat) * 256 + i3.toNat = 0xFFFFFFFF ∨ (4 ≤ k.toNat ∧ k.toNat ≤ 0xFE) := by
  have hid : ∀ n < 4294967296, (BitVec.ofNat 32 (ofBytes2 i0 i1 * 65536 + ofBytes2 i2 i3) = BitVec.ofNat 32 n ↔
      ((i0.toNat * 256 + i1.toNat) * 256 + i2.toNat) * 256 + i3.toNat = n) := fun n hn => by
    rw [← BitVec.toNat_inj, telegramId_toNat, BitVec.toNat_ofNat, Nat.mod_eq_of_lt (by simpa using hn)]
  have hk := (kindOfByte_iff k).2.2.2.2.2
  rw [← hk]
  unfold telegramOf
  simp only [ne_eq, hid 0 (by decide), hid 0xFFFFFFFF (by decide)]
  rw [ite_eq_right_iff]
  simp only [reduceCtorEq, imp_false, not_and_or, not_not]

/-- R29: the fields of a telegram. -/
theorem telegramOf_eq_some {i0 i1 i2 i3 k p0 p1 t f c : Byte} {x : Telegram}
    (h : telegramOf [i0, i1, i2, i3, k, p0, p1, t, f, c] = some x) : x =
      { id := BitVec.ofNat 32 (ofBytes2 i0 i1 * 65536 + ofBytes2 i2 i3), kind := kindOfByte k,
        pressure := pressureField (ofBytes2 p0 p1), temperature := temperatureField t.toNat, triggered := f.getLsbD 7,
        fastLoss := f.getLsbD 6, batteryLow := f.getLsbD 5, rotating := f.getLsbD 4 } := by
  simp only [telegramOf] at h
  split at h
  · exact (Option.some.inj h).symm
  · cases h

/-! ### Eviction -/

/-- R45: an entry that leaves the list before another: fewer sightings, else longer heard, else nearer the front. -/
def leavesFirst (i : Nat) (c : Candidate) (j : Nat) (d : Candidate) : Prop :=
  c.sightings < d.sightings ∨ (c.sightings = d.sightings ∧
    (d.firstHeard < c.firstHeard ∨ (d.firstHeard = c.firstHeard ∧ i ≤ j)))

theorem evictsBefore_iff {c d : Candidate} : evictsBefore c d = true ↔
    c.sightings < d.sightings ∨ (c.sightings = d.sightings ∧ d.firstHeard < c.firstHeard) := by
  simp [evictsBefore]

theorem evictedFrom_spec (rest pre : List Candidate) (d : Candidate) (best : Nat) (hb : best < pre.length)
    (hd : pre[best]? = some d) (hp : ∀ (j : Nat) (e : Candidate), pre[j]? = some e → leavesFirst best d j e) :
    ∃ c, (pre ++ rest)[evictedFrom d best pre.length rest]? = some c ∧
      ∀ (j : Nat) (e : Candidate), (pre ++ rest)[j]? = some e → leavesFirst (evictedFrom d best pre.length rest) c j e := by
  induction rest generalizing pre d best with
  | nil => rw [List.append_nil]; exact ⟨d, hd, hp⟩
  | cons c rest ih =>
    have hl : (pre ++ [c]).length = pre.length + 1 := by simp
    have happ : pre ++ c :: rest = (pre ++ [c]) ++ rest := by simp
    have hlast : (pre ++ [c])[pre.length]? = some c := by simp
    have hcases : ∀ (j : Nat) (e : Candidate), (pre ++ [c])[j]? = some e →
        (pre[j]? = some e ∧ j < pre.length) ∨ (j = pre.length ∧ e = c) := fun j e hj => by
      rcases Nat.lt_trichotomy j pre.length with h | h | h
      · rw [List.getElem?_append_left h] at hj; exact .inl ⟨hj, h⟩
      · rw [h, hlast] at hj; exact .inr ⟨h, (Option.some.inj hj).symm⟩
      · rw [List.getElem?_eq_none (by omega)] at hj; cases hj
    unfold evictedFrom
    rw [happ]
    split
    · rename_i hc
      rw [evictsBefore_iff] at hc
      have := ih (pre ++ [c]) c pre.length (by omega) hlast fun j e hj => by
        rcases hcases j e hj with ⟨hj, -⟩ | ⟨rfl, rfl⟩
        · have := hp j e hj
          unfold leavesFirst at this ⊢
          omega
        · exact .inr ⟨rfl, .inr ⟨rfl, Nat.le_refl _⟩⟩
      rwa [hl] at this
    · rename_i hc
      rw [evictsBefore_iff] at hc
      have := ih (pre ++ [c]) d best (by omega) (by rw [List.getElem?_append_left hb]; exact hd) fun j e hj => by
        rcases hcases j e hj with ⟨hj, -⟩ | ⟨rfl, rfl⟩
        · exact hp j e hj
        · unfold leavesFirst
          omega
      rwa [hl] at this

theorem evict_spec {l : List Candidate} (h : l ≠ []) : ∃ (i : Nat) (c : Candidate), l[i]? = some c ∧ evict l = l.eraseIdx i ∧
    ∀ (j : Nat) (d : Candidate), l[j]? = some d → leavesFirst i c j d := by
  cases l with
  | nil => exact absurd rfl h
  | cons c rest =>
    obtain ⟨e, he, hall⟩ := evictedFrom_spec rest [c] c 0 (by simp) rfl fun j e hj => by
      cases j with
      | zero => cases hj; exact .inr ⟨rfl, .inr ⟨rfl, Nat.le_refl _⟩⟩
      | succ j => cases hj
    exact ⟨evictedFrom c 0 1 rest, e, he, rfl, hall⟩

theorem State.countsSighting_iff (s : State) (t : Telegram) (e : Candidate) : s.countsSighting t e = true ↔
    s.inputs.motion = .moving ∧ t.rotating = true ∧ ∀ n, e.sinceSighting = some n → 60 ≤ n := by
  unfold State.countsSighting
  cases e.sinceSighting <;> simp [and_assoc]

/-! ### The routes -/

section
variable {s : State}

/-- R148: a telegram from the position that the running step listens to ends the step. -/
theorem State.reportTelegram_listened {p : Position} {r : RunningStep} (h : s.mode.running = some r)
    (hr : r.step = .sensorListen p) : (s.reportTelegram p).mode.result = .done ∧
      (s.reportTelegram p).mode.workshop = .ready ∧ (s.reportTelegram p).mode.running = none := by
  unfold State.reportTelegram
  rw [h]
  dsimp only
  rw [if_pos hr]
  unfold State.stepDone State.enterWorkshopState
  dsimp only
  split <;> split <;> exact ⟨rfl, rfl, rfl⟩

theorem State.noteDuplicate_frame (t : Telegram) : s.noteDuplicate t =
    s.setNotices { s.port.notices with learnResult := (s.noteDuplicate t).port.notices.learnResult } := by
  unfold State.noteDuplicate
  split
  · split <;> rfl
  · rfl

theorem State.Evaluated.noteDuplicate {u : State} {q : Position} {r : PositionRecord} (h : s.Evaluated u q r)
    (t : Telegram) : s.Evaluated (u.noteDuplicate t) q r := by
  rw [u.noteDuplicate_frame t]
  exact ⟨⟨h.judged.expected, h.judged.pressure, h.judged.temperature⟩, h.level,
    ⟨h.pairs.compared, h.pairs.kept, h.pairs.notice⟩⟩

/-- R33: the record of a heard telegram, before its evaluation. -/
def State.hearing (s : State) (q : Position) (t : Telegram) : State := s.setPosition q ((s.position q).heard t)

theorem State.hearing_position (q : Position) (t : Telegram) (r : Position) : (s.hearing q t).position r =
    if r = q then (s.position q).heard t else s.position r :=
  State.setPosition_position ..

theorem State.takeBound_eq (q : Position) (t : Telegram) :
    s.takeBound q t = (((s.hearing q t).evaluate q).reportTelegram q).noteDuplicate t := rfl

/-- R10, R33, R34: what a telegram leaves on the bound route. -/
theorem State.takeBound_spec (s : State) (q : Position) (t : Telegram) :
    (∀ r, r ≠ q → (s.takeBound q t).position r = s.position r) ∧
    (s.takeBound q t).position q = (s.hearing q t).evaluatedRecord q ∧
    (s.takeBound q t).intake = s.intake ∧
    s.Evaluated (s.takeBound q t) q (s.position q) ∧
    (∀ w, s.intake.window = some w → t.triggered = true → (∃ k, t.kind = .sensor k) →
      (s.takeBound q t).port.notices.learnResult = some (.duplicate, w.target)) ∧
    (∀ r, s.mode.running = some r → r.step = .sensorListen q → (s.takeBound q t).mode.result = .done ∧
      (s.takeBound q t).mode.workshop = .ready ∧ (s.takeBound q t).mode.running = none) ∧
    ((∀ r, s.mode.running = some r → r.step ≠ .sensorListen q) → s.OnlyTyres (s.takeBound q t)) := by
  have hq : (s.hearing q t).position q = (s.position q).heard t := (s.hearing_position q t q).trans (if_pos rfl)
  have hb : ((s.hearing q t).position q).state.isBound = true := by rw [hq]; exact PositionRecord.heard_isBound _ _
  have hi : (((s.hearing q t).evaluate q).reportTelegram q).intake = s.intake := by
    rw [State.reportTelegram_intake, State.evaluate_intake]; rfl
  have hp : ∀ r, (s.takeBound q t).position r = ((s.hearing q t).evaluate q).position r := fun r => by
    rw [State.takeBound_eq, State.noteDuplicate_frame, State.setNotices_position, State.reportTelegram_position]
  refine ⟨fun r hr => ?_, ?_, ?_, ?_, fun w hw ht hk => ?_, fun r hr hstep => ?_, fun hr => ?_⟩
  · rw [hp, State.evaluate_position_ne _ hr, State.hearing_position, if_neg hr]
  · rw [hp, State.evaluate_self hb]
  · rw [State.takeBound_eq, State.noteDuplicate_frame, State.setNotices_intake, hi]
  · rw [State.takeBound_eq]
    refine State.Evaluated.noteDuplicate (State.Evaluated.reportTelegram ?_ q) t
    exact (evaluate_evaluated _ _ hb).from rfl rfl rfl (by rw [hq]; rfl)
  · obtain ⟨k, hk⟩ := hk
    rw [State.takeBound_eq]
    unfold State.noteDuplicate
    rw [hi, hw, hk]
    dsimp only
    rw [if_pos ht]
    rfl
  · rw [State.takeBound_eq, State.noteDuplicate_frame]
    exact State.reportTelegram_listened (s := (s.hearing q t).evaluate q) (by rw [State.evaluate_mode]; exact hr) hstep
  · rw [State.takeBound_eq, State.reportTelegram_of_other (by rw [State.evaluate_mode]; exact hr), State.noteDuplicate_frame]
    exact (State.OnlyTyres.trans (t := s.hearing q t) rfl (State.evaluate_onlyTyres _)).trans
      (State.setNotices_onlyTyres _)

/-! ### The candidate route -/

/-- R44: the entry after a telegram. -/
theorem State.sightedEntry_spec (s : State) (t : Telegram) (c : Candidate) :
    (s.sightedEntry t c).bound = c.bound ∧ (s.sightedEntry t c).age = c.age ∧
    (s.sightedEntry t c).firstHeard = c.firstHeard ∧ (s.sightedEntry t c).pressure = c.pressure ∧
    (s.sightedEntry t c).sightings = (if s.countsSighting t c = true then min 255 (c.sightings + 1) else c.sightings) ∧
    (s.sightedEntry t c).sinceSighting = (if s.countsSighting t c = true then some 0 else c.sinceSighting) ∧
    ((s.sightedEntry t c).ready = true ↔
      c.ready = true ∨ (s.countsSighting t c = true ∧ 20 ≤ (s.sightedEntry t c).sightings)) := by
  unfold State.sightedEntry
  by_cases h : s.countsSighting t c = true
  · simp only [if_pos h]
    refine ⟨rfl, rfl, rfl, rfl, countUp_eq_min _ _, rfl, ?_⟩
    simp [Candidate.sighted, h]
  · simp [h]

theorem State.noteReady_onlyTyresAndIntake (c d : Candidate) : s.OnlyTyresAndIntake (s.noteReady c d) := by
  unfold State.noteReady; split <;> rfl

theorem State.noteReady_tyres (c d : Candidate) : (s.noteReady c d).tyres = s.tyres := by
  unfold State.noteReady; split <;> rfl

theorem State.noteReady_intake (c d : Candidate) : (s.noteReady c d).intake = s.intake := by
  unfold State.noteReady; split <;> rfl

theorem State.noteReady_candidateReady {c d : Candidate} (hc : c.ready = false) (hd : d.ready = true) :
    (s.noteReady c d).port.notices.candidateReady = true := by
  simp [State.noteReady, hc, hd]

/-- R45: a telegram of an ID that the list does not hold. -/
theorem State.takeCandidate_new {t : Telegram} (kind : SensorKind) (h : ∀ e ∈ s.intake.candidates, e.bound.id ≠ t.id) :
    s.takeCandidate kind t = (s.setCandidates (withRoom s.intake.candidates ++
      [s.sightedEntry t (.new kind t)])).noteReady (.new kind t) (s.sightedEntry t (.new kind t)) := by
  unfold State.takeCandidate
  rw [candidateIndex_none.2 h]

/-- R43: a telegram of an ID that the list holds. -/
theorem State.takeCandidate_known {t : Telegram} {i : Nat} {e : Candidate} (kind : SensorKind)
    (hi : candidateIndex s.intake.candidates t.id = some i) (he : s.intake.candidates[i]? = some e) :
    s.takeCandidate kind t = (s.setCandidates (s.intake.candidates.set i (s.sightedEntry t (e.refreshed kind t)))).noteReady e
      (s.sightedEntry t (e.refreshed kind t)) := by
  unfold State.takeCandidate
  rw [hi]
  dsimp only
  rw [he]

theorem Candidate.refreshed_pressure (e : Candidate) (kind : SensorKind) (t : Telegram) :
    (e.refreshed kind t).pressure = if t.pressure.isSome then t.pressure else e.pressure := by
  unfold Candidate.refreshed
  cases t.pressure <;> rfl

theorem State.countsSighting_refreshed (t : Telegram) (e : Candidate) (kind : SensorKind) :
    s.countsSighting t (e.refreshed kind t) = s.countsSighting t e := rfl

theorem State.countsSighting_new (t : Telegram) (kind : SensorKind) :
    s.countsSighting t (.new kind t) = true ↔ s.inputs.motion = .moving ∧ t.rotating = true := by
  rw [State.countsSighting_iff]
  simp [Candidate.new]

/-- R43 to R45: the entry that a telegram leaves on the candidate route. -/
theorem State.takeCandidate_spec (s : State) (k : SensorKind) (t : Telegram) : ∃ d : Candidate,
    s.OnlyTyresAndIntake (s.takeCandidate k t) ∧ (s.takeCandidate k t).tyres = s.tyres ∧ d.bound = ⟨t.id, k⟩ ∧ d.age = 0 ∧
    ((∀ e ∈ s.intake.candidates, e.bound.id ≠ t.id) →
      d.firstHeard = 0 ∧ d.pressure = t.pressure ∧
      d.sightings = (if s.inputs.motion = .moving ∧ t.rotating = true then 1 else 0) ∧
      d.sinceSighting = (if s.inputs.motion = .moving ∧ t.rotating = true then some 0 else none) ∧
      (s.takeCandidate k t).intake = { s.intake with candidates := withRoom s.intake.candidates ++ [d] }) ∧
    (∀ (i : Nat) (e : Candidate), s.candidateLaw → s.intake.candidates[i]? = some e → e.bound.id = t.id →
      d.firstHeard = e.firstHeard ∧ d.pressure = (if t.pressure.isSome then t.pressure else e.pressure) ∧
      d.sightings = (if s.countsSighting t e = true then min 255 (e.sightings + 1) else e.sightings) ∧
      d.sinceSighting = (if s.countsSighting t e = true then some 0 else e.sinceSighting) ∧
      (s.takeCandidate k t).intake = { s.intake with candidates := s.intake.candidates.set i d } ∧
      (d.ready = true ↔ e.ready = true ∨ (s.countsSighting t e = true ∧ 20 ≤ d.sightings)) ∧
      (e.ready = false → d.ready = true → (s.takeCandidate k t).port.notices.candidateReady = true)) := by
  cases hi : candidateIndex s.intake.candidates t.id with
  | none =>
    have hn := candidateIndex_none.1 hi
    obtain ⟨h1, h2, h3, h4, h5, h6, -⟩ := s.sightedEntry_spec t (.new k t)
    simp only [State.countsSighting_new] at h5 h6
    rw [State.takeCandidate_new k hn]
    refine ⟨s.sightedEntry t (.new k t), State.OnlyTyresAndIntake.trans (t := s.setCandidates _) rfl
      (State.noteReady_onlyTyresAndIntake _ _), State.noteReady_tyres _ _, h1, h2, fun _ => ⟨h3, h4, h5, h6, ?_⟩,
      fun i e _ hm he => absurd he (hn e (List.mem_of_getElem? hm))⟩
    exact State.noteReady_intake _ _
  | some i =>
    obtain ⟨e, he, hid⟩ := candidateIndex_some hi
    obtain ⟨h1, h2, h3, h4, h5, h6, h7⟩ := s.sightedEntry_spec t (e.refreshed k t)
    rw [State.countsSighting_refreshed] at h5 h6 h7
    rw [State.takeCandidate_known k hi he]
    refine ⟨s.sightedEntry t (e.refreshed k t), State.OnlyTyresAndIntake.trans (t := s.setCandidates _) rfl
      (State.noteReady_onlyTyresAndIntake _ _), State.noteReady_tyres _ _, ?_, h2,
      fun hn => absurd hid (hn e (List.mem_of_getElem? he)), fun j e' hl hj he' => ?_⟩
    · rw [h1]; exact congrArg (Binding.mk · k) hid
    · have hij : i = j := Option.some.inj (hi.symm.trans (candidateIndex_of_nodup hl.2 hj he'))
      subst hij
      obtain rfl : e = e' := Option.some.inj (he.symm.trans hj)
      exact ⟨h3, h4.trans (e.refreshed_pressure k t), h5, h6, State.noteReady_intake _ _, h7,
        State.noteReady_candidateReady⟩

end

/-! ### Taking a telegram -/

section
variable {s : State} {t : Telegram} {k : SensorKind}

theorem State.takeTelegram_bound {q : Position} (hk : t.kind = .failed ∨ ∃ k, t.kind = .sensor k)
    (hq : s.boundPosition t.id = some q) : s.takeTelegram t = s.takeBound q t := by
  unfold State.takeTelegram
  rcases hk with hk | ⟨k, hk⟩ <;> rw [hk] <;> dsimp only <;> rw [hq]

theorem State.takeTelegram_failed (hk : t.kind = .failed) (hq : s.boundPosition t.id = none) : s.takeTelegram t = s := by
  unfold State.takeTelegram
  rw [hk]; dsimp only; rw [hq]

theorem State.takeTelegram_test (hk : t.kind = .test) : s.takeTelegram t = s.takeTest t := by
  unfold State.takeTelegram
  rw [hk]

theorem State.takeTest_ignored (h : (s.mode.workshop ≠ .ready ∧ s.mode.workshop ≠ .stepRunning) ∨
    s.boundPosition t.id = none) : s.takeTest t = s := by
  unfold State.takeTest
  split
  · rename_i hw
    rw [h.resolve_left fun hn => hw.elim hn.1 hn.2]
  · rfl

theorem State.takeTest_bound {q : Position} (h : s.mode.workshop = .ready ∨ s.mode.workshop = .stepRunning)
    (hq : s.boundPosition t.id = some q) : s.takeTest t =
      (s.setPosition q { s.position q with age := some 0, silenceDue := false }).reportTelegram q := by
  unfold State.takeTest
  rw [if_pos h, hq]

theorem State.takeTelegram_unbound (hk : t.kind = .sensor k) (hq : s.boundPosition t.id = none) :
    s.takeTelegram t = s.takeUnbound k t := by
  unfold State.takeTelegram
  rw [hk]; dsimp only; rw [hq]

theorem State.takeUnbound_triggered {w : LearnWindow} (hw : s.intake.window = some w) (ht : t.triggered = true) :
    s.takeUnbound k t = s.takeTrigger w k t := by
  unfold State.takeUnbound
  rw [hw, ht]

theorem State.takeUnbound_heard (h : s.intake.window = none ∨ t.triggered = false) :
    s.takeUnbound k t = if s.mode.power = .watch then s else s.takeCandidate k t := by
  unfold State.takeUnbound
  rcases h with h | h
  · rw [h]
  · cases s.intake.window <;> rw [h]

end

/-! ### Commands of the receiver line -/

section
variable {s : State} {dt : Nat}

theorem exec_characterReception (h : s.powered = true) (b : Byte) (stop : Bool) :
    exec (.characterReception dt b stop) s = .next ((s.elapse dt).takeCharacter b stop) :=
  congrArg Host.Outcome.next (State.live_on h dt _)

theorem exec_telegramArrival (h : s.powered = true) :
    exec (.telegramArrival dt) s = .next (s.elapse dt).telegramArrives :=
  congrArg Host.Outcome.next (State.live_on h dt _)

theorem State.telegramArrives_busy (h : s.idleBits 20 = false) : s.telegramArrives = s := by
  unfold State.telegramArrives
  rw [h]; rfl

theorem State.telegramArrives_none (h : s.idleBits 20 = true) (ht : s.intake.rx.telegram = none) :
    s.telegramArrives = s.closeSequence := by
  unfold State.telegramArrives
  rw [h, if_pos rfl, ht]

theorem State.telegramArrives_some {t : Telegram} (h : s.idleBits 20 = true) (ht : s.intake.rx.telegram = some t) :
    s.telegramArrives = (s.closeSequence.takeTelegram t).settle := by
  unfold State.telegramArrives
  rw [h, if_pos rfl, ht]

end

/-- Settles O41: the check and the fields, the eviction, and the route of each telegram. -/
theorem telegramsReachTheirRoutes : Obligations.TelegramsReachTheirRoutes := by
  refine ⟨⟨rfl, crc8_append⟩, Reception.telegram_eq, fun i0 i1 i2 i3 k p0 p1 t f c l id n hl hid hn => ?_,
    fun l hl => evict_spec hl, State.countsSighting_iff, fun dt s h => ⟨fun n => decide_eq_true_iff, fun b stop hs => ?_,
      fun b stop hs hi => ?_, fun hi => ?_, fun c hc hi => ⟨fun ht => ?_, fun t ht => ?_⟩⟩⟩
  · subst hl hid hn
    refine ⟨telegramOf_eq_none, fun x hx => ?_⟩
    rw [telegramOf_eq_some hx]
    obtain ⟨k0, k1, k2, k3, k4, -⟩ := kindOfByte_iff k
    obtain ⟨hp1, hp2, hp3⟩ := pressureField_table (ofBytes2 p0 p1)
    obtain ⟨ht1, ht2, ht3⟩ := temperatureField_table t.toNat
    exact ⟨telegramId_toNat _ _ _ _, k0, k1, k2, k3, k4, hp1, hp2, hp3, ht1, ht2, ht3, rfl, rfl, rfl, rfl⟩
  · rw [exec_characterReception h]
    refine congrArg Host.Outcome.next (if_pos ?_)
    rw [Bool.or_eq_true]; exact hs
  · rw [exec_characterReception h]
    refine congrArg Host.Outcome.next (if_neg ?_)
    rw [hi, Bool.or_false]
    exact Bool.eq_false_iff.1 hs
  · rw [exec_telegramArrival h, State.telegramArrives_busy hi]
  · rw [exec_telegramArrival h, State.telegramArrives_none hi ht, hc]
  rw [exec_telegramArrival h, State.telegramArrives_some hi ht, ← hc]
  simp only [Host.Outcome.next.injEq]
  subst hc
  set c := (s.elapse dt).closeSequence with hc
  refine ⟨fun q hk hq => ?_, fun hk hq => ?_, fun hk hn => ?_, fun q v hk hw hq hv => ?_,
    fun k hk hq => ⟨fun w hw htr => ⟨fun hx => ?_, fun x hx hne => ?_, fun x hx he => ?_⟩, fun hw hp => ?_, fun hw hp => ?_⟩⟩
  · obtain ⟨h1, h2, h3, h4, h5, h6, h7⟩ := c.takeBound_spec q t
    refine ⟨c.takeBound q t, by rw [State.takeTelegram_bound (s := c) hk hq], h1, ?_⟩
    have hr : (c.hearing q t).position q = (s.position q).heard t := (c.hearing_position q t q).trans (if_pos rfl)
    rw [h2, h3]
    unfold State.evaluatedRecord
    rw [hr]
    refine ⟨rfl, rfl, rfl, rfl, rfl, ?_, ?_, rfl, rfl, rfl, h4.from rfl rfl rfl rfl, fun w hw htr hf => ?_, h6, h7⟩
    · cases ht : t.pressure <;> simp [PositionRecord.heard, ht]
    · cases ht : t.temperature <;> simp [PositionRecord.heard, ht]
    · exact h5 w hw htr (hk.resolve_left hf)
  · rw [State.takeTelegram_failed (s := c) hk hq]
  · rw [State.takeTelegram_test hk, State.takeTest_ignored (s := c) hn]
  · subst hv
    refine ⟨_, by rw [State.takeTelegram_test hk, State.takeTest_bound (s := c) hw hq]; rfl,
      State.reportTelegram_tyres _ _,
      fun r hr hstep => State.reportTelegram_listened (s := c.setPosition q _) hr hstep,
      fun hr => State.reportTelegram_of_other (s := c.setPosition q _) hr⟩
  · rw [State.takeTelegram_unbound (s := c) hk hq, State.takeUnbound_triggered (s := c) hw htr]
    unfold State.takeTrigger
    rw [hx]
    rfl
  · rw [State.takeTelegram_unbound (s := c) hk hq, State.takeUnbound_triggered (s := c) hw htr]
    unfold State.takeTrigger
    rw [hx]
    exact congrArg State.settle (if_neg hne)
  · rw [State.takeTelegram_unbound (s := c) hk hq, State.takeUnbound_triggered (s := c) hw htr]
    unfold State.takeTrigger
    rw [hx]
    exact congrArg State.settle (if_pos he)
  · rw [State.takeTelegram_unbound (s := c) hk hq, State.takeUnbound_heard (s := c) hw]
    exact congrArg State.settle (if_pos hp)
  · rw [State.takeTelegram_unbound (s := c) hk hq, State.takeUnbound_heard (s := c) hw, 
      if_neg (show ¬c.mode.power = .watch from hp)]
    obtain ⟨d, h1, h2, h3, h4, h5, h6⟩ := c.takeCandidate_spec k t
    exact ⟨c.takeCandidate k t, d, rfl, h1, h2, h3, h4, h5, h6⟩

end Sys2Proof.Machine
end

section
/-! SUPPORT. Write Setpoints (R21, R83, R149) where a raise in the workshop is interrupted beside a TEST entry. -/
namespace Sys2Proof.Machine

/-- A3 UP, a LIFT step that raises it running, a TEST entry in the table, and A1 LO LIVE at 700: no law of the Safety file
stands in the statement, and the table of the offers may hold the entry. -/
def raisingWithTestEntry : State :=
  let s := Tests.lifting (Tests.live 700) .up
  (s.setMode { s.mode with workshop := .stepRunning, running := some ⟨.lift .a3 true, 0, false, 0⟩ }).setDemands
    { s.demands with table := [⟨.test, .whole 100, 0, none⟩] }

/-- Write Setpoints of 1200 at A1 LO. -/
def writeAlarming : Params := Tests.params [0, 1, 4, 176]

/-- The record of A1 LO as the write leaves it, before its evaluation. -/
def alarmingWrite : State :=
  (raisingWithTestEntry.taken 0).setPosition (.road .a1 .lo)
    { (raisingWithTestEntry.taken 0).position (.road .a1 .lo) with pl := 1200 }

/-- R83, R149: A1 LO in LOW ALARM lowers A3, which interrupts the step, and the end of a step retires the TEST entry. -/
theorem alarmingWrite_demands :
    (if ((alarmingWrite.evaluate (.road .a1 .lo)).position (.road .a1 .lo)).levels =
        (alarmingWrite.position (.road .a1 .lo)).levels then alarmingWrite.evaluate (.road .a1 .lo)
      else (alarmingWrite.evaluate (.road .a1 .lo)).testAllTyres).demands.table = [] := by decide +kernel

/-- Refutes O37: the statement leaves the demand table as it was, and the tyre test of an alarm that interrupts a LIFT step
retires a TEST entry that stands in it. -/
theorem not_writeSetpointsStopsAtTheFirstFailure : ¬ Obligations.WriteSetpointsStopsAtTheFirstFailure := by
  intro h
  obtain ⟨-, -, -, hwrite⟩ := h 0 writeAlarming raisingWithTestEntry 0 1 [1200] rfl (by decide) (by decide) (by decide)
  obtain ⟨-, m, u, hm, hframe, ⟨c, hc0, hcm, hc⟩, -, -, -, -, -, -, -, -, hstop⟩ := hwrite (by decide)
  have hm1 : m = 1 := by
    by_contra hne
    obtain rfl : m = 0 := by omega
    have hacc := (hstop (by decide)).1
    exact absurd hacc (by decide)
  subst hm1
  have hstep := hc 0 (.road .a1 .lo) alarmingWrite (by decide) rfl (by rw [hc0]; rfl)
  have hu : u.demands.table = [⟨.test, .whole 100, 0, none⟩] :=
    congrArg (fun t : State => t.demands.table) hframe
  rw [← hcm, hstep, alarmingWrite_demands] at hu
  cases hu

end Sys2Proof.Machine
end

section
/-! SUPPORT. The fields of a requested axle layout and its consistency (R64, R165). -/
namespace Sys2Proof.Machine

/-! ### The fields of a request -/

theorem sensorOf_none {n : Nat} : sensorOf n = none ↔ 6 < n := by
  rcases Nat.lt_or_ge 6 n with h | h
  · obtain ⟨k, rfl⟩ : ∃ k, n = k + 7 := ⟨n - 7, by omega⟩
    exact iff_of_true rfl h
  · refine iff_of_false ?_ (by omega)
    interval_cases n <;> simp [sensorOf, WheelId.ofNumber]

theorem sensorOf_some {n : Nat} {w : Option WheelId} (h : sensorOf n = some w) : (w.map WheelId.number).getD 0 = n := by
  have hn : n ≤ 6 := by
    by_contra hc
    rw [sensorOf_none.2 (by omega)] at h; cases h
  interval_cases n <;> simp [sensorOf, WheelId.ofNumber] at h <;> subst h <;> rfl

theorem liftModeOf_none {n : Nat} : liftModeOf n = none ↔ 2 < n := by
  rcases Nat.lt_or_ge 2 n with h | h
  · obtain ⟨k, rfl⟩ : ∃ k, n = k + 3 := ⟨n - 3, by omega⟩
    exact iff_of_true rfl h
  · refine iff_of_false ?_ (by omega)
    interval_cases n <;> simp [liftModeOf]

theorem liftModeOf_some {n : Nat} {m : LiftMode} (h : liftModeOf n = some m) :
    (m = .auto ↔ n = 0) ∧ (m = .heldDown ↔ n = 1) ∧ (m = .heldUp ↔ n = 2) := by
  unfold liftModeOf at h
  split at h <;> cases h <;> simp

section
variable {p : Params} {i : Nat}

/-- R165: an axle whose three bytes spell its fields. -/
theorem axleAt_ok {x : StoredAxle} (h : axleAt p i = .ok x) : ∃ l r m, sensorOf (byteAt p (i + 1) / 16) = some l ∧
    sensorOf (byteAt p (i + 1) % 16) = some r ∧ liftModeOf (byteAt p (i + 2)) = some m ∧ x =
      { layout :=
          { present := (p.bytes.getD i 0).getLsbD 0, dual := (p.bytes.getD i 0).getLsbD 1,
            liftable := (p.bytes.getD i 0).getLsbD 2, valve2 := (p.bytes.getD i 0).getLsbD 3,
            group := if (p.bytes.getD i 0).getLsbD 4 then .g2 else .g1, brakeX := (p.bytes.getD i 0).getLsbD 5,
            left := l, right := r }
        mode := m } := by
  unfold axleAt at h
  dsimp only at h
  split at h
  · rename_i l r m hl hr hm
    exact ⟨l, r, m, hl, hr, hm, (Except.ok.inj h).symm⟩
  · cases h
  · cases h

/-- R64: the first byte of an axle that spells no field. -/
theorem axleAt_error {e : Nat} (h : axleAt p i = .error e) :
    (e = i + 1 ∧ (6 < byteAt p (i + 1) / 16 ∨ 6 < byteAt p (i + 1) % 16)) ∨
    (e = i + 2 ∧ ¬6 < byteAt p (i + 1) / 16 ∧ ¬6 < byteAt p (i + 1) % 16 ∧ 2 < byteAt p (i + 2)) := by
  have hn : ∀ {n : Nat} {w : Option WheelId}, sensorOf n = some w → ¬6 < n := fun hw hc => by
    rw [sensorOf_none.2 hc] at hw; cases hw
  unfold axleAt at h
  dsimp only at h
  split at h
  · cases h
  · rename_i hl hr hm
    exact .inr ⟨(Except.error.inj h).symm, hn hl, hn hr, liftModeOf_none.1 hm⟩
  · rename_i hok herr
    refine .inl ⟨(Except.error.inj h).symm, ?_⟩
    by_contra hc
    rw [not_or] at hc
    obtain ⟨l, hl⟩ := Option.ne_none_iff_exists'.1 fun h => hc.1 (sensorOf_none.1 h)
    obtain ⟨r, hr⟩ := Option.ne_none_iff_exists'.1 fun h => hc.2 (sensorOf_none.1 h)
    cases hm : liftModeOf (byteAt p (i + 2)) with
    | none => exact herr l r hl hr hm
    | some m => exact hok l r m hl hr hm

/-- R64, R165: the bytes of a request that spell no field. -/
def badField (p : Params) (j : Nat) : Prop :=
  j < 15 ∧ ((j % 3 = 1 ∧ (6 < byteAt p j / 16 ∨ 6 < byteAt p j % 16)) ∨ (j % 3 = 2 ∧ 2 < byteAt p j))

theorem axleAt_ok_sound {x : StoredAxle} (h : axleAt p i = .ok x) (hi : i % 3 = 0) {j : Nat} (h1 : i ≤ j) (h2 : j < i + 3) :
    ¬badField p j := by
  obtain ⟨l, r, m, hl, hr, hm, -⟩ := axleAt_ok h
  have hl : ¬6 < byteAt p (i + 1) / 16 := fun hc => by rw [sensorOf_none.2 hc] at hl; cases hl
  have hr : ¬6 < byteAt p (i + 1) % 16 := fun hc => by rw [sensorOf_none.2 hc] at hr; cases hr
  have hm : ¬2 < byteAt p (i + 2) := fun hc => by rw [liftModeOf_none.2 hc] at hm; cases hm
  rintro ⟨-, ⟨h3, h4⟩ | ⟨h3, h4⟩⟩
  · obtain rfl : j = i + 1 := by omega
    exact h4.elim hl hr
  · obtain rfl : j = i + 2 := by omega
    exact hm h4

theorem axleAt_error_sound {e : Nat} (h : axleAt p i = .error e) (hi : i % 3 = 0) (h15 : i < 15) : badField p e ∧
    ∀ j, i ≤ j → j < e → ¬badField p j := by
  rcases axleAt_error h with ⟨rfl, hb⟩ | ⟨rfl, hl, hr, hm⟩
  · refine ⟨⟨by omega, .inl ⟨by omega, hb⟩⟩, fun j h1 h2 => ?_⟩
    rintro ⟨-, ⟨h3, -⟩ | ⟨h3, -⟩⟩ <;> omega
  · refine ⟨⟨by omega, .inr ⟨by omega, hm⟩⟩, fun j h1 h2 => ?_⟩
    rintro ⟨-, ⟨h3, h4⟩ | ⟨h3, -⟩⟩
    · obtain rfl : j = i + 1 := by omega
      exact h4.elim hl hr
    · omega

/-- R64: the axles of a request are read one after the other. -/
theorem axlesAt_cases (p : Params) : (∃ t, axlesAt p = .ok t ∧ ∀ a : AxleId, axleAt p (3 * (a.number - 1)) = .ok (t.get a)) ∨
    ∃ (a : AxleId) (e : Nat), axlesAt p = .error e ∧ axleAt p (3 * (a.number - 1)) = .error e ∧
      ∀ b : AxleId, b.number < a.number → ∃ x, axleAt p (3 * (b.number - 1)) = .ok x := by
  unfold axlesAt
  cases h1 : axleAt p 0 with
  | error e => exact .inr ⟨.a1, e, rfl, h1, fun b hb => by cases b <;> simp [AxleId.number] at hb⟩
  | ok x1 =>
  cases h2 : axleAt p 3 with
  | error e => exact .inr ⟨.a2, e, rfl, h2, fun b hb => by cases b <;> simp [AxleId.number, h1] at hb ⊢⟩
  | ok x2 =>
  cases h3 : axleAt p 6 with
  | error e => exact .inr ⟨.a3, e, rfl, h3, fun b hb => by cases b <;> simp [AxleId.number, h1, h2] at hb ⊢⟩
  | ok x3 =>
  cases h4 : axleAt p 9 with
  | error e => exact .inr ⟨.a4, e, rfl, h4, fun b hb => by cases b <;> simp [AxleId.number, h1, h2, h3] at hb ⊢⟩
  | ok x4 =>
  cases h5 : axleAt p 12 with
  | error e => exact .inr ⟨.a5, e, rfl, h5, fun b hb => by cases b <;> simp [AxleId.number, h1, h2, h3, h4] at hb ⊢⟩
  | ok x5 => exact .inl ⟨_, rfl, fun a => by cases a <;> assumption⟩

theorem axlesAt_get {t : PerAxle StoredAxle} (h : axlesAt p = .ok t) (a : AxleId) :
    axleAt p (3 * (a.number - 1)) = .ok (t.get a) := by
  rcases axlesAt_cases p with ⟨t', h', hg⟩ | ⟨a, e, h', -⟩
  · rw [h] at h'; cases h'; exact hg a
  · rw [h] at h'; cases h'

/-- The axle whose bytes hold an offset. -/
theorem exists_axle_of_lt {j : Nat} (h : j < 15) :
    ∃ a : AxleId, a.number - 1 = j / 3 ∧ 3 * (a.number - 1) ≤ j ∧ j < 3 * (a.number - 1) + 3 := by
  have : j / 3 = 0 ∨ j / 3 = 1 ∨ j / 3 = 2 ∨ j / 3 = 3 ∨ j / 3 = 4 := by omega
  rcases this with h | h | h | h | h
  · exact ⟨.a1, by simp [AxleId.number, h]; omega⟩
  · exact ⟨.a2, by simp [AxleId.number, h]; omega⟩
  · exact ⟨.a3, by simp [AxleId.number, h]; omega⟩
  · exact ⟨.a4, by simp [AxleId.number, h]; omega⟩
  · exact ⟨.a5, by simp [AxleId.number, h]; omega⟩

theorem AxleId.number_mem (a : AxleId) : 1 ≤ a.number ∧ a.number ≤ 5 := by cases a <;> decide

theorem axlesAt_ok_sound {t : PerAxle StoredAxle} (h : axlesAt p = .ok t) (j : Nat) : ¬badField p j := fun hb => by
  obtain ⟨a, -, h1, h2⟩ := exists_axle_of_lt hb.1
  exact axleAt_ok_sound (axlesAt_get h a) (by omega) h1 h2 hb

theorem axlesAt_error_sound {e : Nat} (h : axlesAt p = .error e) : badField p e ∧ ∀ j, j < e → ¬badField p j := by
  rcases axlesAt_cases p with ⟨t, h', -⟩ | ⟨a, e', h', ha, hb⟩
  · rw [h] at h'; cases h'
  · rw [h] at h'; cases h'
    have hn := AxleId.number_mem a
    obtain ⟨he, hj⟩ := axleAt_error_sound ha (by omega) (by omega)
    refine ⟨he, fun j hlt hbad => ?_⟩
    by_cases hle : 3 * (a.number - 1) ≤ j
    · exact hj j hle hlt hbad
    · obtain ⟨b, hq, h1, h2⟩ := exists_axle_of_lt hbad.1
      obtain ⟨x, hx⟩ := hb b (by omega)
      exact axleAt_ok_sound hx (by omega) h1 h2 hbad

theorem axlesAt_ok_iff : (∃ t, axlesAt p = .ok t) ↔ ∀ j, ¬badField p j := by
  refine ⟨fun ⟨t, h⟩ j => axlesAt_ok_sound h j, fun h => ?_⟩
  rcases axlesAt_cases p with ⟨t, ht, -⟩ | ⟨a, e, he, -⟩
  · exact ⟨t, ht⟩
  · exact absurd (axlesAt_error_sound he).1 (h e)

theorem axlesAt_error_iff : axlesAt p = .error i ↔ badField p i ∧ ∀ j, j < i → ¬badField p j := by
  refine ⟨axlesAt_error_sound, fun ⟨hi, hj⟩ => ?_⟩
  rcases axlesAt_cases p with ⟨t, ht, -⟩ | ⟨a, e, he, -⟩
  · exact absurd hi (axlesAt_ok_sound ht i)
  · obtain ⟨h1, h2⟩ := axlesAt_error_sound he
    obtain rfl : e = i := by
      rcases Nat.lt_trichotomy e i with h | h | h
      · exact absurd h1 (hj e h)
      · exact h
      · exact absurd hi (h2 i h)
    exact he

end

/-! ### Consistency -/

section
variable {t : PerAxle StoredAxle} {third : Bool}

theorem countAxles_ne_zero {α : Type} (f : α → Bool) (t : PerAxle α) :
    (countAxles f t != 0) = true ↔ ∃ a, f (t.get a) = true := by
  rw [bne_iff_ne]
  constructor
  · intro h
    by_contra hn
    have hall : ∀ a, f (t.get a) = false := fun a => by
      rw [← Bool.not_eq_true]
      exact fun hc => hn ⟨a, hc⟩
    refine h ?_
    have h1 := hall .a1; have h2 := hall .a2; have h3 := hall .a3; have h4 := hall .a4; have h5 := hall .a5
    simp only [PerAxle.get] at h1 h2 h3 h4 h5
    simp [countAxles, h1, h2, h3, h4, h5]
  · rintro ⟨a, ha⟩ h
    cases a <;> simp only [PerAxle.get] at ha <;> simp [countAxles, ha] at h

/-- R64: what of an axle's own fields makes a layout inconsistent. -/
def standsAlone (t : PerAxle StoredAxle) (third : Bool) (a : AxleId) : Prop :=
  ((t.get a).layout.present = true ∧ ∃ w, (t.get a).layout.left = some w ∧ (t.get a).layout.right = some w) ∨
  ((t.get a).layout.present = true ∧ (t.get a).layout.brakeX = true ∧ third = false) ∨
  ((t.get a).layout.present = true ∧ ∀ b, (t.get b).layout.present = true →
    (t.get b).layout.group = (t.get a).layout.group → (t.get b).layout.liftable = true) ∨
  ((t.get a).layout.liftable = false ∧ (t.get a).mode ≠ .heldDown)

/-- R64: two axles that cannot stand together. -/
def axlesClash (t : PerAxle StoredAxle) (a b : AxleId) : Prop :=
  a ≠ b ∧ (t.get a).layout.present = true ∧ (t.get b).layout.present = true ∧
    ((∃ w, ((t.get a).layout.left = some w ∨ (t.get a).layout.right = some w) ∧
        ((t.get b).layout.left = some w ∨ (t.get b).layout.right = some w)) ∨
      ((t.get a).layout.brakeX = (t.get b).layout.brakeX ∧ (t.get a).layout.group ≠ (t.get b).layout.group) ∨
      ((t.get a).layout.liftable = true ∧ (t.get b).layout.liftable = true ∧
        (t.get a).layout.valve2 = (t.get b).layout.valve2))

theorem axlesClash_symm {a b : AxleId} (h : axlesClash t a b) : axlesClash t b a := by
  obtain ⟨hne, ha, hb, h⟩ := h
  refine ⟨hne.symm, hb, ha, ?_⟩
  rcases h with ⟨w, h1, h2⟩ | ⟨h1, h2⟩ | ⟨h1, h2, h3⟩
  · exact .inl ⟨w, h2, h1⟩
  · exact .inr (.inl ⟨h1.symm, h2.symm⟩)
  · exact .inr (.inr ⟨h2, h1, h3.symm⟩)

theorem clash_iff {a b : AxleId} (hne : a ≠ b) :
    clash (t.get a).layout (t.get b).layout = true ↔ axlesClash t a b := by
  have hw : ∀ (x : AxleLayout) (w : WheelId), w ∈ x.left.toList ++ x.right.toList ↔ x.left = some w ∨ x.right = some w :=
    fun x w => by simp
  unfold clash axlesClash
  simp only [Bool.and_eq_true, Bool.or_eq_true, List.any_eq_true, List.contains_iff_mem, decide_eq_true_eq, hw, and_assoc,
    or_assoc, ne_eq, hne, not_false_eq_true, true_and]

theorem namesTwice_iff (x : AxleLayout) :
    namesTwice x = true ↔ x.present = true ∧ ∃ w, x.left = some w ∧ x.right = some w := by
  unfold namesTwice
  cases x.left with
  | none => simp
  | some w => simp [eq_comm (a := some w)]

theorem groupStands_iff (g : GroupId) : groupStands t g = true ↔
    ∃ b, (t.get b).layout.present = true ∧ (t.get b).layout.group = g ∧ (t.get b).layout.liftable = false := by
  unfold groupStands
  rw [countAxles_ne_zero]
  simp [AxleLayout.serves, and_assoc]

/-- R64: an axle fails by its own fields or by a clash; of two that clash, the later one at least. -/
theorem failsAt_of {a : AxleId} (h : standsAlone t third a ∨ ∃ b : AxleId, b.number < a.number ∧ axlesClash t a b) :
    failsAt t third a = true := by
  unfold failsAt
  simp only [Bool.or_eq_true, Bool.and_eq_true, decide_eq_true_eq, Bool.not_eq_true']
  rcases h with (h | ⟨hp, hx, ht⟩ | ⟨hp, hg⟩ | h) | ⟨b, hb, hc⟩
  · exact .inl (.inl (.inl (.inl ((namesTwice_iff _).2 h))))
  · exact .inl (.inl (.inr ⟨⟨hp, hx⟩, ht⟩))
  · refine .inl (.inr ⟨hp, ?_⟩)
    rw [← Bool.not_eq_true, groupStands_iff]
    rintro ⟨b, h1, h2, h3⟩
    rw [hg b h1 h2] at h3; cases h3
  · exact .inr h
  · refine .inl (.inl (.inl (.inr ?_)))
    rw [List.any_eq_true]
    refine ⟨b, b.mem_list, ?_⟩
    have hne : b ≠ a := fun hc => by subst hc; omega
    simp only [Bool.and_eq_true, Bool.or_eq_true, decide_eq_true_eq]
    exact ⟨⟨hne, .inr hb⟩, (clash_iff hne).2 (axlesClash_symm hc)⟩

theorem of_failsAt {a : AxleId} (h : failsAt t third a = true) : standsAlone t third a ∨ ∃ b, axlesClash t a b := by
  unfold failsAt at h
  simp only [Bool.or_eq_true, Bool.and_eq_true, decide_eq_true_eq, Bool.not_eq_true'] at h
  rcases h with (((h | h) | ⟨⟨hp, hx⟩, ht⟩) | ⟨hp, hg⟩) | h
  · exact .inl (.inl ((namesTwice_iff _).1 h))
  · rw [List.any_eq_true] at h
    obtain ⟨b, -, h⟩ := h
    simp only [Bool.and_eq_true, decide_eq_true_eq] at h
    exact .inr ⟨b, axlesClash_symm ((clash_iff h.1.1).1 h.2)⟩
  · exact .inl (.inr (.inl ⟨hp, hx, ht⟩))
  · refine .inl (.inr (.inr (.inl ⟨hp, fun b h1 h2 => ?_⟩)))
    rw [← Bool.not_eq_true, groupStands_iff] at hg
    by_contra h3
    exact hg ⟨b, h1, h2, by simpa using h3⟩
  · exact .inl (.inr (.inr (.inr h)))

theorem inconsistentAt_of_present (h : t.a1.layout.present = true) :
    inconsistentAt t third = AxleId.list.find? (failsAt t third) := by
  simp [inconsistentAt, h]

theorem inconsistentAt_none (h : t.a1.layout.present = true) :
    inconsistentAt t third = none ↔ ∀ a, ¬standsAlone t third a ∧ ∀ b, ¬axlesClash t a b := by
  rw [inconsistentAt_of_present h, List.find?_eq_none]
  constructor
  · intro hn a
    have hf : ∀ a, ¬failsAt t third a = true := fun a => hn a a.mem_list
    refine ⟨fun hc => hf a (failsAt_of (.inl hc)), fun b hc => ?_⟩
    have hnum : a.number ≠ b.number := fun he => hc.1 (by cases a <;> cases b <;> first | rfl | cases he)
    rcases Nat.lt_or_gt_of_ne hnum with hlt | hlt
    · exact hf b (failsAt_of (.inr ⟨a, hlt, axlesClash_symm hc⟩))
    · exact hf a (failsAt_of (.inr ⟨b, hlt, hc⟩))
  · intro hn a _ hf
    rcases of_failsAt hf with hc | ⟨b, hc⟩
    · exact (hn a).1 hc
    · exact (hn a).2 b hc

theorem AxleId.list_number {i : Nat} (h : i < AxleId.list.length) : AxleId.list[i].number = i + 1 := by
  have hall : ∀ i : Fin 5, (AxleId.list[i]).number = i + 1 := by decide
  exact hall ⟨i, h⟩

theorem AxleId.list_get (a : AxleId) : AxleId.list[a.number - 1]? = some a := by cases a <;> rfl

/-- The axles stand in the list in the order of their numbers. -/
theorem AxleId.find_first {f : AxleId → Bool} {a : AxleId} : AxleId.list.find? f = some a ↔
    f a = true ∧ ∀ b : AxleId, b.number < a.number → f b = false := by
  have hget : ∀ b : AxleId, ∃ h : b.number - 1 < AxleId.list.length, AxleId.list[b.number - 1] = b := fun b =>
    List.getElem?_eq_some_iff.1 (AxleId.list_get b)
  have hpos : ∀ b : AxleId, 1 ≤ b.number := fun b => (AxleId.number_mem b).1
  rw [List.find?_eq_some_iff_getElem]
  refine and_congr_right fun _ => ⟨?_, fun hb => ?_⟩
  · rintro ⟨i, hi, rfl, hj⟩ b hb
    rw [AxleId.list_number hi] at hb
    obtain ⟨hlt, he⟩ := hget b
    have := hj (b.number - 1) (by have := hpos b; omega)
    rw [he] at this
    simpa using this
  · obtain ⟨hlt, he⟩ := hget a
    refine ⟨a.number - 1, hlt, he, fun j hj => ?_⟩
    have hjl : j < AxleId.list.length := by omega
    have := hb AxleId.list[j] (by rw [AxleId.list_number hjl]; have := hpos a; omega)
    simp [this]

/-- R165: the fields that the three bytes of an axle spell. -/
theorem axlesAt_fields {p : Params} {t : PerAxle StoredAxle} {a : AxleId} {i : Nat} (h : axlesAt p = .ok t)
    (hi : i = 3 * (a.number - 1)) :
    (t.get a).layout.present = (p.bytes.getD i 0).getLsbD 0 ∧ (t.get a).layout.dual = (p.bytes.getD i 0).getLsbD 1 ∧
      (t.get a).layout.liftable = (p.bytes.getD i 0).getLsbD 2 ∧
      (t.get a).layout.valve2 = (p.bytes.getD i 0).getLsbD 3 ∧
      ((t.get a).layout.group = .g2 ↔ (p.bytes.getD i 0).getLsbD 4 = true) ∧
      (t.get a).layout.brakeX = (p.bytes.getD i 0).getLsbD 5 ∧
      ((t.get a).layout.left.map WheelId.number).getD 0 = byteAt p (i + 1) / 16 ∧
      ((t.get a).layout.right.map WheelId.number).getD 0 = byteAt p (i + 1) % 16 ∧
      ((t.get a).mode = .auto ↔ byteAt p (i + 2) = 0) ∧ ((t.get a).mode = .heldDown ↔ byteAt p (i + 2) = 1) ∧
      ((t.get a).mode = .heldUp ↔ byteAt p (i + 2) = 2) := by
  subst hi
  obtain ⟨l, r, m, hl, hr, hm, hx⟩ := axleAt_ok (axlesAt_get h a)
  rw [hx]
  refine ⟨rfl, rfl, rfl, rfl, ?_, rfl, sensorOf_some hl, sensorOf_some hr, liftModeOf_some hm⟩
  generalize (p.bytes.getD (3 * (a.number - 1)) 0).getLsbD 4 = b
  cases b <;> simp

theorem inconsistentAt_some {a : AxleId} (h : t.a1.layout.present = true) (ha : inconsistentAt t third = some a) :
    (standsAlone t third a ∨ ∃ b, axlesClash t a b) ∧ ∀ b : AxleId, b.number < a.number →
      ¬standsAlone t third b ∧ ∀ d : AxleId, d.number < b.number → ¬axlesClash t b d := by
  rw [inconsistentAt_of_present h, AxleId.find_first] at ha
  obtain ⟨hf, hb⟩ := ha
  have hno : ∀ b : AxleId, b.number < a.number → ¬failsAt t third b = true := fun b hlt => by rw [hb b hlt]; simp
  exact ⟨of_failsAt hf, fun b hlt => ⟨fun hc => hno b hlt (failsAt_of (.inl hc)),
    fun d hd hc => hno b hlt (failsAt_of (.inr ⟨d, hd, hc⟩))⟩⟩

end

end Sys2Proof.Machine
end

section
/-! SUPPORT. What an accepted Write Axle Layout makes of axles, positions, groups and pairs (R17, R25, R65, R73). -/
namespace Sys2Proof.Machine

/-! ### Folds of an operation over records -/

section
variable {ι : Type} {P Q : State → Prop} {f : State → ι → State} {l : List ι} {q : ι} {s : State}

/-- What the step of one record reaches and every other step keeps, the fold reaches. -/
theorem foldl_reaches [DecidableEq ι] (hP : ∀ t p, P t → P (f t p)) (hQ : ∀ t p, P t → Q t → Q (f t p))
    (hq : ∀ t, P t → Q (f t q)) (h : q ∈ l) (hs : P s) : Q (l.foldl f s) := by
  induction l generalizing s with
  | nil => cases h
  | cons p l ih =>
    by_cases hqp : q = p
    · subst hqp
      exact (State.foldl_keeps (P := fun t => P t ∧ Q t) (fun t p ht => ⟨hP t p ht.1, hQ t p ht.1 ht.2⟩) l
        ⟨hP s q hs, hq s hs⟩).2
    · exact ih (List.mem_of_ne_of_mem hqp h) (hP s p hs)

end

/-! ### Notices and pairs of the retired positions -/

theorem mask_or_keeps {m b : Mask} (x : Mask) (h : m &&& b = b) : (m ||| x) &&& b = b := by
  ext i hi
  have := congrArg (fun y : Mask => y[i]) h
  simp only [BitVec.getElem_and, BitVec.getElem_or] at this ⊢
  cases hb : b[i] <;> simp [hb] at this ⊢
  exact .inl this

theorem mask_or_self (m b : Mask) : (m ||| b) &&& b = b := by
  ext i hi
  simp only [BitVec.getElem_and, BitVec.getElem_or]
  cases b[i] <;> simp

section
variable {s : State}

theorem State.clearBound_notices (p : Position) : ∃ x m, (s.clearBound p).port.notices =
    { s.port.notices with tyreLevel := s.port.notices.tyreLevel ||| x, pairMismatch := m } := by
  obtain ⟨pairs, m, h⟩ := comparePairOf_frame ((s.setPosition p (s.position p).emptied).noteLevels p (s.position p)) p
  unfold State.clearBound
  dsimp only
  rw [h]
  unfold State.noteLevels
  split
  · exact ⟨0, m, by simp⟩
  · exact ⟨bit p.index, m, rfl⟩

/-- R15, R25: a retiring step adds to two of the masks. -/
theorem State.retireStep_masks (old : PerAxle AxleRecord) (p : Position) :
    ∃ x y, (s.retireStep old p).port.notices.positionsRetired = s.port.notices.positionsRetired ||| x ∧
      (s.retireStep old p).port.notices.tyreLevel = s.port.notices.tyreLevel ||| y := by
  by_cases hr : s.retires old p
  · rw [State.retireStep_of_retires hr, State.notePositionRetired_eq]
    rcases (s.position p).state.cases_bound with h | h | h
    · exact absurd h hr.2.2
    · rw [State.retirePosition_learning h]
      cases hw : s.intake.window with
      | none => rw [State.cancelWindow_none hw]; exact ⟨bit p.index, 0, rfl, by simp⟩
      | some w => rw [State.cancelWindow_some hw]; exact ⟨bit p.index, 0, rfl, by simp⟩
    · obtain ⟨x, m, hn⟩ := s.clearBound_notices p
      rw [State.retirePosition_bound h, hn]
      exact ⟨bit p.index, x, rfl, rfl⟩
  · rw [State.retireStep_of_not_retires hr]
    exact ⟨0, 0, by simp, by simp⟩

/-- What retiring a position reaches and every other retiring step keeps, a layout that retires it reaches. -/
theorem State.retireByLayout_reaches {Q : State → Prop} {old : PerAxle AxleRecord} {q : Position} (hs : s.BoundLaws)
    (h : s.retires old q) (hQ : ∀ (t : State) p, t.BoundLaws → Q t → Q (t.retireStep old p))
    (hq : ∀ t : State, t.BoundLaws → t.position q = s.position q → Q ((t.retirePosition q).notePositionRetired q)) :
    Q (s.retireByLayout old) := by
  have hstep : ∀ t, t.BoundLaws → t.loads = s.loads → (t.position q = s.position q ∨ Q t) → Q (t.retireStep old q) := by
    intro t ht hl hor
    rcases hor with hp | hQt
    · have hr : t.retires old q := by
        unfold State.retires at h ⊢
        rwa [hp, State.positionExists_eq hl]
      rw [State.retireStep_of_retires hr]
      exact hq t ht hp
    · exact hQ t q ht hQt
  refine foldl_reaches (P := fun t => t.BoundLaws ∧ t.loads = s.loads ∧ (t.position q = s.position q ∨ Q t))
    (f := State.retireStep old) (fun t p ⟨ht, hl, hor⟩ => ⟨t.retireStep_boundLaws old p ht,
      (t.retireStep_loads old p).trans hl, ?_⟩) (fun t p ht => hQ t p ht.1) (fun t ⟨ht, hl, hor⟩ => hstep t ht hl hor)
    q.mem_list ⟨hs, rfl, .inl rfl⟩
  by_cases hp : q = p
  · subst hp
    exact .inr (hstep t ht hl hor)
  · refine hor.imp (fun h' => ?_) (hQ t p ht)
    rw [State.retireStep_position old p q ht.learn, if_neg fun hc => hp hc.1, h']

/-- R25: POSITIONS RETIRED names each retired position. -/
theorem State.retireByLayout_noted {old : PerAxle AxleRecord} {q : Position} (hs : s.BoundLaws) (h : s.retires old q) :
    (s.retireByLayout old).port.notices.positionsRetired &&& bit q.index = bit q.index := by
  refine State.retireByLayout_reaches
    (Q := fun t => t.port.notices.positionsRetired &&& bit q.index = bit q.index) hs h (fun t p _ ht => ?_)
    (fun t _ _ => ?_)
  · obtain ⟨x, y, hx, -⟩ := t.retireStep_masks old p
    rw [hx]; exact mask_or_keeps x ht
  · rw [State.notePositionRetired_eq]
    exact mask_or_self _ _

/-- R15, R25: TYRE LEVEL names a retired position whose levels were not NONE or NORMAL. -/
theorem State.retireByLayout_tyreLevel {old : PerAxle AxleRecord} {q : Position} (hs : s.BoundLaws)
    (h : s.retires old q) (hb : (s.position q).state.isBound = true) (hl : (s.position q).levels ≠ (.none, .normal)) :
    (s.retireByLayout old).port.notices.tyreLevel &&& bit q.index = bit q.index := by
  refine State.retireByLayout_reaches
    (Q := fun t => t.port.notices.tyreLevel &&& bit q.index = bit q.index) hs h (fun t p _ ht => ?_)
    (fun t _ hp => ?_)
  · obtain ⟨x, y, -, hy⟩ := t.retireStep_masks old p
    rw [hy]; exact mask_or_keeps y ht
  · rw [← hp] at hb hl
    rw [State.retirePosition_bound hb, State.notePositionRetired_eq]
    obtain ⟨-, hty, -⟩ := t.clearBound_spec q
    rw [if_neg hl] at hty
    refine Eq.trans (congrArg (· &&& bit q.index) ?_) (mask_or_self t.port.notices.tyreLevel (bit q.index))
    exact hty

/-- R25, R40: a layout that retires a LEARNING position cancels its window. -/
theorem State.retireByLayout_learning {old : PerAxle AxleRecord} {q : Position} (hs : s.BoundLaws)
    (h : s.retires old q) (hl : (s.position q).state = .learning) :
    (s.retireByLayout old).intake.window = none ∧
      (s.retireByLayout old).port.notices.learnResult = some (.cancelled, q) := by
  refine State.retireByLayout_reaches
    (Q := fun t => t.intake.window = none ∧ t.port.notices.learnResult = some (.cancelled, q)) hs h
    (fun t p ht hQ => ?_) (fun t ht hp => ?_)
  · by_cases hr : t.retires old p
    · have hb : (t.position p).state.isBound = true := by
        rcases (t.position p).state.cases_bound with h' | h' | h'
        · exact absurd h' hr.2.2
        · obtain ⟨w, hw, -⟩ := State.window_of_learning ht.learn h'
          rw [hQ.1] at hw; cases hw
        · exact h'
      obtain ⟨x, m, hn⟩ := t.clearBound_notices p
      rw [State.retireStep_of_retires hr, State.retirePosition_bound hb, State.notePositionRetired_eq]
      refine ⟨(congrArg Intake.window (t.clearBound_intake p)).trans hQ.1, ?_⟩
      dsimp only [State.setNotices]
      rw [hn]; exact hQ.2
    · rw [State.retireStep_of_not_retires hr]; exact hQ
  · rw [← hp] at hl
    obtain ⟨hw, -, hn⟩ := State.retirePosition_of_learning ht.learn hl
    rw [State.notePositionRetired_eq]
    refine ⟨hw, ?_⟩
    dsimp only [State.setNotices]
    rw [hn]

end

end Sys2Proof.Machine
end

section
/-! SUPPORT. What a group makes of a new layout whose axles are all DOWN (R65 step 3, R73). -/
namespace Sys2Proof.Machine

theorem State.setAxle_self (s : State) (a : AxleId) : s.setAxle a (s.axle a) = s := by cases a <;> rfl

theorem State.setAxle_notPending {s : State} {a : AxleId} (h : (s.axle a).raisePending = false) :
    s.setAxle a { s.axle a with raisePending := false } = s := by
  refine Eq.trans (congrArg (s.setAxle a) ?_) (s.setAxle_self a)
  rw [← h]

theorem State.setGroup_self (s : State) (g : GroupId) : s.setGroup g (s.group g) = s := by cases g <;> rfl

theorem State.setGroup_setGroup (s : State) (g : GroupId) (x y : GroupRecord) :
    (s.setGroup g x).setGroup g y = s.setGroup g y := by cases g <;> rfl

theorem foldl_fixed {α β : Type} {f : α → β → α} {x : α} (l : List β) (h : ∀ b, f x b = x) : l.foldl f x = x := by
  induction l with
  | nil => rfl
  | cons b l ih => rw [List.foldl_cons, h, ih]

/-- R65 step 1: the axles of an accepted layout: DOWN, no raise pending, and none HELD UP. -/
def State.Grounded (s : State) : Prop :=
  ∀ a, (s.axle a).lift = .down ∧ (s.axle a).raisePending = false ∧ (s.axle a).mode ≠ .heldUp

section
variable {s : State} {old : PerAxle AxleRecord} {g : GroupId}

theorem State.Grounded.setGroup (h : s.Grounded) (x : GroupRecord) : (s.setGroup g x).Grounded := h

theorem State.Grounded.boundGroup (h : s.Grounded) : s.boundGroup g = s :=
  foldl_fixed _ fun a => if_neg fun hc => (h a).2.2 hc.1

theorem State.Grounded.inTransition (h : s.Grounded) : s.inTransition g = false := by
  unfold State.inTransition
  rw [List.any_eq_false]
  intro a _
  simp [(h a).1]

theorem State.Grounded.endRaise (h : s.Grounded) :
    s.endRaise g false = s.setGroup g { s.group g with raiseSince := none, raiseDue := false } := by
  unfold State.endRaise
  refine (if_neg (by simp)).trans (foldl_fixed _ fun a => ?_)
  split
  · exact State.setAxle_notPending (h a).2.1
  · rfl

/-- R73: the record of a group that enters use at `now`, from its calibration and its bellows input. -/
def GroupRecord.entering (c : Calibration) (i : AnalogInput) (now : Nat) : GroupRecord :=
  match i.validity with
  | .valid => match i.average with
    | some pb => (GroupRecord.unused c.re).loaded c pb
    | none => .unused c.re
  | .invalid => { GroupRecord.unused c.re with
      status := .held, holdSensor := true, sensorSince := some now, w := c.wl, l := 1000 }
  | .starting => { GroupRecord.unused c.re with status := .held, holdStart := true, w := c.wl, l := 1000 }

def State.entering (s : State) (g : GroupId) : GroupRecord := .entering (s.calibration g) (s.analog g.bellows) s.now

theorem State.analogInUse_bellows : s.analogInUse g.bellows = s.groupInUse g := by cases g <;> rfl

theorem State.Grounded.groupEnters (h : s.Grounded) (hg : s.groupInUse g = true) :
    s.groupEnters g = s.setGroup g (s.entering g) := by
  unfold State.groupEnters State.entering GroupRecord.entering
  cases hv : (s.analog g.bellows).validity with
  | valid =>
    dsimp only
    have ho : (s.setGroup g (.unused (s.calibration g).re)).offered g.bellows = (s.analog g.bellows).average := by
      unfold State.offered
      rw [State.analogInUse_bellows]
      have : (s.setGroup g (.unused (s.calibration g).re)).groupInUse g = true := hg
      simp [this, hv]
    unfold State.formLoad
    rw [ho, State.setGroup_group_self]
    cases (s.analog g.bellows).average with
    | none => rfl
    | some pb =>
      dsimp only [GroupRecord.unused]
      rw [State.Grounded.boundGroup ((h.setGroup _).setGroup _), State.setGroup_setGroup]
      rfl
  | invalid => rfl
  | starting => rfl

/-- R73: the record that a group takes under a new layout, before its count and its measurements follow. -/
def State.taking (s : State) (old : PerAxle AxleRecord) (g : GroupId) : GroupRecord :=
  if s.groupInUse g then if groupHasAxle old g then s.group g else s.entering g else .unused (s.calibration g).re

/-- R65 step 3: a new layout with every axle DOWN reaches the record of the group alone. -/
theorem State.Grounded.regroup (h : s.Grounded) : ∃ since, ((s.taking old g).holdTransition = false →
      since = (s.taking old g).transitionEndSince) ∧
    s.regroup old g = s.setGroup g { s.taking old g with
      n := axlesDown s.loads.axles g, raiseSince := none, raiseDue := false, transitionEndSince := since } := by
  have ht : (if s.groupInUse g then if groupHasAxle old g then s else s.groupEnters g
      else s.setGroup g (.unused (s.calibration g).re)) = s.setGroup g (s.taking old g) := by
    unfold State.taking
    split
    · rename_i hg
      split
      · exact (s.setGroup_self g).symm
      · exact h.groupEnters hg
    · rfl
  unfold State.regroup
  rw [ht]
  dsimp only
  have hc : (s.setGroup g (s.taking old g)).recount g =
      s.setGroup g { s.taking old g with n := axlesDown s.loads.axles g } := by
    unfold State.recount
    rw [State.setGroup_setGroup, State.setGroup_group_self]
    rfl
  rw [hc, State.Grounded.endRaise (h.setGroup _), State.setGroup_setGroup, State.setGroup_group_self]
  unfold State.followTransition
  rw [State.Grounded.inTransition (h.setGroup _), if_neg (by simp)]
  split
  · rename_i hx
    rw [State.setGroup_group_self] at hx
    refine ⟨some s.now, fun hn => ?_, ?_⟩
    · rw [hn] at hx; cases hx
    · rw [State.setGroup_setGroup, State.setGroup_group_self]; rfl
  · exact ⟨_, fun _ => rfl, rfl⟩

/-- R65 step 3: what the groups make of a new layout: their records change, and nothing else. -/
structure State.Regrouped (s : State) (old : PerAxle AxleRecord) (u : State) : Prop where
  frame : u = s.setLoads { s.loads with groups := u.loads.groups }
  record : ∀ g, ∃ since, ((s.taking old g).holdTransition = false → since = (s.taking old g).transitionEndSince) ∧
    u.group g = { s.taking old g with
      n := axlesDown s.loads.axles g, raiseSince := none, raiseDue := false, transitionEndSince := since }

section
variable {u : State} (h : s.Regrouped old u)
include h

theorem State.Regrouped.axles : u.loads.axles = s.loads.axles := by rw [h.frame]; rfl
theorem State.Regrouped.position (q : Position) : u.position q = s.position q := by rw [h.frame]; rfl
theorem State.Regrouped.pair (a : AxleId) (sd : Side) : u.pair a sd = s.pair a sd := by rw [h.frame]; rfl
theorem State.Regrouped.port : u.port = s.port := by rw [h.frame]; rfl
theorem State.Regrouped.intake : u.intake = s.intake := by rw [h.frame]; rfl

end

theorem State.Grounded.regroupAll (h : s.Grounded) :
    s.Regrouped old (GroupId.list.foldl (fun t g => t.regroup old g) s) := by
  obtain ⟨i, hi, h1⟩ := h.regroup (old := old) (g := .g1)
  obtain ⟨j, hj, h2⟩ := (h.setGroup (g := .g1) { s.taking old .g1 with
    n := axlesDown s.loads.axles .g1, raiseSince := none, raiseDue := false, transitionEndSince := i }).regroup
      (old := old) (g := .g2)
  have hu : GroupId.list.foldl (fun t g => t.regroup old g) s = (s.regroup old .g1).regroup old .g2 := rfl
  rw [hu, h1, h2]
  refine ⟨rfl, fun g => ?_⟩
  cases g with
  | g1 => exact ⟨i, hi, rfl⟩
  | g2 => exact ⟨j, hj, rfl⟩

end

end Sys2Proof.Machine
end

section
/-! SUPPORT. What a new layout makes of the pairs (R17), and the whole change that an accepted Write Axle Layout makes of the
positions, the groups and the pairs before it is settled. -/
namespace Sys2Proof.Machine

section
variable {s : State} {old : PerAxle AxleRecord} {a : AxleId} {sd : Side}

/-! ### Retired positions and the pairs -/

theorem layoutHas_of_paired {axles : PerAxle AxleRecord} (h : (axles.get a).layout.paired = true) (sl : Slot) :
    layoutHas axles (.road a sl) = true := by
  simp only [AxleLayout.paired, Bool.and_eq_true] at h
  simp [layoutHas, h]

theorem layoutHas_inner_of_not_paired {axles : PerAxle AxleRecord} (h : (axles.get a).layout.paired = false) :
    layoutHas axles (.road a sd.inner) = false := by
  simp only [AxleLayout.paired, Bool.and_eq_false_iff] at h
  rcases h with h | h <;> cases sd <;> simp [layoutHas, h, Side.inner]

theorem State.clearBound_pair_ne {q : Position} (h : ∀ sl : Slot, q ≠ .road a sl) :
    (s.clearBound q).pair a sd = s.pair a sd := by
  obtain ⟨-, -, hp⟩ := s.clearBound_spec q
  exact hp.kept a sd (.inr fun sl _ hm => h sl (List.mem_singleton.1 hm).symm)

theorem State.retirePosition_pair_ne {q : Position} (h : ∀ sl : Slot, q ≠ .road a sl) :
    (s.retirePosition q).pair a sd = s.pair a sd := by
  rcases (s.position q).state.cases_bound with h' | h' | h'
  · rw [State.retirePosition_empty h']
  · rw [State.retirePosition_learning h']
    cases hw : s.intake.window with
    | none => rw [State.cancelWindow_none hw]
    | some w => rw [State.cancelWindow_some hw]; rfl
  · rw [State.retirePosition_bound h', State.clearBound_pair_ne h]

/-- R17, R25: the pairs of an axle with four positions see nothing of the retired ones. -/
theorem State.retireStep_pair (h : (s.axle a).layout.paired = true) (p : Position) :
    (s.retireStep old p).pair a sd = s.pair a sd := by
  by_cases hr : s.retires old p
  · rw [State.retireStep_of_retires hr]
    refine State.retirePosition_pair_ne fun sl hp => ?_
    have hx := hr.2.1
    rw [hp, State.positionExists, layoutHas_of_paired h] at hx
    cases hx
  · rw [State.retireStep_of_not_retires hr]

theorem State.retireByLayout_pair (h : (s.axle a).layout.paired = true) :
    (s.retireByLayout old).pair a sd = s.pair a sd := by
  refine (State.foldl_keeps (P := fun t => t.loads = s.loads ∧ t.pair a sd = s.pair a sd) (f := State.retireStep old)
    (fun t p ht => ⟨(t.retireStep_loads old p).trans ht.1, (State.retireStep_pair ?_ p).trans ht.2⟩) _ ⟨rfl, rfl⟩).2
  rw [State.axle, ht.1]; exact h

theorem State.retireByLayout_frame : s.OnlyTyresAndIntake (s.retireByLayout old) := by
  refine State.foldl_keeps (P := fun t => s.OnlyTyresAndIntake t) (f := State.retireStep old) (fun t p ht => ?_) _ rfl
  by_cases hr : t.retires old p
  · rw [State.retireStep_of_retires hr]
    refine (ht.trans (State.retirePosition_onlyTyresAndIntake p)).trans ?_
    exact (State.setNotices_onlyTyres _).andIntake
  · rw [State.retireStep_of_not_retires hr]; exact ht

/-! ### The derivation of the pairs -/

/-- R17: from `s` to `t` only pairs and PAIR MISMATCH change. -/
def State.PairsOnly (s t : State) : Prop :=
  t = (s.setTyres { s.tyres with pairs := t.tyres.pairs }).setNotices
    { s.port.notices with pairMismatch := t.port.notices.pairMismatch }

theorem State.PairsOnly.trans {t u : State} (h : s.PairsOnly t) (k : t.PairsOnly u) : s.PairsOnly u := by
  unfold State.PairsOnly at h k ⊢
  rw [k, h]; rfl

theorem State.PairsOnly.position {t : State} (h : s.PairsOnly t) (q : Position) : t.position q = s.position q := by
  rw [h]; rfl

theorem State.PairsOnly.loads {t : State} (h : s.PairsOnly t) : t.loads = s.loads := by
  rw [h]; rfl

theorem State.PairsOnly.intake {t : State} (h : s.PairsOnly t) : t.intake = s.intake := by
  rw [h]; rfl

theorem State.PairsOnly.notices {t : State} (h : s.PairsOnly t) :
    ∃ m, t.port.notices = { s.port.notices with pairMismatch := m } := by
  rw [h]; exact ⟨_, rfl⟩

theorem State.PairsOnly.context {t : State} (h : s.PairsOnly t) :
    t.inputs = s.inputs ∧ t.settings = s.settings ∧ t.now = s.now := by
  rw [h]; exact ⟨rfl, rfl, rfl⟩

theorem State.OnlyTyresAndIntake.context {t : State} (h : s.OnlyTyresAndIntake t) :
    t.inputs = s.inputs ∧ t.settings = s.settings ∧ t.now = s.now := by
  rw [h]; exact ⟨rfl, rfl, rfl⟩

theorem State.comparePair_pairsOnly (b : AxleId) (e : Side) : s.PairsOnly (s.comparePair b e) := comparePair_frame s b e

theorem State.setPair_pairsOnly (b : AxleId) (e : Side) (x : PairState) : s.PairsOnly (s.setPair b e x) := rfl

theorem State.derivePairs_pairsOnly (b : AxleId) : s.PairsOnly (s.derivePairs old b) := by
  unfold State.derivePairs
  split
  · split
    · rfl
    · exact (((s.setPair_pairsOnly b .left .unordered).trans (State.setPair_pairsOnly b .right .unordered)).trans
        (State.comparePair_pairsOnly b .left)).trans (State.comparePair_pairsOnly b .right)
  · exact (s.setPair_pairsOnly b .left .notAPair).trans (State.setPair_pairsOnly b .right .notAPair)

theorem State.derivePairs_pair_ne {b : AxleId} (h : a ≠ b) : (s.derivePairs old b).pair a sd = s.pair a sd := by
  have hset : ∀ (t : State) e x, (t.setPair b e x).pair a sd = t.pair a sd := fun t e x => by
    rw [State.setPair_pair, if_neg fun hc => h hc.1]
  have hcmp : ∀ (t : State) e, (t.comparePair b e).pair a sd = t.pair a sd := fun t e => by
    rw [comparePair_pair, if_neg fun hc => h hc.1.1]
  unfold State.derivePairs
  split
  · split
    · rfl
    · rw [hcmp, hcmp, hset, hset]
  · rw [hset, hset]

/-- R18: a pair whose inner member is EMPTY is compared to UNORDERED. -/
theorem State.comparePair_of_empty {e : Side} (h : ∀ d : Side, (s.position (.road a d.inner)).state = .empty)
    (hp : s.pair a sd = .unordered) :
    (s.comparePair a e).pair a sd = .unordered := by
  rw [comparePair_pair]
  split
  · refine State.comparedPair_unordered s a e (.inl rfl) (State.judgeable_eq_none s (.inl ?_))
    rw [h]; simp
  · exact hp

/-- R17: the pairs of one axle under a new layout. -/
theorem State.derivePairs_pair
    (h : (old.get a).layout.paired = false → ∀ d : Side, (s.position (.road a d.inner)).state = .empty) :
    (s.derivePairs old a).pair a sd = if (s.axle a).layout.paired = true then
      if (old.get a).layout.paired = true then s.pair a sd else .unordered else .notAPair := by
  unfold State.derivePairs
  split
  · split
    · rfl
    · rename_i hn
      have he := h (by simpa using hn)
      refine State.comparePair_of_empty (fun d => ?_) (State.comparePair_of_empty (fun d => ?_) ?_)
      · rw [(State.comparePair_pairsOnly a .left).position]; exact he d
      · exact he d
      · cases sd <;> simp [State.setPair_pair]
  · cases sd <;> simp [State.setPair_pair]

theorem AxleId.list_nodup : AxleId.list.Nodup := by decide

theorem State.deriveAllPairs_pairsOnly : s.PairsOnly (s.deriveAllPairs old) :=
  State.foldl_keeps (P := fun t => s.PairsOnly t) (f := fun t b => t.derivePairs old b)
    (fun _ b ht => ht.trans (State.derivePairs_pairsOnly b)) _ rfl

/-- R17: the pairs under a new layout. -/
theorem State.deriveAllPairs_pair
    (h : (old.get a).layout.paired = false → ∀ d : Side, (s.position (.road a d.inner)).state = .empty) :
    (s.deriveAllPairs old).pair a sd = if (s.axle a).layout.paired = true then
      if (old.get a).layout.paired = true then s.pair a sd else .unordered else .notAPair := by
  obtain ⟨u, hu, h1, h2⟩ := foldl_read (P := fun t => s.PairsOnly t) (read := fun t b => t.pair b sd)
    (f := fun t b => t.derivePairs old b) (fun t b c _ hc => State.derivePairs_pair_ne hc)
    (fun t b ht => ht.trans (State.derivePairs_pairsOnly b)) AxleId.list_nodup (by cases a <;> decide : a ∈ AxleId.list)
    (show s.PairsOnly s from rfl)
  refine h2.trans ?_
  rw [State.derivePairs_pair fun hn d => by rw [hu.position]; exact h hn d, h1]
  unfold State.axle
  rw [hu.loads]

/-! ### The whole change -/

theorem State.taking_congr {t : State} {g : GroupId} (hl : t.loads = s.loads) (hi : t.inputs = s.inputs)
    (hs : t.settings = s.settings) (hn : t.now = s.now) : t.taking old g = s.taking old g := by
  unfold State.taking State.entering State.groupInUse State.group State.analog State.calibration
  rw [hl, hi, hs, hn]

section
variable {x : PerAxle StoredAxle} {c n : Nat}

/-- R65: the layout in force before its consequences leaves every axle on the road. -/
theorem State.laid_grounded (hd : ∀ a, (s.axle a).lift = .down) : (s.laid x c n).Grounded := fun a => by
  rw [State.laid_axle]
  refine ⟨hd a, rfl, ?_⟩
  cases (x.get a).mode <;> simp [AxleRecord.relaid, notHeldUp]

/-- R65 steps 2 and 3: the positions and pairs as they stand when the groups follow the layout. -/
def State.derived (s : State) (x : PerAxle StoredAxle) (c n : Nat) : State :=
  ((s.laid x c n).retireByLayout s.loads.axles).deriveAllPairs s.loads.axles

theorem State.derived_pairsOnly : ((s.laid x c n).retireByLayout s.loads.axles).PairsOnly (s.derived x c n) :=
  State.deriveAllPairs_pairsOnly

theorem State.derived_loads : (s.derived x c n).loads = (s.laid x c n).loads :=
  State.derived_pairsOnly.loads.trans (State.retireByLayout_loads _)

theorem State.writeLayout_regrouped (hd : ∀ a, (s.axle a).lift = .down) :
    (s.derived x c n).Regrouped s.loads.axles (s.writeLayout x c n) := by
  refine State.Grounded.regroupAll fun a => ?_
  rw [State.axle, State.derived_loads]
  exact State.laid_grounded hd a

theorem State.writeLayout_axles (hd : ∀ a, (s.axle a).lift = .down) :
    (s.writeLayout x c n).loads.axles = (s.laid x c n).loads.axles :=
  (State.writeLayout_regrouped hd).axles.trans (congrArg Loads.axles State.derived_loads)

theorem State.writeLayout_axle (hd : ∀ a, (s.axle a).lift = .down) (a : AxleId) : (s.writeLayout x c n).axle a =
    (s.axle a).relaid { x.get a with mode := notHeldUp (x.get a).mode } := by
  rw [← State.laid_axle, State.axle, State.writeLayout_axles hd, State.axle]

theorem State.writeLayout_settings : (s.writeLayout x c n).settings =
    { s.settings with circumference := c, teeth := n } := by
  rw [State.writeLayout_eq, State.settings_of_setup (State.followLayout_setup _ _), State.laid_settings]

theorem State.writeLayout_exists (hd : ∀ a, (s.axle a).lift = .down) (q : Position) :
    (s.writeLayout x c n).positionExists q = (s.laid x c n).positionExists q := by
  rw [State.positionExists, State.writeLayout_axles hd, State.positionExists]

/-- R25: the positions that the layout of a request retires. -/
def State.retiredBy (s : State) (x : PerAxle StoredAxle) (c n : Nat) (q : Position) : Prop :=
  (s.laid x c n).retires s.loads.axles q

theorem State.retiredBy_iff (hs : s.TableLaws) (hd : ∀ a, (s.axle a).lift = .down) {q : Position} :
    s.retiredBy x c n q ↔ (s.writeLayout x c n).positionExists q = false ∧ (s.position q).state ≠ .empty := by
  unfold State.retiredBy State.retires
  rw [State.writeLayout_exists hd, State.laid_position]
  refine ⟨fun h => h.2, fun h => ⟨?_, h⟩⟩
  by_contra hne
  exact h.2 (hs.exist q (Bool.eq_false_iff.2 hne))

theorem State.laid_boundLaws (hs : s.TableLaws) : (s.laid x c n).BoundLaws :=
  ⟨fun q => by rw [State.laid_position]; exact hs.binding q,
    fun q => by rw [State.laid_position, State.laid_intake]; exact hs.learn q,
    fun p q b hp hq => by rw [State.laid_position] at hp hq; exact hs.id.1 p q b hp hq,
    fun p b c hp hc => by rw [State.laid_position] at hp; rw [State.laid_intake] at hc; exact hs.id.2 p b c hp hc⟩

theorem State.derived_position (q : Position) :
    (s.derived x c n).position q = ((s.laid x c n).retireByLayout s.loads.axles).position q :=
  State.derived_pairsOnly.position q

open Classical in
/-- R24, R25: the records under a new layout. -/
theorem State.writeLayout_position (hs : s.TableLaws) (hd : ∀ a, (s.axle a).lift = .down) (q : Position) :
    (s.writeLayout x c n).position q = if s.retiredBy x c n q then (s.position q).emptied else s.position q := by
  rw [(State.writeLayout_regrouped hd).position, State.derived_position, State.retireByLayout_position _ (State.laid_boundLaws hs),
    State.laid_position]
  exact if_congr Iff.rfl rfl rfl

/-- R25: what the retired positions leave in the learn window and in the notices. -/
theorem State.writeLayout_retired (hs : s.TableLaws) (hd : ∀ a, (s.axle a).lift = .down) {q : Position}
    (h : s.retiredBy x c n q) :
    (s.writeLayout x c n).port.notices.positionsRetired &&& bit q.index = bit q.index ∧
      ((s.position q).state.isBound = true → (s.position q).levels ≠ (.none, .normal) →
        (s.writeLayout x c n).port.notices.tyreLevel &&& bit q.index = bit q.index) ∧
      ((s.position q).state = .learning → (s.writeLayout x c n).intake.window = none ∧
        (s.writeLayout x c n).port.notices.learnResult = some (.cancelled, q)) := by
  have hb := State.laid_boundLaws (x := x) (c := c) (n := n) hs
  obtain ⟨m, hn⟩ := (State.derived_pairsOnly (s := s) (x := x) (c := c) (n := n)).notices
  rw [(State.writeLayout_regrouped hd).port, (State.writeLayout_regrouped hd).intake, hn,
    State.derived_pairsOnly.intake]
  refine ⟨State.retireByLayout_noted hb h, fun hbd hl => State.retireByLayout_tyreLevel hb h ?_ ?_,
    fun hl => State.retireByLayout_learning hb h ?_⟩ <;> rw [State.laid_position] <;> assumption

/-- R17: the pairs under a new layout. -/
theorem State.writeLayout_pair (hs : s.TableLaws) (hd : ∀ a, (s.axle a).lift = .down) :
    (s.writeLayout x c n).pair a sd = if ((s.writeLayout x c n).axle a).layout.paired = true then
      if (s.axle a).layout.paired = true then s.pair a sd else .unordered else .notAPair := by
  have ha : (((s.laid x c n).retireByLayout s.loads.axles).axle a) = (s.writeLayout x c n).axle a := by
    rw [State.axle, State.axle, State.retireByLayout_loads, State.writeLayout_axles hd]
  have hl : ∀ b e, (s.laid x c n).pair b e = s.pair b e := fun b e => by simp [State.pair]
  rw [(State.writeLayout_regrouped hd).pair, State.derived, State.deriveAllPairs_pair, ha]
  · split
    · rename_i hp
      rw [State.retireByLayout_pair, hl]
      · rfl
      · rw [State.axle, ← State.retireByLayout_loads s.loads.axles, ← State.axle, ha]; exact hp
    · rfl
  · intro hn d
    have he : (s.position (.road a d.inner)).state = .empty := hs.exist _ (layoutHas_inner_of_not_paired hn)
    rw [← State.derived_position, ← (State.writeLayout_regrouped hd).position, State.writeLayout_position hs hd, if_neg]
    · exact he
    · exact fun h => h.2.2 (by rw [State.laid_position]; exact he)

theorem State.laid_inputs : (s.laid x c n).inputs = s.inputs := by
  obtain ⟨axles, h⟩ := s.laid_frame x c n
  rw [h]; rfl

theorem State.laid_now : (s.laid x c n).now = s.now := by
  obtain ⟨axles, h⟩ := s.laid_frame x c n
  rw [h]; rfl

theorem State.writeLayout_inUse (hd : ∀ a, (s.axle a).lift = .down) (g : GroupId) :
    (s.writeLayout x c n).groupInUse g = (s.laid x c n).groupInUse g := by
  rw [State.groupInUse, State.writeLayout_axles hd, State.groupInUse]

/-- R73: the groups under a new layout. -/
theorem State.writeLayout_group (hd : ∀ a, (s.axle a).lift = .down) (g : GroupId) :
    ∃ (r : GroupRecord) (since : Option Nat),
    r = (if (s.writeLayout x c n).groupInUse g = true then if s.groupInUse g = true then s.group g else s.entering g
      else .unused (s.calibration g).re) ∧
    (r.holdTransition = false → since = r.transitionEndSince) ∧
    (s.writeLayout x c n).group g = { r with
      n := axlesDown (s.writeLayout x c n).loads.axles g, raiseSince := none, raiseDue := false,
      transitionEndSince := since } := by
  obtain ⟨since, h1, h2⟩ := (State.writeLayout_regrouped hd (x := x) (c := c) (n := n)).record g
  have hax := congrArg Loads.axles (State.derived_loads (s := s) (x := x) (c := c) (n := n))
  rw [← State.writeLayout_axles hd] at hax
  obtain ⟨hi, hse, hno⟩ := (State.derived_pairsOnly (s := s) (x := x) (c := c) (n := n)).context
  obtain ⟨hi', hse', hno'⟩ := (State.retireByLayout_frame (s := s.laid x c n) (old := s.loads.axles)).context
  have ht : (s.derived x c n).taking s.loads.axles g = (s.laid x c n).taking s.loads.axles g :=
    State.taking_congr (s := s.laid x c n) (t := s.derived x c n) State.derived_loads (hi.trans hi') (hse.trans hse')
      (hno.trans hno')
  refine ⟨_, since, ?_, h1, by rw [← hax]; exact h2⟩
  rw [ht, State.writeLayout_inUse hd]
  unfold State.taking State.entering State.group State.analog State.calibration State.groupInUse
  rw [State.laid_inputs, State.laid_now, State.laid_groups, State.laid_settings]

end

end

end Sys2Proof.Machine
end

section
/-! SUPPORT. Settles O44: the axle layout (R17, R25, R64, R65, R73). -/
namespace Sys2Proof.Machine

/-- R73: a group that enters use, by its bellows input. -/
theorem GroupRecord.entering_spec (c : Calibration) (i : AnalogInput) (now : Nat) :
    let r := GroupRecord.entering c i now
    r.holdTransition = false ∧ r.holdRoll = false ∧
    (∀ pb, i.validity = .valid → i.average = some pb → r.status = .valid ∧ r.holdStart = false ∧ r.holdSensor = false ∧
      r.w = loadW c pb ∧ r.l = loadL c (loadW c pb)) ∧
    (i.validity ≠ .valid → r.status = .held ∧ r.w = c.wl ∧ r.l = 1000) ∧
    (i.validity = .invalid → r.holdStart = false ∧ r.holdSensor = true ∧ r.sensorSince = some now) ∧
    (i.validity = .starting → r.holdStart = true ∧ r.holdSensor = false ∧ r.sensorSince = none) := by
  unfold GroupRecord.entering
  cases i.validity with
  | valid => cases i.average <;> simp [GroupRecord.unused, GroupRecord.loaded]
  | invalid => simp [GroupRecord.unused]
  | starting => simp [GroupRecord.unused]

theorem axlesDown_of_unused {axles : PerAxle AxleRecord} {g : GroupId} (h : groupHasAxle axles g = false) :
    axlesDown axles g = 0 := by
  by_contra hne
  have := (countAxles_ne_zero (fun a : AxleRecord => a.layout.serves g && decide (a.lift = .down)) axles).1
    (bne_iff_ne.2 hne)
  obtain ⟨a, ha⟩ := this
  have hu : groupHasAxle axles g = true := (countAxles_ne_zero _ axles).2 ⟨a, by
    simp only [Bool.and_eq_true] at ha
    exact ha.1⟩
  rw [h] at hu; cases hu

section
variable {s : State} {dt : Nat} {p : Params} {t : PerAxle StoredAxle} {x : PerAxle StoredAxle} {c n : Nat}

/-! ### The answers of the request -/

theorem exec_writeAxleLayout (h : s.powered = true) : exec (.writeAxleLayout dt p) s =
    .next ((s.elapse dt).request 0x41 p (exactly 18) (State.writeAxleLayout p)) :=
  congrArg Host.Outcome.next (State.live_on h dt _)

variable (hm : s.mode.workshop = .ready)
include hm

theorem State.writeAxleLayout_field {i : Nat} (h : axlesAt p = .error i) :
    s.writeAxleLayout p = s.refuse .badParameter (namedAt i) := by
  unfold State.writeAxleLayout State.gated
  rw [if_pos hm, h]

theorem State.writeAxleLayout_wheels {m : Named} (h : axlesAt p = .ok t)
    (hw : wheelRefusal (wordAt p 15) (byteAt p 17) = some m) : s.writeAxleLayout p = s.refuse .badParameter m := by
  unfold State.writeAxleLayout State.gated
  rw [if_pos hm, h]
  dsimp only
  rw [hw]

variable (ht : axlesAt p = .ok t) (hw : wheelRefusal (wordAt p 15) (byteAt p 17) = none)
include ht hw

theorem State.writeAxleLayout_lifted {a : AxleId} (ha : (s.axle a).lift ≠ .down)
    (hb : ∀ b : AxleId, b.number < a.number → (s.axle b).lift = .down) :
    s.writeAxleLayout p = s.refuse .conflict (namedAxle a) := by
  have hf : (AxleId.list.find? fun a => decide ((s.axle a).lift ≠ .down)) = some a :=
    AxleId.find_first.2 ⟨by simpa using ha, fun b hlt => by simpa using hb b hlt⟩
  unfold State.writeAxleLayout State.gated
  rw [if_pos hm, ht]
  dsimp only
  rw [hw]
  dsimp only
  rw [hf]

variable (hd : ∀ a, (s.axle a).lift = .down)
include hd

theorem State.writeAxleLayout_down : s.writeAxleLayout p = (inconsistentAt t s.settings.third).elim
    ((s.writeLayout t (wordAt p 15) (byteAt p 17)).carry noData) fun a => s.refuse .conflict (namedAxle a) := by
  have hf : (AxleId.list.find? fun a => decide ((s.axle a).lift ≠ .down)) = none :=
    List.find?_eq_none.2 fun a _ => by simp [hd a]
  unfold State.writeAxleLayout State.gated
  rw [if_pos hm, ht]
  dsimp only
  rw [hw]
  dsimp only
  rw [hf]
  cases inconsistentAt t s.settings.third <;> rfl

theorem State.writeAxleLayout_inconsistent {a : AxleId} (h : inconsistentAt t s.settings.third = some a) :
    s.writeAxleLayout p = s.refuse .conflict (namedAxle a) := by
  rw [State.writeAxleLayout_down hm ht hw hd, h, Option.elim_some]

theorem State.writeAxleLayout_done (h : inconsistentAt t s.settings.third = none) : s.writeAxleLayout p =
    ((s.writeLayout t (wordAt p 15) (byteAt p 17)).settle, .done []) := by
  rw [State.writeAxleLayout_down hm ht hw hd, h]
  rfl

end

/-! ### The accepted layout -/

section
variable {s : State} {x : PerAxle StoredAxle} {c n : Nat} (hd : ∀ a, (s.axle a).lift = .down)
include hd

theorem State.writeLayout_axles_spec (a : AxleId) : ((s.writeLayout x c n).axle a).layout = (x.get a).layout ∧
    ((s.writeLayout x c n).axle a).mode = (if (x.get a).mode = .heldDown then .heldDown else .auto) ∧
    ((s.writeLayout x c n).axle a).lift = .down ∧ ((s.writeLayout x c n).axle a).raisePending = false ∧
    ((s.writeLayout x c n).axle a).conflict = false := by
  rw [State.writeLayout_axle hd]
  refine ⟨rfl, ?_, hd a, rfl, rfl⟩
  cases (x.get a).mode <;> simp [AxleRecord.relaid, notHeldUp]

/-- R25: the positions that exist no more. -/
theorem State.writeLayout_gone (hs : s.TableLaws) {q : Position} (h : (s.writeLayout x c n).positionExists q = false) :
    ((s.writeLayout x c n).position q).state = .empty ∧ ((s.writeLayout x c n).position q).bound = none ∧
    ((s.writeLayout x c n).position q).pl = (s.position q).pl ∧
    ((s.writeLayout x c n).position q).pe = (s.position q).pe ∧
    ((s.position q).state ≠ .empty → (s.writeLayout x c n).port.notices.positionsRetired &&& bit q.index = bit q.index) ∧
    ((s.position q).state.isBound = true → (s.position q).levels ≠ (.none, .normal) →
      (s.writeLayout x c n).port.notices.tyreLevel &&& bit q.index = bit q.index) ∧
    ((s.position q).state = .learning → (s.writeLayout x c n).intake.window = none ∧
      (s.writeLayout x c n).port.notices.learnResult = some (.cancelled, q)) := by
  have hiff := State.retiredBy_iff (x := x) (c := c) (n := n) (q := q) hs hd
  rw [State.writeLayout_position hs hd]
  by_cases he : (s.position q).state = .empty
  · have hb := hs.binding q
    rw [he] at hb
    rw [if_neg fun hr => (hiff.1 hr).2 he]
    exact ⟨he, by simpa [PositionState.isBound] using hb, rfl, rfl, fun hne => absurd he hne,
      fun hbd => (by rw [he] at hbd; cases hbd), fun hl => (by rw [he] at hl; cases hl)⟩
  · have hr := hiff.2 ⟨h, he⟩
    obtain ⟨h1, h2, h3⟩ := State.writeLayout_retired hs hd hr
    rw [if_pos hr]
    exact ⟨rfl, rfl, rfl, rfl, fun _ => h1, h2, h3⟩

theorem State.writeLayout_stays (hs : s.TableLaws) {q : Position} (h : (s.writeLayout x c n).positionExists q = true) :
    (s.writeLayout x c n).position q = s.position q := by
  rw [State.writeLayout_position hs hd, if_neg]
  intro hr
  rw [((State.retiredBy_iff hs hd).1 hr).1] at h
  cases h

/-- R73: a group that stays in use keeps its load and its causes; one that leaves or enters use starts afresh. -/
theorem State.writeLayout_groups_spec (g : GroupId) :
    ((s.writeLayout x c n).group g).n = axlesDown (s.writeLayout x c n).loads.axles g ∧
    ((s.writeLayout x c n).group g).raiseSince = none ∧ ((s.writeLayout x c n).group g).raiseDue = false ∧
    ((s.writeLayout x c n).groupInUse g = false → (s.writeLayout x c n).group g = .unused (s.calibration g).re) ∧
    (s.groupInUse g = true → (s.writeLayout x c n).groupInUse g = true →
      ((s.writeLayout x c n).group g).status = (s.group g).status ∧ ((s.writeLayout x c n).group g).w = (s.group g).w ∧
      ((s.writeLayout x c n).group g).l = (s.group g).l ∧
      ((s.writeLayout x c n).group g).holdStart = (s.group g).holdStart ∧
      ((s.writeLayout x c n).group g).holdTransition = (s.group g).holdTransition ∧
      ((s.writeLayout x c n).group g).holdRoll = (s.group g).holdRoll ∧
      ((s.writeLayout x c n).group g).holdSensor = (s.group g).holdSensor ∧
      ((s.writeLayout x c n).group g).sensorSince = (s.group g).sensorSince) ∧
    (s.groupInUse g = false → (s.writeLayout x c n).groupInUse g = true → ∃ since,
      (s.writeLayout x c n).group g = { s.entering g with
        n := axlesDown (s.writeLayout x c n).loads.axles g, raiseSince := none, raiseDue := false,
        transitionEndSince := since }) := by
  obtain ⟨r, since, hr, hsince, hg⟩ := State.writeLayout_group (x := x) (c := c) (n := n) hd g
  rw [hg]
  refine ⟨rfl, rfl, rfl, fun hu => ?_, fun ho hu => ?_, fun ho hu => ?_⟩
  · rw [hu, if_neg Bool.false_ne_true] at hr
    rw [axlesDown_of_unused hu, hsince (by rw [hr]; rfl), hr]
    rfl
  · rw [hu, ho, if_pos rfl, if_pos rfl] at hr
    rw [hr]
    exact ⟨rfl, rfl, rfl, rfl, rfl, rfl, rfl, rfl⟩
  · rw [hu, ho, if_pos rfl, if_neg Bool.false_ne_true] at hr
    exact ⟨since, by rw [hr]⟩

end

/-- Settles O44: the fields of an axle, the conditions of R64, the checks of the request in their order, and what the
positions, groups and pairs make of an accepted layout. -/
theorem axleLayoutIsWritten : Obligations.AxleLayoutIsWritten := by
  refine ⟨fun p bad hbad => ?_, fun t third present alone clashes hpresent halone hclashes => ?_,
    fun dt p s h hm hc => ⟨fun i hi => ?_, fun t ht => ?_⟩⟩
  · obtain rfl : bad = badField p := funext fun j => propext (hbad j)
    exact ⟨axlesAt_ok_iff, fun i => axlesAt_error_iff, fun t a i ht hi => axlesAt_fields ht hi⟩
  · obtain rfl : present = fun a => (t.get a).layout.present = true := funext fun a => propext (hpresent a)
    obtain rfl : alone = standsAlone t third := funext fun a => propext (halone a)
    obtain rfl : clashes = axlesClash t := funext fun a => funext fun b => propext (hclashes a b)
    have hfirst : ¬t.a1.layout.present = true → inconsistentAt t third = some .a1 := fun hn => by
      simp [inconsistentAt, hn]
    refine ⟨⟨fun hn => ?_, fun ⟨hp, hn⟩ => (inconsistentAt_none hp).2 hn⟩, hfirst,
      fun a hp ha => inconsistentAt_some hp ha⟩
    have hp : t.a1.layout.present = true := by
      by_contra hne
      rw [hfirst hne] at hn; cases hn
    exact ⟨hp, (inconsistentAt_none hp).1 hn⟩
  · rw [exec_writeAxleLayout h]
    exact congrArg _ (State.request_refuse hc (by omega) (State.writeAxleLayout_field (s := s.taken dt) hm hi))
  · rw [exec_writeAxleLayout h]
    simp only [Host.Outcome.next.injEq]
    refine ⟨fun m hw => State.request_refuse hc (by omega) (State.writeAxleLayout_wheels (s := s.taken dt) hm ht hw),
      wheelRefusal_eq_none, fun h1 => if_pos h1, fun h1 => ?_, fun h1 h2 => ⟨fun h3 => ?_, fun h3 => ?_⟩,
      fun hw => ⟨fun a ha hb => ?_, fun hd => ⟨fun a ha => ?_, fun hi hs => ?_⟩⟩⟩
    · exact (if_neg (by omega)).trans (if_pos h1)
    · exact (if_neg (by omega)).trans ((if_neg (by omega)).trans (if_pos h3))
    · exact (if_neg (by omega)).trans ((if_neg (by omega)).trans ((if_neg (by omega)).trans (if_pos h3)))
    · exact State.request_refuse hc (by omega) (State.writeAxleLayout_lifted (s := s.taken dt) hm ht hw ha hb)
    · exact State.request_refuse hc (by omega) (State.writeAxleLayout_inconsistent (s := s.taken dt) hm ht hw hd ha)
    · have hs' : (s.taken dt).TableLaws := State.TableLaws.of_view _ _ (by simp) hs
      refine ⟨(s.taken dt).writeLayout t (wordAt p 15) (byteAt p 17),
        State.request_done (by omega) (exactly_eq_true.2 hc)
          (State.writeAxleLayout_done (s := s.taken dt) hm ht hw hd hi),
        State.writeLayout_axles_spec (s := s.taken dt) hd, State.writeLayout_settings,
        fun q hq => State.writeLayout_gone (s := s.taken dt) hd hs' hq,
        fun q hq => State.writeLayout_stays (s := s.taken dt) hd hs' hq, fun g => ?_, fun a sd => ?_⟩
      · obtain ⟨h1, h2, h3, h4, h5, h6⟩ := State.writeLayout_groups_spec (s := s.taken dt) (x := t) (c := wordAt p 15)
          (n := byteAt p 17) hd g
        refine ⟨h1, h2, h3, h4, h5, fun ho hu => ?_⟩
        obtain ⟨since, hg⟩ := h6 ho hu
        rw [hg]
        exact GroupRecord.entering_spec ((s.taken dt).calibration g) ((s.taken dt).analog g.bellows) (s.taken dt).now
      · have hp := State.writeLayout_pair (s := s.taken dt) (x := t) (c := wordAt p 15) (n := byteAt p 17) (a := a)
          (sd := sd) hs' hd
        have hpair : (s.taken dt).pair a sd = s.pair a sd := rfl
        have haxle : (s.taken dt).axle a = s.axle a := rfl
        rw [hpair, haxle] at hp
        rw [hp]
        cases (((s.taken dt).writeLayout t (wordAt p 15) (byteAt p 17)).axle a).layout.paired <;>
          cases (s.axle a).layout.paired <;> simp

end Sys2Proof.Machine
end

section
/-! SUPPORT. What the lift rules leave: the raises that wait, the demands, and with no workshop step running everything but
the records of the LDU, the wheel position table and two notices (R74 to R83). -/
namespace Sys2Proof.Machine

/-! ### Relations between the states before and after -/

/-- From `s` to `t` the units other than the LDU, the TPU and the BCU's channels are as they were, but for notices. -/
structure State.Apart (s t : State) : Prop where
  now : t.now = s.now
  store : t.store = s.store
  inputs : t.inputs = s.inputs
  stability : t.stability = s.stability
  mode : t.mode = s.mode
  brakeMode : t.channels.mode = s.channels.mode
  demands : t.demands = s.demands
  intake : t.intake = s.intake
  port : t.port = { s.port with notices := t.port.notices }

/-- As `Apart`, and of the notices TYRE LEVEL and PAIR MISMATCH alone change. -/
structure State.Quiet (s t : State) : Prop where
  apart : s.Apart t
  notices : ∃ l m, t.port.notices = { s.port.notices with tyreLevel := l, pairMismatch := m }

/-- No raise becomes pending, no mode becomes HELD UP and no axle DOWN, where a raise is pending afterwards. -/
def State.Calm (s t : State) : Prop :=
  ∀ a, (t.axle a).raisePending = true → (s.axle a).raisePending = true ∧
    ((t.axle a).mode = .heldUp → (s.axle a).mode = .heldUp) ∧ ((t.axle a).lift = .down → (s.axle a).lift = .down)

/-- No demand entry is created, and braking, the power state and its measurements stay. -/
structure State.Waits (s t : State) : Prop where
  table : s.demands.table = [] → t.demands.table = []
  braking : t.demands.braking = s.demands.braking
  power : t.mode.power = s.mode.power
  runOnSince : t.mode.runOnSince = s.mode.runOnSince
  awaited : t.mode.awaited = s.mode.awaited

/-- What a lift rule leaves. -/
structure State.Lifts (s t : State) : Prop where
  calm : s.Calm t
  waits : s.Waits t
  quiet : s.mode.running = none → s.Quiet t

/-- The same axles are DOWN. -/
def State.SameDown (s t : State) : Prop := ∀ a, (t.axle a).lift = .down ↔ (s.axle a).lift = .down

section
variable {s t u : State}

theorem State.Apart.refl (s : State) : s.Apart s := ⟨rfl, rfl, rfl, rfl, rfl, rfl, rfl, rfl, rfl⟩

theorem State.Apart.trans (h : s.Apart t) (k : t.Apart u) : s.Apart u :=
  ⟨k.now.trans h.now, k.store.trans h.store, k.inputs.trans h.inputs, k.stability.trans h.stability, k.mode.trans h.mode,
    k.brakeMode.trans h.brakeMode, k.demands.trans h.demands, k.intake.trans h.intake, by rw [k.port, h.port]⟩

theorem State.Quiet.refl (s : State) : s.Quiet s := ⟨.refl s, _, _, rfl⟩

theorem State.Quiet.trans (h : s.Quiet t) (k : t.Quiet u) : s.Quiet u := by
  obtain ⟨_, _, hn⟩ := h.notices
  obtain ⟨l, m, kn⟩ := k.notices
  exact ⟨h.apart.trans k.apart, l, m, by rw [kn, hn]⟩

theorem State.Calm.refl (s : State) : s.Calm s := fun _ h => ⟨h, id, id⟩

theorem State.Calm.trans (h : s.Calm t) (k : t.Calm u) : s.Calm u := fun a ha => by
  obtain ⟨k1, k2, k3⟩ := k a ha
  obtain ⟨h1, h2, h3⟩ := h a k1
  exact ⟨h1, h2 ∘ k2, h3 ∘ k3⟩

theorem State.Calm.of_loads (h : t.loads.axles = s.loads.axles) : s.Calm t := fun a ha => by
  have he : t.axle a = s.axle a := congrArg (·.get a) h
  rw [he] at ha ⊢
  exact ⟨ha, id, id⟩

theorem State.Waits.refl (s : State) : s.Waits s := ⟨id, rfl, rfl, rfl, rfl⟩

theorem State.Waits.trans (h : s.Waits t) (k : t.Waits u) : s.Waits u :=
  ⟨k.table ∘ h.table, k.braking.trans h.braking, k.power.trans h.power, k.runOnSince.trans h.runOnSince,
    k.awaited.trans h.awaited⟩

theorem State.Apart.waits (h : s.Apart t) : s.Waits t :=
  ⟨fun hs => by rw [h.demands, hs], by rw [h.demands], by rw [h.mode], by rw [h.mode], by rw [h.mode]⟩

theorem State.Lifts.refl (s : State) : s.Lifts s := ⟨.refl s, .refl s, fun _ => .refl s⟩

theorem State.Lifts.trans (h : s.Lifts t) (k : t.Lifts u) : s.Lifts u :=
  ⟨h.calm.trans k.calm, h.waits.trans k.waits, fun hr =>
    (h.quiet hr).trans (k.quiet (by rw [(h.quiet hr).apart.mode, hr]))⟩

theorem State.Lifts.foldl {α : Type} {f : State → α → State} (hf : ∀ (t : State) a, t.Lifts (f t a)) (l : List α) :
    s.Lifts (l.foldl f s) :=
  State.foldl_keeps (P := fun t => s.Lifts t) (fun t a ht => ht.trans (hf t a)) l (.refl s)

theorem State.SameDown.refl (s : State) : s.SameDown s := fun _ => Iff.rfl

theorem State.SameDown.trans (h : s.SameDown t) (k : t.SameDown u) : s.SameDown u := fun a => (k a).trans (h a)

theorem State.SameDown.foldl {α : Type} {f : State → α → State} (hf : ∀ (t : State) a, t.SameDown (f t a)) (l : List α) :
    s.SameDown (l.foldl f s) :=
  State.foldl_keeps (P := fun t => s.SameDown t) (fun t a ht => ht.trans (hf t a)) l (.refl s)

end

/-! ### A change of a lift state -/

section
variable {s : State} {a : AxleId} {g : GroupId} {x : LiftState}

theorem State.Quiet.setAxle (a : AxleId) (r : AxleRecord) : s.Quiet (s.setAxle a r) :=
  ⟨⟨rfl, rfl, rfl, rfl, rfl, rfl, rfl, rfl, rfl⟩, _, _, rfl⟩

theorem State.Quiet.setGroup (g : GroupId) (r : GroupRecord) : s.Quiet (s.setGroup g r) :=
  ⟨⟨rfl, rfl, rfl, rfl, rfl, rfl, rfl, rfl, rfl⟩, _, _, rfl⟩

theorem State.Quiet.evaluateAxle (a : AxleId) : s.Quiet (s.evaluateAxle a) := by
  refine State.foldl_keeps (P := fun t => s.Quiet t) (fun t sl ht => ht.trans ?_) Slot.list (.refl s)
  obtain ⟨x, l, m, h⟩ := t.evaluate_frame (.road a sl)
  rw [h]
  exact ⟨⟨rfl, rfl, rfl, rfl, rfl, rfl, rfl, rfl, rfl⟩, l, m, rfl⟩

theorem State.evaluateAxle_loads (a : AxleId) : (s.evaluateAxle a).loads = s.loads :=
  State.foldl_keeps (P := fun t => t.loads = s.loads) (fun t _ ht => (t.evaluate_onlyTyres _).loads.trans ht) Slot.list rfl

theorem State.followTransition_quiet (g : GroupId) : s.Quiet (s.followTransition g) := by
  unfold State.followTransition
  split
  · exact .setGroup g _
  · split
    · exact .setGroup g _
    · exact .refl s

theorem State.followTransition_axles (g : GroupId) : (s.followTransition g).loads.axles = s.loads.axles := by
  unfold State.followTransition
  split
  · rfl
  · split <;> rfl

/-- R74: the records as a lift state changes, before the effects that reach other units. -/
def State.lifted (s : State) (a : AxleId) (x : LiftState) : State :=
  let s1 := s.setAxle a { s.axle a with
    lift := x, liftSince := s.now, conflict := if x = .down then false else (s.axle a).conflict }
  (((s1.recount .g1).recount .g2).followTransition .g1).followTransition .g2

theorem State.setLift_eq (h : (s.axle a).lift ≠ x) :
    s.setLift a x = (((s.lifted a x).noteArrival a x).evaluateAxle a).reportLift a x := by
  unfold State.setLift
  rw [if_neg h]
  rfl

theorem State.setLift_same (h : (s.axle a).lift = x) : s.setLift a x = s := by
  unfold State.setLift
  rw [if_pos h]

theorem State.lifted_quiet : s.Quiet (s.lifted a x) :=
  ((((State.Quiet.setAxle a _).trans (.setGroup .g1 _)).trans (.setGroup .g2 _)).trans
    (State.followTransition_quiet .g1)).trans (State.followTransition_quiet .g2)

theorem State.lifted_axles : (s.lifted a x).loads.axles = s.loads.axles.set a { s.axle a with
    lift := x, liftSince := s.now, conflict := if x = .down then false else (s.axle a).conflict } := by
  unfold State.lifted
  dsimp only
  rw [State.followTransition_axles, State.followTransition_axles]
  rfl

theorem State.noteArrival_loads : (s.noteArrival a x).loads = s.loads := by cases x <;> rfl

theorem State.enterWorkshopState_loads (m : Mode) : (s.enterWorkshopState m).loads = s.loads := by
  unfold State.enterWorkshopState
  dsimp only
  split <;> split <;> rfl

theorem State.enterWorkshopState_waits {m : Mode} (h1 : m.power = s.mode.power) (h2 : m.runOnSince = s.mode.runOnSince)
    (h3 : m.awaited = s.mode.awaited) : s.Waits (s.enterWorkshopState m) := by
  unfold State.enterWorkshopState State.retireEntry
  dsimp only
  split <;> split <;> exact
    ⟨fun h => by simp [State.noteWorkshopChange, State.setNotices, State.setMode, State.setDemands, h], rfl, h1, h2, h3⟩

theorem State.reportLift_idle (h : s.mode.running = none) : s.reportLift a x = s := by
  unfold State.reportLift
  rw [h]

theorem State.reportLift_cases : s.reportLift a x = s ∨ s.reportLift a x = s.stepDone ∨
    s.reportLift a x = s.stepFaults .liftInterrupted := by
  unfold State.reportLift
  split
  · exact .inl rfl
  · split
    · cases x
      · exact .inl rfl
      · exact .inl rfl
      · exact .inr (.inl rfl)
      · exact .inr (.inr rfl)
    · split
      · cases x
        · exact .inr (.inl rfl)
        · exact .inl rfl
        · exact .inl rfl
        · exact .inl rfl
      · exact .inl rfl

theorem State.reportLift_loads : (s.reportLift a x).loads = s.loads := by
  rcases State.reportLift_cases (s := s) (a := a) (x := x) with h | h | h <;> rw [h]
  · exact State.enterWorkshopState_loads _
  · exact State.enterWorkshopState_loads _

theorem State.reportLift_waits : s.Waits (s.reportLift a x) := by
  rcases State.reportLift_cases (s := s) (a := a) (x := x) with h | h | h <;> rw [h]
  · exact .refl s
  · exact State.enterWorkshopState_waits rfl rfl rfl
  · exact State.enterWorkshopState_waits rfl rfl rfl

/-- R74: the axle records after a change of a lift state. -/
theorem State.setLift_axle (h : (s.axle a).lift ≠ x) (b : AxleId) : (s.setLift a x).axle b = if b = a then { s.axle a with
    lift := x, liftSince := s.now, conflict := if x = .down then false else (s.axle a).conflict } else s.axle b := by
  rw [State.setLift_eq h]
  unfold State.axle
  rw [State.reportLift_loads, State.evaluateAxle_loads, State.noteArrival_loads, State.lifted_axles, PerAxle.get_set]
  rfl

/-- R74: pending raises, modes and the other lift states are no part of the change. -/
theorem State.setLift_fields (b : AxleId) : ((s.setLift a x).axle b).raisePending = (s.axle b).raisePending ∧
    ((s.setLift a x).axle b).mode = (s.axle b).mode ∧
    ((s.setLift a x).axle b).lift = if b = a then x else (s.axle b).lift := by
  by_cases h : (s.axle a).lift = x
  · rw [State.setLift_same h]
    refine ⟨rfl, rfl, ?_⟩
    split
    · rename_i hb; rw [hb, h]
    · rfl
  · rw [State.setLift_axle h]
    split
    · rename_i hb; rw [hb]; exact ⟨rfl, rfl, rfl⟩
    · exact ⟨rfl, rfl, rfl⟩

theorem State.noteArrival_apart : s.Apart (s.noteArrival a x) := by
  cases x <;> exact ⟨rfl, rfl, rfl, rfl, rfl, rfl, rfl, rfl, rfl⟩

theorem State.setLift_waits : s.Waits (s.setLift a x) := by
  by_cases h : (s.axle a).lift = x
  · rw [State.setLift_same h]; exact .refl s
  · rw [State.setLift_eq h]
    exact ((State.lifted_quiet.apart.waits.trans State.noteArrival_apart.waits).trans
      (State.Quiet.evaluateAxle a).apart.waits).trans State.reportLift_waits

/-- R74: with no step running a lift state that is not an arrival reaches two notices alone. -/
theorem State.setLift_quiet (hr : s.mode.running = none) (hu : x ≠ .up) (hd : x ≠ .down) : s.Quiet (s.setLift a x) := by
  by_cases h : (s.axle a).lift = x
  · rw [State.setLift_same h]; exact .refl s
  · have hn : (s.lifted a x).noteArrival a x = s.lifted a x := by
      cases x
      · exact absurd rfl hd
      · rfl
      · exact absurd rfl hu
      · rfl
    rw [State.setLift_eq h, hn, State.reportLift_idle]
    · exact State.lifted_quiet.trans (.evaluateAxle a)
    · rw [(State.lifted_quiet.trans (.evaluateAxle a)).apart.mode, hr]

theorem State.setLift_lifts (hu : x ≠ .up) (hd : x ≠ .down) : s.Lifts (s.setLift a x) := by
  refine ⟨fun b hb => ?_, State.setLift_waits, fun hr => State.setLift_quiet hr hu hd⟩
  obtain ⟨h1, h2, h3⟩ := State.setLift_fields (s := s) (a := a) (x := x) b
  rw [h1] at hb
  rw [h2, h3]
  refine ⟨hb, id, fun h => ?_⟩
  split at h
  · exact absurd h hd
  · exact h

/-- R74: an axle that is not DOWN and takes another lift state than DOWN. -/
theorem State.setLift_sameDown (hn : (s.axle a).lift ≠ .down) (hd : x ≠ .down) : s.SameDown (s.setLift a x) := fun b => by
  rw [(State.setLift_fields b).2.2]
  split
  · rename_i hb
    rw [hb]
    exact iff_of_false hd hn
  · exact Iff.rfl

/-! ### The rules -/

theorem State.Lifts.setGroup (g : GroupId) (r : GroupRecord) : s.Lifts (s.setGroup g r) :=
  ⟨.of_loads rfl, (State.Quiet.setGroup g r).apart.waits, fun _ => .setGroup g r⟩

theorem State.Lifts.setAxle {r : AxleRecord} (h : r.raisePending = true → (s.axle a).raisePending = true ∧
    (r.mode = .heldUp → (s.axle a).mode = .heldUp) ∧ (r.lift = .down → (s.axle a).lift = .down)) :
    s.Lifts (s.setAxle a r) := by
  refine ⟨fun b hb => ?_, (State.Quiet.setAxle a r).apart.waits, fun _ => .setAxle a r⟩
  rw [State.setAxle_axle] at hb ⊢
  split at hb
  · rename_i hba
    rw [if_pos hba, hba]
    exact h hb
  · rename_i hba
    rw [if_neg hba]
    exact ⟨hb, id, id⟩

theorem State.setAxle_sameDown {r : AxleRecord} (h : r.lift = (s.axle a).lift) : s.SameDown (s.setAxle a r) := fun b => by
  rw [State.setAxle_axle]
  split
  · rename_i hb; rw [hb, h]
  · exact Iff.rfl

theorem State.lowerAxle_lifts (a : AxleId) : s.Lifts (s.lowerAxle a) := by
  unfold State.lowerAxle
  split
  · exact State.setLift_lifts (by simp) (by simp)
  · exact .refl s

theorem LiftState.not_down_of_lifted (h : x.lifted = true) : x ≠ .down := by
  cases x
  · cases h
  all_goals simp

theorem State.lowerAxle_sameDown (a : AxleId) : s.SameDown (s.lowerAxle a) := by
  unfold State.lowerAxle
  split
  · exact State.setLift_sameDown (LiftState.not_down_of_lifted ‹_›) (by simp)
  · exact .refl s

theorem State.modeToAuto_lifts (a : AxleId) : s.Lifts (s.modeToAuto a) := by
  unfold State.modeToAuto
  split
  · exact .setAxle fun h => ⟨h, fun hm => (by cases hm), id⟩
  · exact .refl s

theorem State.modeToAuto_sameDown (a : AxleId) : s.SameDown (s.modeToAuto a) := by
  unfold State.modeToAuto
  split
  · exact State.setAxle_sameDown rfl
  · exact .refl s

theorem State.lowerToAuto_lifts (a : AxleId) : s.Lifts (s.lowerToAuto a) := by
  unfold State.lowerToAuto
  split
  · exact (State.modeToAuto_lifts a).trans (State.setLift_lifts (by simp) (by simp))
  · exact .refl s

theorem State.lowerToAuto_sameDown (a : AxleId) : s.SameDown (s.lowerToAuto a) := by
  unfold State.lowerToAuto
  split
  · rename_i h
    exact (State.modeToAuto_sameDown a).trans
      (State.setLift_sameDown (mt (State.modeToAuto_sameDown a a).1 (LiftState.not_down_of_lifted h)) (by simp))
  · exact .refl s

theorem State.forceAxle_lifts (a : AxleId) : s.Lifts (s.forceAxle a) := by
  unfold State.forceAxle
  dsimp only
  refine State.Lifts.trans (State.Lifts.trans ?_ (.setAxle fun h => by cases h)) (State.lowerAxle_lifts a)
  split
  · exact State.modeToAuto_lifts a
  · exact .refl s

theorem State.forceAxle_sameDown (a : AxleId) : s.SameDown (s.forceAxle a) := by
  unfold State.forceAxle
  dsimp only
  refine State.SameDown.trans ?_ (State.lowerAxle_sameDown a)
  split
  · exact (State.modeToAuto_sameDown a).trans (State.setAxle_sameDown rfl)
  · exact State.setAxle_sameDown rfl

theorem State.forceLower_lifts : s.Lifts s.forceLower := .foldl (fun _ a => State.forceAxle_lifts a) _

theorem State.forceLower_sameDown : s.SameDown s.forceLower := .foldl (fun _ a => State.forceAxle_sameDown a) _

theorem State.boundHeldUp_lifts (a : AxleId) : s.Lifts (s.boundHeldUp a) := by
  unfold State.boundHeldUp
  dsimp only
  split
  · exact State.lowerToAuto_lifts a
  · exact .refl s

theorem State.boundHeldUp_sameDown (a : AxleId) : s.SameDown (s.boundHeldUp a) := by
  unfold State.boundHeldUp
  dsimp only
  split
  · exact State.lowerToAuto_sameDown a
  · exact .refl s

theorem State.boundGroup_lifts (g : GroupId) : s.Lifts (s.boundGroup g) := .foldl (fun _ a => State.boundHeldUp_lifts a) _

theorem State.formLoad_lifts (g : GroupId) : s.Lifts (s.formLoad g) := by
  unfold State.formLoad
  split
  · exact (State.Lifts.setGroup g _).trans (State.boundGroup_lifts g)
  · exact .refl s

theorem State.releaseGroup_lifts (g : GroupId) : s.Lifts (s.releaseGroup g) := by
  unfold State.releaseGroup
  split
  · exact .refl s
  · dsimp only
    split
    · exact (State.Lifts.setGroup g _).trans (State.boundGroup_lifts g)
    · exact .refl s

theorem State.rollEnds_lifts : s.Lifts s.rollEnds := by
  refine State.Lifts.foldl (fun t g => ?_) _
  split
  · exact (State.Lifts.setGroup g _).trans (State.releaseGroup_lifts g)
  · exact .refl t

theorem State.retryHeldUp_lifts (a : AxleId) : s.Lifts (s.retryHeldUp a) := by
  unfold State.retryHeldUp
  dsimp only
  split
  · split
    · exact .setAxle fun h => by cases h
    · exact (State.Lifts.setAxle fun h => by cases h).trans (State.setLift_lifts (by simp) (by simp))
  · exact .refl s

theorem State.dropFlag_lifts (a : AxleId) : s.Lifts (s.dropFlag a) := by
  unfold State.dropFlag
  dsimp only
  split
  · exact .setAxle fun h => by cases h
  · exact .refl s

theorem State.endFlags_lifts (l : List AxleId) : s.Lifts (l.foldl
    (fun u b => if (u.axle b).mode = .auto then u.setAxle b { u.axle b with raisePending := false } else u) s) := by
  refine State.Lifts.foldl (fun t b => ?_) _
  split
  · exact .setAxle fun h => by cases h
  · exact .refl t

theorem State.endRaise_lifts (g : GroupId) (keep : Bool) : s.Lifts (s.endRaise g keep) := by
  unfold State.endRaise
  dsimp only
  split
  · exact .setGroup g _
  · exact (State.Lifts.setGroup g _).trans (State.endFlags_lifts _)

theorem State.testRaise_lifts (g : GroupId) (hb : s.demands.braking = false) : s.Lifts (s.testRaise g) := by
  unfold State.testRaise
  dsimp only
  split
  · exact .setGroup g _
  · rw [if_neg (by simp [State.startConditions, hb])]
    have h := (State.Lifts.setGroup (s := s) g { s.group g with seen := s.startConditions g }).trans
      (State.endFlags_lifts ((s.setGroup g { s.group g with seen := s.startConditions g }).groupAxles g))
    split
    · exact h.trans (State.setLift_lifts (by simp) (by simp))
    · exact h

theorem State.followRaise_lifts (g : GroupId) (hb : s.demands.braking = false) : s.Lifts (s.followRaise g) := by
  unfold State.followRaise
  split
  · dsimp only
    split
    · exact (State.Lifts.setGroup g _).trans (State.testRaise_lifts g hb)
    · exact .setGroup g _
  · split
    · exact State.endRaise_lifts g _
    · exact .refl s

theorem State.followLower_lifts (a : AxleId) : s.Lifts (s.followLower a) := by
  unfold State.followLower
  dsimp only
  split <;> exact .setAxle fun h => ⟨h, id, id⟩

/-- R77, R79, R81: the lift decisions while the part does not brake. -/
theorem State.followLifts_lifts (hb : s.demands.braking = false) :
    (AxleId.list.foldl State.retryHeldUp s).Lifts s.followLifts := by
  have h1 : s.Lifts (AxleId.list.foldl State.retryHeldUp s) := .foldl (fun _ a => State.retryHeldUp_lifts a) _
  unfold State.followLifts
  dsimp only
  refine State.Lifts.trans ?_ (.foldl (fun _ a => State.followLower_lifts a) _)
  refine (State.Lifts.foldl (fun _ a => State.dropFlag_lifts a) AxleId.list).trans ?_
  have h2 := h1.trans (State.Lifts.foldl (s := AxleId.list.foldl State.retryHeldUp s)
    (fun _ a => State.dropFlag_lifts a) AxleId.list)
  have h3 := State.foldl_keeps (P := fun t => t.demands.braking = false ∧
      (AxleId.list.foldl State.dropFlag (AxleId.list.foldl State.retryHeldUp s)).Lifts t) (f := State.followRaise)
    (fun t g ⟨ht, hl⟩ => ⟨(State.followRaise_lifts g ht).waits.braking.trans ht,
      hl.trans (State.followRaise_lifts g ht)⟩)
    GroupId.list ⟨h2.waits.braking.trans hb, .refl _⟩
  exact h3.2

/-- R81: a raise that waits for nothing does not wait on. -/
def State.NoneWaits (s : State) (a : AxleId) : Prop :=
  (s.axle a).mode = .heldUp → (s.axle a).lift = .down → (s.axle a).raisePending = false

theorem State.NoneWaits.calm {t : State} (h : s.NoneWaits a) (k : s.Calm t) : t.NoneWaits a := fun hm hl => by
  cases hp : (t.axle a).raisePending with
  | false => rfl
  | true =>
    obtain ⟨k1, k2, k3⟩ := k a hp
    rw [h (k2 hm) (k3 hl)] at k1
    cases k1

theorem State.retryHeldUp_noneWaits (a : AxleId) (h : s.heldUpMayRise = true) : (s.retryHeldUp a).NoneWaits a := by
  unfold State.retryHeldUp State.NoneWaits
  dsimp only
  split
  · split
    · simp
    · intro _ hl
      rw [(State.setLift_fields a).2.2, if_pos rfl] at hl
      cases hl
  · rename_i hn
    intro hm hl
    by_contra hp
    exact hn ⟨h, hm, by simpa using hp, hl⟩

/-- R81: with the brakes and the STU at rest no raise waits after the lift decisions. -/
theorem State.followLifts_noneWaits (hr : s.mode.running = none) (hb : s.demands.braking = false)
    (hs : s.stability.state = .idle) (a : AxleId) : s.followLifts.NoneWaits a := by
  refine State.NoneWaits.calm ?_ (State.followLifts_lifts hb).calm
  refine foldl_reaches (Q := fun t => t.NoneWaits a)
    (P := fun t => t.mode.running = none ∧ t.demands.braking = false ∧ t.stability.state = .idle)
    (fun t b ⟨h1, h2, h3⟩ => ?_) (fun t b _ hq => hq.calm (State.retryHeldUp_lifts b).calm)
    (fun t ⟨_, h2, h3⟩ => State.retryHeldUp_noneWaits a ?_) a.mem_list ⟨hr, hb, hs⟩
  · have hq := ((State.retryHeldUp_lifts b).quiet h1).apart
    exact ⟨by rw [hq.mode, h1], by rw [hq.demands, h2], by rw [hq.stability, h3]⟩
  · simp [State.heldUpMayRise, State.stuActing, h2, h3]

/-- R84: the judgement of a lift fault, with no step running. -/
theorem State.judgeLiftFault_frame (a : AxleId) (hr : s.mode.running = none) :
    s.Apart (s.judgeLiftFault a) ∧ s.Calm (s.judgeLiftFault a) ∧ s.SameDown (s.judgeLiftFault a) := by
  unfold State.judgeLiftFault
  dsimp only
  split
  · rename_i hc
    simp only [Bool.and_eq_true, decide_eq_true_eq] at hc
    have hup : (s.axle a).lift = .up := hc.1.1.2
    have hstep : ((s.noteLiftFault a).setAxle a { s.axle a with mode := .heldDown }).liftStepOn a = false := by
      have : ((s.noteLiftFault a).setAxle a { s.axle a with mode := .heldDown }).mode.running = none := hr
      unfold State.liftStepOn
      rw [this]
    rw [hstep, if_neg Bool.false_ne_true]
    have hn : s.Apart (s.noteLiftFault a) := ⟨rfl, rfl, rfl, rfl, rfl, rfl, rfl, rfl, rfl⟩
    have h1 : (s.noteLiftFault a).Lifts ((s.noteLiftFault a).setAxle a { s.axle a with mode := .heldDown }) :=
      .setAxle fun h => ⟨h, fun hm => (by cases hm), id⟩
    have h2 := h1.trans (State.setLift_lifts (a := a) (x := .lowering) (by simp) (by simp))
    refine ⟨hn.trans (h2.quiet hr).apart, (State.Calm.of_loads rfl).trans h2.calm, ?_⟩
    refine State.SameDown.trans (t := (s.noteLiftFault a).setAxle a { s.axle a with mode := .heldDown }) (fun b => ?_)
      (State.setLift_sameDown ?_ (by simp))
    · exact State.setAxle_sameDown (s := s.noteLiftFault a) (r := { s.axle a with mode := .heldDown }) rfl b
    · rw [State.setAxle_axle_self]
      dsimp only
      rw [hup]
      simp
  · exact ⟨.refl s, .refl s, .refl s⟩

end

end Sys2Proof.Machine
end

section
/-! SUPPORT. What a reload leaves of the other units, with no step running, no learn window and no candidate (R171). -/
namespace Sys2Proof.Machine

/-- No workshop step runs, no learn window is open and the candidate list is empty. -/
structure State.Resting (s : State) : Prop where
  running : s.mode.running = none
  window : s.intake.window = none
  candidates : s.intake.candidates = []

/-- What a reload leaves: the units apart from the lifts, all but four notices, and that no raise is pending. -/
structure State.Reloads (s t : State) : Prop where
  apart : s.Apart t
  notices : ∃ l m r c, t.port.notices =
    { s.port.notices with tyreLevel := l, pairMismatch := m, positionsRetired := r, liftChange := c }
  pending : (∀ a, (s.axle a).raisePending = false) → ∀ a, (t.axle a).raisePending = false

/-- A step of a reload. -/
def State.ReloadStep (s t : State) : Prop := s.Resting → s.Reloads t

section
variable {s t u : State}

theorem State.Resting.apart (h : s.Resting) (k : s.Apart t) : t.Resting :=
  ⟨by rw [k.mode, h.running], by rw [k.intake, h.window], by rw [k.intake, h.candidates]⟩

theorem State.Reloads.refl (s : State) : s.Reloads s := ⟨.refl s, ⟨_, _, _, _, rfl⟩, id⟩

theorem State.Reloads.trans (h : s.Reloads t) (k : t.Reloads u) : s.Reloads u := by
  obtain ⟨_, _, _, _, hn⟩ := h.notices
  obtain ⟨l, m, r, c, kn⟩ := k.notices
  exact ⟨h.apart.trans k.apart, ⟨l, m, r, c, by rw [kn, hn]⟩, k.pending ∘ h.pending⟩

theorem State.ReloadStep.refl (s : State) : s.ReloadStep s := fun _ => .refl s

theorem State.ReloadStep.trans (h : s.ReloadStep t) (k : t.ReloadStep u) : s.ReloadStep u := fun hs =>
  (h hs).trans (k (hs.apart (h hs).apart))

theorem State.ReloadStep.foldl {α : Type} {f : State → α → State} (hf : ∀ (t : State) a, t.ReloadStep (f t a))
    (l : List α) :
    s.ReloadStep (l.foldl f s) :=
  State.foldl_keeps (P := fun t => s.ReloadStep t) (fun t a ht => ht.trans (hf t a)) l (.refl s)

theorem State.Lifts.reloadStep (h : s.Lifts t) : s.ReloadStep t := fun hs => by
  obtain ⟨l, m, hn⟩ := (h.quiet hs.running).notices
  refine ⟨(h.quiet hs.running).apart, ⟨l, m, _, _, hn⟩, fun hp a => ?_⟩
  by_contra hc
  have := (h.calm a (by simpa using hc)).1
  rw [hp a] at this
  cases this

/-- A change of positions and pairs with their two notices. -/
theorem State.OnlyTyres.reloadStep (h : s.OnlyTyres t) (hn : ∃ l m, t.port.notices =
    { s.port.notices with tyreLevel := l, pairMismatch := m }) : s.ReloadStep t := fun _ => by
  obtain ⟨l, m, hn⟩ := hn
  have hax : ∀ a, t.axle a = s.axle a := fun a => by rw [h]; rfl
  refine ⟨?_, ⟨l, m, _, _, hn⟩, fun hp a => by rw [hax, hp]⟩
  rw [h]
  exact ⟨rfl, rfl, rfl, rfl, rfl, rfl, rfl, rfl, rfl⟩

theorem State.PairsOnly.reloadStep (h : s.PairsOnly t) : s.ReloadStep t := by
  obtain ⟨m, hn⟩ := h.notices
  exact State.OnlyTyres.reloadStep (by rw [h]; rfl) ⟨_, m, hn⟩

theorem State.clearBound_reloadStep (p : Position) : s.ReloadStep (s.clearBound p) := by
  obtain ⟨x, m, h⟩ := s.clearBound_notices p
  exact (s.clearBound_spec p).1.reloadStep ⟨_, m, h⟩

theorem State.setPosition_reloadStep (p : Position) (r : PositionRecord) : s.ReloadStep (s.setPosition p r) :=
  (State.setPosition_onlyTyres p r).reloadStep ⟨_, _, rfl⟩

theorem State.noteLevels_reloadStep (p : Position) (r : PositionRecord) : s.ReloadStep (s.noteLevels p r) := by
  refine (State.noteLevels_onlyTyres p r).reloadStep ?_
  unfold State.noteLevels
  split
  · exact ⟨_, _, rfl⟩
  · exact ⟨_, _, rfl⟩

/-! ### The steps -/

theorem State.relaid_reloadStep (x : Image) : s.ReloadStep (s.relaid x) := fun _ => by
  obtain ⟨axles, h⟩ := s.relaid_frame x
  refine ⟨?_, ?_, fun _ a => by rw [State.relaid_axle]; rfl⟩ <;> rw [h]
  · exact ⟨rfl, rfl, rfl, rfl, rfl, rfl, rfl, rfl, rfl⟩
  · exact ⟨_, _, _, _, rfl⟩

theorem State.noteArrival_notices (a : AxleId) (x : LiftState) :
    ∃ c, (s.noteArrival a x).port.notices = { s.port.notices with liftChange := c } := by
  cases x <;> exact ⟨_, rfl⟩

theorem State.setLift_reloadStep (a : AxleId) (x : LiftState) : s.ReloadStep (s.setLift a x) := fun hs => by
  by_cases h : (s.axle a).lift = x
  · rw [State.setLift_same h]; exact .refl s
  · have h1 : s.Quiet (s.lifted a x) := State.lifted_quiet
    have h2 := State.noteArrival_apart (s := s.lifted a x) (a := a) (x := x)
    have h3 := State.Quiet.evaluateAxle (s := (s.lifted a x).noteArrival a x) a
    have hap := (h1.apart.trans h2).trans h3.apart
    have he : s.setLift a x = ((s.lifted a x).noteArrival a x).evaluateAxle a := by
      rw [State.setLift_eq h, State.reportLift_idle]
      rw [hap.mode, hs.running]
    obtain ⟨_, _, n1⟩ := h1.notices
    obtain ⟨c, n2⟩ := (s.lifted a x).noteArrival_notices a x
    obtain ⟨l, m, n3⟩ := h3.notices
    refine ⟨he ▸ hap, ⟨l, m, _, c, by rw [he, n3, n2, n1]⟩, fun hp b => ?_⟩
    rw [(State.setLift_fields b).1, hp]

theorem State.governReloaded_reloadStep (a : AxleId) : s.ReloadStep (s.governReloaded a) := by
  have hauto : s.Lifts (s.setAxle a { s.axle a with mode := .auto }) :=
    .setAxle fun h => ⟨h, fun hm => (by cases hm), id⟩
  unfold State.governReloaded
  dsimp only
  split
  · exact .refl s
  · exact (State.lowerAxle_lifts a).reloadStep
  · split
    · exact .refl s
    · exact hauto.reloadStep

theorem State.reloadLifts_reloadStep (old : PerAxle AxleRecord) : s.ReloadStep (s.reloadLifts old) :=
  .foldl (fun _ a => (State.setLift_reloadStep a _).trans (State.governReloaded_reloadStep a)) _

theorem State.retireStep_reloadStep (old : PerAxle AxleRecord) (p : Position) : s.ReloadStep (s.retireStep old p) := by
  by_cases hr : s.retires old p
  · rw [State.retireStep_of_retires hr, State.notePositionRetired_eq]
    have hn : ∀ t : State, s.ReloadStep t → s.ReloadStep (t.setNotices { t.port.notices with
        positionsRetired := t.port.notices.positionsRetired ||| bit p.index }) := fun t ht => ht.trans fun _ =>
      ⟨⟨rfl, rfl, rfl, rfl, rfl, rfl, rfl, rfl, rfl⟩, ⟨_, _, _, _, rfl⟩, id⟩
    refine hn _ fun hs => ?_
    rcases (s.position p).state.cases_bound with h | h | h
    · exact absurd h hr.2.2
    · rw [State.retirePosition_learning h, State.cancelWindow_none hs.window]; exact .refl s
    · rw [State.retirePosition_bound h]; exact State.clearBound_reloadStep p hs
  · rw [State.retireStep_of_not_retires hr]; exact .refl s

theorem State.groupEnters_lifts (g : GroupId) : s.Lifts (s.groupEnters g) := by
  unfold State.groupEnters
  dsimp only
  split
  · exact (State.Lifts.setGroup g _).trans (State.formLoad_lifts g)
  · exact .setGroup g _
  · exact .setGroup g _

theorem State.followTransition_lifts (g : GroupId) : s.Lifts (s.followTransition g) :=
  ⟨.of_loads (State.followTransition_axles g), (State.followTransition_quiet g).apart.waits,
    fun _ => State.followTransition_quiet g⟩

theorem State.regroup_lifts (old : PerAxle AxleRecord) (g : GroupId) : s.Lifts (s.regroup old g) := by
  unfold State.regroup
  dsimp only
  refine (State.Lifts.trans (State.Lifts.trans ?_ (.setGroup g _)) (State.endRaise_lifts g false)).trans
    (State.followTransition_lifts g)
  split
  · split
    · exact .refl s
    · exact State.groupEnters_lifts g
  · exact .setGroup g _

theorem State.followLayout_reloadStep (old : PerAxle AxleRecord) : s.ReloadStep (s.followLayout old) :=
  (State.ReloadStep.trans (.foldl (fun _ p => State.retireStep_reloadStep old p) Position.list)
    State.deriveAllPairs_pairsOnly.reloadStep).trans (.foldl (fun _ g => (State.regroup_lifts old g).reloadStep) _)

theorem State.recalibrate_lifts (g : GroupId) : s.Lifts (s.recalibrate g) := by
  unfold State.recalibrate
  split
  · exact State.formLoad_lifts g
  · exact .refl s
  · exact (State.Lifts.setGroup g _).trans (State.boundGroup_lifts g)

theorem State.reloadSettings_reloadStep (x : Settings) : s.ReloadStep (s.reloadSettings x) := by
  have h1 : s.ReloadStep (s.setSettings x) := fun _ =>
    ⟨⟨rfl, rfl, rfl, rfl, rfl, rfl, rfl, rfl, rfl⟩, ⟨_, _, _, _, rfl⟩, id⟩
  have h2 : ∀ (t : State) b, t.ReloadStep (t.followThird b) := fun t b => by
    unfold State.followThird
    split
    · exact .refl t
    · exact fun _ => ⟨⟨rfl, rfl, rfl, rfl, rfl, rfl, rfl, rfl, rfl⟩, ⟨_, _, _, _, rfl⟩, id⟩
  exact ((h1.trans (h2 _ _)).trans (State.recalibrate_lifts .g1).reloadStep).trans (State.recalibrate_lifts .g2).reloadStep

theorem State.reloadPosition_reloadStep (p : Position) (x : StoredPosition) : s.ReloadStep (s.reloadPosition p x) := by
  unfold State.reloadPosition
  dsimp only
  have h := State.setPosition_reloadStep (s := s) p { s.position p with pl := x.pl, pe := x.pe }
  split
  · split
    · exact (h.trans (State.setPosition_reloadStep p _)).trans (State.noteLevels_reloadStep p _)
    · split
      · exact h.trans (State.clearBound_reloadStep p)
      · exact h
  · exact h

theorem State.dropBound_reloadStep : s.ReloadStep s.dropBound := fun hs => by
  have : s.dropBound = s.setIntake { s.intake with candidates := [] } := by
    unfold State.dropBound State.setCandidates
    rw [hs.candidates]; rfl
  rw [this]
  refine ⟨⟨rfl, rfl, rfl, rfl, rfl, rfl, rfl, ?_, rfl⟩, ⟨_, _, _, _, rfl⟩, id⟩
  rw [State.setIntake_intake, ← hs.candidates]

theorem State.compareAllPairs_pairsOnly : s.PairsOnly s.compareAllPairs :=
  State.foldl_keeps (P := fun t => s.PairsOnly t) (fun _ a ht =>
    (ht.trans (State.comparePair_pairsOnly a .left)).trans (State.comparePair_pairsOnly a .right)) _ rfl

theorem State.relaid_reload (x : Image) : (s.relaid x).ReloadStep (s.reload x) := by
  rw [State.reload_eq, State.reloadLayout_eq]
  exact (((((State.reloadLifts_reloadStep _).trans (State.followLayout_reloadStep _)).trans
    (State.reloadSettings_reloadStep _)).trans (.foldl (fun _ p => State.reloadPosition_reloadStep p _) _)).trans
    State.dropBound_reloadStep).trans State.compareAllPairs_pairsOnly.reloadStep

/-- R171: a reload reaches the positions, the loads, the parameters and four notices alone. -/
theorem State.reload_reloads (hs : s.Resting) (x : Image) : s.Reloads (s.reload x) :=
  (State.relaid_reloadStep x).trans (State.relaid_reload x) hs

/-- R65, R171: a reload leaves no raise pending. -/
theorem State.reload_notPending (hs : s.Resting) (x : Image) (a : AxleId) : ((s.reload x).axle a).raisePending = false := by
  have hp : ∀ b, ((s.relaid x).axle b).raisePending = false := fun b => by rw [State.relaid_axle]; rfl
  exact (State.relaid_reload x (hs.apart (State.relaid_reloadStep x hs).apart)).pending hp a

end

end Sys2Proof.Machine
end

section
/-! SUPPORT. What the units make of an emptied demand table, and of a new reference speed (R102, R142, R62). -/
namespace Sys2Proof.Machine

/-! ### The emptied table -/

/-- From `s` to `t` the inputs, the mode record and the demands are as they were. -/
structure State.TargetsOnly (s t : State) : Prop where
  inputs : t.inputs = s.inputs
  mode : t.mode = s.mode
  demands : t.demands = s.demands

section
variable {s t u : State}

theorem State.TargetsOnly.refl (s : State) : s.TargetsOnly s := ⟨rfl, rfl, rfl⟩

theorem State.TargetsOnly.trans (h : s.TargetsOnly t) (k : t.TargetsOnly u) : s.TargetsOnly u :=
  ⟨k.inputs.trans h.inputs, k.mode.trans h.mode, k.demands.trans h.demands⟩

theorem State.entry_of_empty (h : s.demands.table = []) (x : Source) : s.entry x = none := by
  unfold State.entry
  rw [h]; rfl

theorem State.hasEntry_of_empty (h : s.demands.table = []) (x : Source) : s.hasEntry x = false := by
  unfold State.hasEntry
  rw [State.entry_of_empty h]; rfl

/-- R109, R110: without a demand a channel's target is 0. -/
theorem State.formedTarget_of_empty (h : s.demands.table = []) (hd : s.demands.driver = 0) (c : ChannelId) :
    s.formedTarget c = 0 := by
  unfold State.formedTarget
  split
  · simp [State.largestCandidate, State.ldp, loadDependent, hd, State.entryFor, State.entry_of_empty h,
      State.hasEntry_of_empty h]
  · rfl

/-- R120: a target of 0 releases no channel. -/
theorem State.lockOnTarget_of_zero {c : ChannelId} (h : (s.channel c).target = 0) :
    s.lockOnTarget c = s ∨ s.lockOnTarget c = s.freeChannel c := by
  unfold State.lockOnTarget
  split
  · split
    · rw [if_neg (by rw [h]; simp)]; exact .inl rfl
    · exact .inr rfl
    · exact .inr rfl
    · rw [if_pos (by rw [h]; exact Nat.zero_le _)]; exact .inr rfl
  · exact .inr rfl

theorem State.takeDriverPart_targetsOnly (c : ChannelId) : s.TargetsOnly (s.takeDriverPart c) := by
  unfold State.takeDriverPart
  split <;> exact ⟨rfl, rfl, rfl⟩

theorem State.followTarget_of_empty (h : s.demands.table = []) (hd : s.demands.driver = 0) (c : ChannelId) :
    s.TargetsOnly (s.followTarget c) := by
  unfold State.followTarget
  dsimp only
  rw [State.formedTarget_of_empty h hd]
  refine State.TargetsOnly.trans ?_ (State.takeDriverPart_targetsOnly c)
  split
  · exact ⟨rfl, rfl, rfl⟩
  · rcases State.lockOnTarget_of_zero (s := s.setChannel c { s.channel c with target := 0, driverPart := s.formedDriverPart c })
      (c := c) (by simp) with hl | hl <;> rw [hl] <;> exact ⟨rfl, rfl, rfl⟩

theorem State.followRatio_targetsOnly (g : GroupId) : s.TargetsOnly (s.followRatio g) := ⟨rfl, rfl, rfl⟩

theorem State.followMismatch_frame : s.followMismatch.inputs = s.inputs ∧ s.followMismatch.mode = s.mode ∧
    s.followMismatch.demands.table = s.demands.table := by
  unfold State.followMismatch
  split
  · split <;> split <;> exact ⟨rfl, rfl, rfl⟩
  · exact ⟨rfl, rfl, rfl⟩

theorem State.formedDriver_of_empty (h : s.demands.table = []) : s.formedDriver = 0 := by
  simp [State.formedDriver, State.sourcePressure, State.hasEntry_of_empty h, State.entry_of_empty h]

/-- R96, R98: with an empty table P_d is 0 and the part does not brake. -/
theorem State.followDriver_of_empty (h : s.demands.table = []) : s.followDriver.inputs = s.inputs ∧
    s.followDriver.mode = s.mode ∧ s.followDriver.demands.table = [] ∧ s.followDriver.demands.driver = 0 ∧
    s.followDriver.demands.braking = false := by
  have ht : (s.setDemands { s.demands with driver := 0 }).demands.table = [] := h
  have hb : (s.setDemands { s.demands with driver := 0 }).formedBraking = false := by
    simp [State.formedBraking, State.hasEntry_of_empty ht]
  unfold State.followDriver
  rw [State.formedDriver_of_empty h]
  dsimp only
  rw [hb]
  split
  · rename_i he
    exact ⟨rfl, rfl, h, rfl, he.symm⟩
  · exact ⟨rfl, rfl, h, rfl, rfl⟩

/-- R102: what an empty table leaves of the brakes. -/
theorem State.followDemands_of_empty (h : s.demands.table = []) : s.followDemands.inputs = s.inputs ∧
    s.followDemands.mode = s.mode ∧ s.followDemands.demands.table = [] ∧ s.followDemands.demands.braking = false := by
  obtain ⟨i1, m1, t1⟩ := s.followMismatch_frame
  obtain ⟨i2, m2, t2, d2, b2⟩ := State.followDriver_of_empty (t1.trans h)
  have hstep : ∀ (t : State) c, s.followMismatch.followDriver.TargetsOnly t →
      s.followMismatch.followDriver.TargetsOnly (t.followTarget c) := fun t c ht =>
    ht.trans (State.followTarget_of_empty (by rw [ht.demands, t2]) (by rw [ht.demands, d2]) c)
  have hr := (State.followRatio_targetsOnly (s := s.followMismatch.followDriver) .g1).trans
    (State.followRatio_targetsOnly .g2)
  have k : s.followMismatch.followDriver.TargetsOnly s.followDemands :=
    hstep _ .chX (hstep _ .chR (hstep _ .chL hr))
  exact ⟨k.inputs.trans (i2.trans i1), k.mode.trans (m2.trans m1), by rw [k.demands, t2], by rw [k.demands, b2]⟩

end

/-! ### A new reference speed -/

section
variable {s : State}

/-- R62, R154: what a change of the motion state means for the power state. -/
structure State.Moved (s t : State) : Prop where
  reference : t.inputs.reference = s.inputs.reference
  axles : t.loads.axles = s.loads.axles
  demands : t.demands = s.demands
  stability : t.stability = s.stability
  intake : t.intake = s.intake
  workshop : ∃ p a r, t.mode = { s.mode with power := p, awaited := a, runOnSince := r }
  power : t.mode = s.mode ∨ t.inputs.motion = .moving ∧ s.inputs.motion ≠ .moving ∧ s.mode.power ≠ .awake

theorem motionAt_standstill {m : Motion} {v : Nat} (h : motionAt m v = .standstill) : m = .standstill := by
  unfold motionAt at h
  split at h
  · cases h
  · split at h
    · cases h
    · cases m <;> simp at h ⊢

theorem State.wake_frame : ∃ p a r, s.wake = s.setMode { s.mode with power := p, awaited := a, runOnSince := r } := by
  unfold State.wake
  split
  · exact ⟨_, _, _, rfl⟩
  · dsimp only
    split <;> exact ⟨_, _, _, rfl⟩

theorem State.enterMotion_rolling : s.enterMotion .rolling = s.setInputs { s.inputs with motion := .rolling } := rfl

theorem State.enterMotion_moving : (∃ p a r, s.enterMotion .moving =
      (s.setInputs { s.inputs with motion := .moving }).setMode { s.mode with power := p, awaited := a, runOnSince := r }) ∧
    (s.mode.power = .awake → s.enterMotion .moving = s.setInputs { s.inputs with motion := .moving }) := by
  unfold State.enterMotion
  dsimp only
  rw [State.setInputs_mode]
  cases hp : s.mode.power with
  | awake => exact ⟨⟨_, _, _, rfl⟩, fun _ => rfl⟩
  | runOn => exact ⟨⟨_, _, _, rfl⟩, nofun⟩
  | watch => exact ⟨State.wake_frame (s := s.setInputs { s.inputs with motion := .moving }), nofun⟩

theorem State.takeMotion_eq : ∃ x, s.takeMotion = if motionAt s.inputs.motion s.inputs.reference = s.inputs.motion then
      s.setInputs { s.inputs with belowSince := x }
    else (s.setInputs { s.inputs with belowSince := x }).enterMotion (motionAt s.inputs.motion s.inputs.reference) :=
  ⟨_, rfl⟩

theorem State.takeMotion_moved : s.Moved s.takeMotion := by
  obtain ⟨x, h⟩ := s.takeMotion_eq
  rw [h]
  split
  · exact ⟨rfl, rfl, rfl, rfl, rfl, ⟨_, _, _, rfl⟩, .inl rfl⟩
  · rename_i hne
    cases hm : motionAt s.inputs.motion s.inputs.reference with
    | standstill => exact absurd (hm.trans (motionAt_standstill hm).symm) hne
    | rolling =>
      rw [State.enterMotion_rolling]
      exact ⟨rfl, rfl, rfl, rfl, rfl, ⟨_, _, _, rfl⟩, .inl rfl⟩
    | moving =>
      have hn : s.inputs.motion ≠ .moving := fun hc => hne (hm.trans hc.symm)
      by_cases hp : s.mode.power = .awake
      · rw [(State.enterMotion_moving (s := s.setInputs { s.inputs with belowSince := x })).2 hp]
        exact ⟨rfl, rfl, rfl, rfl, rfl, ⟨_, _, _, rfl⟩, .inl rfl⟩
      · obtain ⟨p, a, r, hw⟩ := (State.enterMotion_moving (s := s.setInputs { s.inputs with belowSince := x })).1
        rw [hw]
        exact ⟨rfl, rfl, rfl, rfl, rfl, ⟨p, a, r, rfl⟩, .inr ⟨rfl, hn, hp⟩⟩

end

end Sys2Proof.Machine
end

section
/-! SUPPORT. The steps of a Restart, one after the other (R102, R142, R144, R154, R173). -/
namespace Sys2Proof.Machine

/-! ### The reference speed after a Restart -/

/-- What a new reference speed makes of a part whose workshop is OFF. -/
structure State.Referenced (s t : State) : Prop where
  demands : t.demands = s.demands
  stability : t.stability = s.stability
  intake : t.intake = s.intake
  calm : s.Calm t
  sameDown : s.SameDown t
  workshop : ∃ p a r, t.mode = { s.mode with power := p, awaited := a, runOnSince := r }
  power : t.mode = s.mode ∨ t.inputs.motion = .moving ∧ s.inputs.motion ≠ .moving ∧ s.mode.power ≠ .awake
  still : s.formedReference = s.inputs.reference → t.inputs = s.inputs

section
variable {s t u : State}

theorem State.workshopOff_of_off (h : s.mode.workshop = .off) : s.workshopOff = s := by
  unfold State.workshopOff
  rw [if_pos h]

/-- R81, R84: the lift faults and the bounds at a new reference speed, with no step running. -/
theorem State.judgeLifts_frame (hr : s.mode.running = none) :
    s.Apart (AxleId.list.foldl State.boundHeldUp (AxleId.list.foldl State.judgeLiftFault s)) ∧
    s.Calm (AxleId.list.foldl State.boundHeldUp (AxleId.list.foldl State.judgeLiftFault s)) ∧
    s.SameDown (AxleId.list.foldl State.boundHeldUp (AxleId.list.foldl State.judgeLiftFault s)) := by
  obtain ⟨h1, h2, h3⟩ := State.foldl_keeps (P := fun t => s.Apart t ∧ s.Calm t ∧ s.SameDown t) (f := State.judgeLiftFault)
    (fun t a ⟨h1, h2, h3⟩ => by
      obtain ⟨k1, k2, k3⟩ := State.judgeLiftFault_frame (s := t) a (by rw [h1.mode, hr])
      exact ⟨h1.trans k1, h2.trans k2, h3.trans k3⟩) AxleId.list ⟨.refl s, .refl s, .refl s⟩
  have hl := State.Lifts.foldl (s := AxleId.list.foldl State.judgeLiftFault s) (fun _ a => State.boundHeldUp_lifts a)
    AxleId.list
  exact ⟨h1.trans (hl.quiet (by rw [h1.mode, hr])).apart, h2.trans hl.calm,
    h3.trans (.foldl (fun _ a => State.boundHeldUp_sameDown a) _)⟩

theorem State.followReference_referenced (hr : s.mode.running = none) (ho : s.mode.workshop = .off) :
    s.Referenced s.followReference := by
  unfold State.followReference
  dsimp only
  split
  · rename_i hv
    refine ⟨rfl, rfl, rfl, .of_loads rfl, .refl s, ⟨_, _, _, rfl⟩, .inl rfl, fun _ => ?_⟩
    rw [hv]; rfl
  · rename_i hv
    obtain ⟨v, hv'⟩ : ∃ v, v = s.formedReference := ⟨_, rfl⟩
    rw [← hv'] at hv ⊢
    have hoff : (if 30 < v then (s.setInputs { s.inputs with reference := v }).workshopOff
        else s.setInputs { s.inputs with reference := v }) = s.setInputs { s.inputs with reference := v } := by
      rw [State.workshopOff_of_off (by exact ho), ite_self]
    rw [hoff]
    have hm := State.takeMotion_moved (s := s.setInputs { s.inputs with reference := v })
    obtain ⟨p, a, r, hw⟩ := hm.workshop
    obtain ⟨k1, k2, k3⟩ := State.judgeLifts_frame (s := (s.setInputs { s.inputs with reference := v }).takeMotion)
      (by rw [hw]; exact hr)
    refine ⟨k1.demands.trans hm.demands, k1.stability.trans hm.stability, k1.intake.trans hm.intake,
      State.Calm.trans (.of_loads hm.axles) k2, fun b => (k3 b).trans ?_, ⟨p, a, r, k1.mode.trans hw⟩, ?_, ?_⟩
    · rw [State.axle, hm.axles]; rfl
    · rw [k1.mode, k1.inputs]; exact hm.power
    · exact fun h => absurd (hv'.trans h) hv

/-! ### The steps before the lifts -/

/-- What the steps of a Restart keep of the configuration, the measured inputs and the port. -/
structure State.Kept (s t : State) : Prop where
  now : t.now = s.now
  store : t.store = s.store
  analog : t.inputs.analog = s.inputs.analog
  wheels : t.inputs.wheels = s.inputs.wheels
  brakeMode : t.channels.mode = s.channels.mode
  layout : ∀ a, (t.axle a).layout = (s.axle a).layout
  reply : t.port.reply = s.port.reply
  sent : t.port.sent = s.port.sent
  detail : t.port.detail = s.port.detail
  batchSize : t.port.batchSize = s.port.batchSize
  batch : t.port.batch = s.port.batch

theorem State.Kept.refl (s : State) : s.Kept s := ⟨rfl, rfl, rfl, rfl, rfl, fun _ => rfl, rfl, rfl, rfl, rfl, rfl⟩

theorem State.Kept.trans (h : s.Kept t) (k : t.Kept u) : s.Kept u :=
  ⟨k.now.trans h.now, k.store.trans h.store, k.analog.trans h.analog, k.wheels.trans h.wheels,
    k.brakeMode.trans h.brakeMode, fun a => (k.layout a).trans (h.layout a), k.reply.trans h.reply, k.sent.trans h.sent,
    k.detail.trans h.detail, k.batchSize.trans h.batchSize, k.batch.trans h.batch⟩

theorem Offers.kept (h : Offers s t) : s.Kept t :=
  ⟨h.now, h.store, h.analog, h.wheels, h.brakeMode, h.layout, h.reply, h.sent, h.detail, h.batchSize, h.batch⟩

/-- The records that a Restart has put to rest: the demand table, the STU and the workshop. -/
structure State.Rested (s : State) : Prop where
  table : s.demands.table = []
  braking : s.demands.braking = false
  idle : s.stability.state = .idle
  lastNegative : s.stability.lastNegative = none
  workshop : s.mode.workshop = .off
  running : s.mode.running = none
  staged : s.mode.staged = none
  result : s.mode.result = .none
  cause : s.mode.cause = none

theorem State.Rested.apart (h : s.Rested) (k : s.Apart t) : t.Rested :=
  ⟨by rw [k.demands, h.table], by rw [k.demands, h.braking], by rw [k.stability, h.idle],
    by rw [k.stability, h.lastNegative], by rw [k.mode, h.workshop], by rw [k.mode, h.running], by rw [k.mode, h.staged],
    by rw [k.mode, h.result], by rw [k.mode, h.cause]⟩

/-- The supply side of the mode record is as it was. -/
structure State.SamePower (s t : State) : Prop where
  power : t.mode.power = s.mode.power
  runOnSince : t.mode.runOnSince = s.mode.runOnSince
  awaited : t.mode.awaited = s.mode.awaited
  wakeTaken : t.mode.wakeTaken = s.mode.wakeTaken

/-- R102: the emptied table. -/
theorem State.emptied_spec {x : Demands} (hx : x.table = []) : s.Kept (s.setDemands x).followDemands ∧
    (s.setDemands x).followDemands.inputs = s.inputs ∧ (s.setDemands x).followDemands.mode = s.mode ∧
    (s.setDemands x).followDemands.demands.table = [] ∧ (s.setDemands x).followDemands.demands.braking = false := by
  have h0 : s.Kept (s.setDemands x) := ⟨rfl, rfl, rfl, rfl, rfl, fun _ => rfl, rfl, rfl, rfl, rfl, rfl⟩
  obtain ⟨h1, h2, h3, h4⟩ := State.followDemands_of_empty (s := s.setDemands x) hx
  exact ⟨h0.trans (Settles.followDemands (s.setDemands x)).offers.kept, h1, h2, h3, h4⟩

theorem State.stuIdle_waits : s.Waits s.stuIdle := by
  refine State.Waits.trans (t := (s.setStability (s.stability.quiet .idle)).retireStability) ?_ State.rollEnds_lifts.waits
  exact ⟨fun h => by simp [State.retireStability, State.retireEntry, State.liftSuppressions, State.setStability,
    State.setDemands, State.setChannels, h], rfl, rfl, rfl, rfl⟩

theorem State.stuIdle_inputs : s.stuIdle.inputs = s.inputs ∧ s.stuIdle.stability.state = .idle := by
  have h := LoadChange.rollEnds (s.setStability (s.stability.quiet .idle)).retireStability
  exact ⟨h.inputs, by unfold State.stuIdle; rw [h.stability]; rfl⟩

theorem State.SamePower.trans (h : s.SamePower t) (k : t.SamePower u) : s.SamePower u :=
  ⟨k.power.trans h.power, k.runOnSince.trans h.runOnSince, k.awaited.trans h.awaited, k.wakeTaken.trans h.wakeTaken⟩

/-- R142: the STU of a Restart. -/
theorem State.restartStability_spec : s.Kept s.restartStability ∧ s.restartStability.inputs = s.inputs ∧
    s.Waits s.restartStability ∧ s.SamePower s.restartStability ∧ s.restartStability.stability.state = .idle ∧
    s.restartStability.stability.lastNegative = none := by
  have hw := State.stuIdle_waits (s := s)
  obtain ⟨hi, hs⟩ := State.stuIdle_inputs (s := s)
  have ho := (Steady.stuIdle s).settles.offers
  have hset : ∀ (t : State) x, t.Kept (t.setStability x) := fun t x =>
    ⟨rfl, rfl, rfl, rfl, rfl, fun _ => rfl, rfl, rfl, rfl, rfl, rfl⟩
  unfold State.restartStability
  generalize s.stuIdle = t at *
  exact ⟨ho.kept.trans (hset t _), hi, ⟨hw.table, hw.braking, hw.power, hw.runOnSince, hw.awaited⟩,
    ⟨hw.power, hw.runOnSince, hw.awaited, ho.wakeTaken⟩, hs, rfl⟩

/-- R144: the workshop record of a Restart. -/
theorem State.restartWorkshop_spec (ht : s.demands.table = []) (hb : s.demands.braking = false)
    (hs : s.stability.state = .idle) (hl : s.stability.lastNegative = none) : s.Kept s.restartWorkshop ∧
    s.restartWorkshop.inputs = s.inputs ∧ s.restartWorkshop.Rested ∧ s.SamePower s.restartWorkshop :=
  ⟨⟨rfl, rfl, rfl, rfl, rfl, fun _ => rfl, rfl, rfl, rfl, rfl, rfl⟩, rfl, ⟨ht, hb, hs, hl, rfl, rfl, rfl, rfl, rfl⟩,
    ⟨rfl, rfl, rfl, rfl⟩⟩

/-- R102, R142, R144: the demand table, the STU and the workshop of a Restart. -/
theorem State.calmed_spec : s.Kept s.emptyTable.restartStability.restartWorkshop ∧
    s.emptyTable.restartStability.restartWorkshop.inputs = s.inputs ∧
    s.emptyTable.restartStability.restartWorkshop.Rested ∧ s.SamePower s.emptyTable.restartStability.restartWorkshop := by
  obtain ⟨h1, h2, h3, h4, h5⟩ : s.Kept s.emptyTable ∧ s.emptyTable.inputs = s.inputs ∧ s.emptyTable.mode = s.mode ∧
    s.emptyTable.demands.table = [] ∧ s.emptyTable.demands.braking = false := by
    unfold State.emptyTable
    exact State.emptied_spec (by rfl)
  obtain ⟨k1, k2, k3, k4, k5, k6⟩ := State.restartStability_spec (s := s.emptyTable)
  obtain ⟨l1, l2, l3, l4⟩ := State.restartWorkshop_spec (k3.table h4) (k3.braking.trans h5) k5 k6
  have h6 : s.SamePower s.emptyTable := ⟨by rw [h3], by rw [h3], by rw [h3], by rw [h3]⟩
  exact ⟨(h1.trans k1).trans l1, l2.trans (k2.trans h2), l3, (h6.trans k4).trans l4⟩

/-- R28, R40, R47: the Telegram Intake of a Restart. -/
theorem State.restartIntake_frame : ∃ x n, s.restartIntake =
    ((s.setTyres x).setNotices n).setIntake (.fresh s.now) := by
  refine ⟨s.cancelWindow.tyres, s.cancelWindow.port.notices, ?_⟩
  have hn : s.cancelWindow.now = s.now := by rw [State.cancelWindow_frame]; rfl
  unfold State.restartIntake
  dsimp only
  rw [hn, State.cancelWindow_window, State.cancelWindow_frame]
  rfl

theorem State.restartIntake_spec : s.Kept s.restartIntake ∧ s.restartIntake.inputs = s.inputs ∧
    (s.Rested → s.restartIntake.Rested) ∧ s.SamePower s.restartIntake ∧ s.restartIntake.intake = .fresh s.now := by
  obtain ⟨x, n, hi⟩ := s.restartIntake_frame
  rw [hi]
  exact ⟨⟨rfl, rfl, rfl, rfl, rfl, fun _ => rfl, rfl, rfl, rfl, rfl, rfl⟩, rfl,
    fun h => ⟨h.table, h.braking, h.idle, h.lastNegative, h.workshop, h.running, h.staged, h.result, h.cause⟩,
    ⟨rfl, rfl, rfl, rfl⟩, rfl⟩

/-- R154: what a Restart makes of the power state. -/
structure State.Roused (s t : State) : Prop where
  awake : s.mode.power ≠ .watch → t.mode.power = s.mode.power ∧ t.mode.runOnSince = s.mode.runOnSince ∧
    t.mode.awaited = s.mode.awaited
  high : s.mode.power = .watch → s.mode.wakeTaken = true → t.mode.power = .awake ∧ t.mode.awaited = false
  low : s.mode.power = .watch → s.mode.wakeTaken = false → s.inputs.motion ≠ .standstill →
    t.mode.power = .awake ∧ t.mode.awaited = true
  standing : s.mode.power = .watch → s.mode.wakeTaken = false → s.inputs.motion = .standstill →
    t.mode.power = .runOn ∧ t.mode.runOnSince = some s.now ∧ t.mode.awaited = false

theorem State.wakeIfWatching_frame : ∃ p a r, s.wakeIfWatching =
    s.setMode { s.mode with power := p, awaited := a, runOnSince := r } := by
  unfold State.wakeIfWatching
  split
  · exact ⟨_, _, _, rfl⟩
  · exact ⟨_, _, _, rfl⟩
  · exact State.wake_frame

theorem State.wakeIfWatching_roused : s.Roused s.wakeIfWatching := by
  unfold State.wakeIfWatching
  cases hp : s.mode.power with
  | awake => exact ⟨fun _ => ⟨rfl, rfl, rfl⟩, fun h => (by rw [hp] at h; cases h), fun h => (by rw [hp] at h; cases h),
      fun h => (by rw [hp] at h; cases h)⟩
  | runOn => exact ⟨fun _ => ⟨rfl, rfl, rfl⟩, fun h => (by rw [hp] at h; cases h), fun h => (by rw [hp] at h; cases h),
      fun h => (by rw [hp] at h; cases h)⟩
  | watch =>
    refine ⟨fun h => absurd hp h, fun _ hw => ?_, fun _ hw hm => ?_, fun _ hw hm => ?_⟩
    · simp [State.wake, hw]
    · simp [State.wake, hw, hm]
    · simp [State.wake, hw, hm, State.enterRunOn]

theorem State.Roused.from {r : State} (h : s.Roused t) (hp : r.SamePower s) (hm : s.inputs.motion = r.inputs.motion)
    (hn : s.now = r.now) : r.Roused t := by
  refine ⟨fun k => ?_, fun k1 k2 => ?_, fun k1 k2 k3 => ?_, fun k1 k2 k3 => ?_⟩
  · rw [← hp.power, ← hp.runOnSince, ← hp.awaited]
    exact h.awake (by rwa [hp.power])
  · exact h.high (by rwa [hp.power]) (by rwa [hp.wakeTaken])
  · exact h.low (by rwa [hp.power]) (by rwa [hp.wakeTaken]) (by rwa [hm])
  · rw [← hn]
    exact h.standing (by rwa [hp.power]) (by rwa [hp.wakeTaken]) (by rwa [hm])

theorem State.wakeIfWatching_spec : s.Kept s.wakeIfWatching ∧ s.wakeIfWatching.inputs = s.inputs ∧
    (s.Rested → s.wakeIfWatching.Rested) ∧ s.wakeIfWatching.intake = s.intake := by
  obtain ⟨p, a, r, hw⟩ := s.wakeIfWatching_frame
  rw [hw]
  exact ⟨⟨rfl, rfl, rfl, rfl, rfl, fun _ => rfl, rfl, rfl, rfl, rfl, rfl⟩, rfl,
    fun h => ⟨h.table, h.braking, h.idle, h.lastNegative, h.workshop, h.running, h.staged, h.result, h.cause⟩, rfl⟩

/-- The state of a Restart before the lifts take the demands and the STU that are left. -/
def State.roused (s : State) : State := s.emptyTable.restartStability.restartWorkshop.restartIntake.wakeIfWatching

theorem State.roused_spec : s.Kept s.roused ∧ s.roused.inputs = s.inputs ∧ s.roused.Rested ∧ s.Roused s.roused ∧
    s.roused.intake = .fresh s.now := by
  obtain ⟨h1, h2, h3, h4⟩ := State.calmed_spec (s := s)
  unfold State.roused
  generalize s.emptyTable.restartStability.restartWorkshop = t at *
  obtain ⟨k1, k2, k3, k4, k5⟩ := t.restartIntake_spec
  generalize t.restartIntake = u at *
  obtain ⟨l1, l2, l3, l4⟩ := u.wakeIfWatching_spec
  exact ⟨(h1.trans k1).trans l1, l2.trans (k2.trans h2), l3 (k3 h3),
    State.wakeIfWatching_roused.from (h4.trans k4) (by rw [k2, h2]) ((h1.trans k1).now), by rw [l4, k5, h1.now]⟩

end

end Sys2Proof.Machine
end

section
/-! SUPPORT. A Restart as a whole (R102, R170, R173). -/
namespace Sys2Proof.Machine

section
variable {s t u : State}

/-! ### The lifts and the reference speed -/

theorem State.Kept.formedReference (h : s.Kept t) (hd : s.SameDown t) : t.formedReference = s.formedReference := by
  have hset : t.referenceSet = s.referenceSet := by
    unfold State.referenceSet State.wheel
    simp only [h.layout, hd _, h.wheels]
  unfold State.formedReference State.wheel
  rw [hset, h.wheels]

/-- What the first half of a Restart reaches (R173 steps 1 and 2). -/
structure State.RestartedLive (s v : State) : Prop where
  kept : s.Kept v
  rested : v.Rested
  intake : v.intake = .fresh s.now
  noneWaits : ∀ a, v.NoneWaits a
  still : s.formedReference = s.inputs.reference → s.SameDown v → v.inputs = s.inputs
  power : (v.inputs.motion = .moving → s.inputs.motion = .moving) → s.Roused v

theorem State.Roused.of_power (h : s.Roused t) (hp : u.mode.power = t.mode.power)
    (hr : u.mode.runOnSince = t.mode.runOnSince) (ha : u.mode.awaited = t.mode.awaited) : s.Roused u := by
  obtain ⟨h1, h2, h3, h4⟩ := h
  exact ⟨by rwa [hp, hr, ha], by rwa [hp, ha], by rwa [hp, ha], by rwa [hp, hr, ha]⟩

theorem State.restartLive_spec : s.RestartedLive s.restartLive := by
  obtain ⟨h1, h2, h3, h4, h5⟩ := s.roused_spec
  have he : s.restartLive = s.roused.followLifts.followReference := rfl
  rw [he]
  generalize s.roused = r at *
  have hl : r.Lifts r.followLifts := .trans (.foldl (fun _ a => State.retryHeldUp_lifts a) _)
    (State.followLifts_lifts h3.braking)
  have hk := (LoadChange.followLifts r).settles.offers.kept
  have hw := State.followLifts_noneWaits h3.running h3.braking h3.idle
  have hap := (hl.quiet h3.running).apart
  generalize r.followLifts = l at *
  have hr := h3.apart hap
  have hf := State.followReference_referenced hr.running hr.workshop
  have hk' := (Steady.followReference l).settles.offers.kept
  generalize l.followReference = v at *
  obtain ⟨p, a, x, hm⟩ := hf.workshop
  have hin : l.inputs = s.inputs := hap.inputs.trans h2
  refine ⟨(h1.trans hk).trans hk', ?_, ?_, fun a => (hw a).calm hf.calm, fun href hd => ?_, fun hmove => ?_⟩
  · exact ⟨by rw [hf.demands, hr.table], by rw [hf.demands, hr.braking], by rw [hf.stability, hr.idle],
      by rw [hf.stability, hr.lastNegative], by rw [hm]; exact hr.workshop, by rw [hm]; exact hr.running,
      by rw [hm]; exact hr.staged, by rw [hm]; exact hr.result, by rw [hm]; exact hr.cause⟩
  · rw [hf.intake, hap.intake, h5]
  · refine (hf.still ?_).trans hin
    rw [(h1.trans hk).formedReference fun b => (hf.sameDown b).symm.trans (hd b), hin, href]
  · have hroused : s.Roused l := h4.of_power (by rw [hap.mode]) (by rw [hap.mode]) (by rw [hap.mode])
    rcases hf.power with hp | ⟨hp, hn, -⟩
    · exact hroused.of_power (by rw [hp]) (by rw [hp]) (by rw [hp])
    · rw [hin] at hn
      exact absurd (hmove hp) hn

/-! ### The entries that CTL and SUP call for -/

/-- What the entries of a Restart reach: a table of PNEUMATIC and EMERGENCY, and with EMERGENCY the lifts. -/
structure State.Recreated (w u : State) : Prop where
  table : ∀ e ∈ u.demands.table, e.source = .pneumatic ∨ e.source = .emergency
  calm : w.Calm u
  sameDown : w.SameDown u
  now : u.now = w.now
  store : u.store = w.store
  inputs : u.inputs = w.inputs
  stability : u.stability = w.stability
  mode : u.mode = w.mode
  brakeMode : u.channels.mode = w.channels.mode
  intake : u.intake = w.intake
  port : u.port = { w.port with notices := u.port.notices }
  notices : ∃ l m, u.port.notices = { w.port.notices with tyreLevel := l, pairMismatch := m }
  unchanged : u.hasEntry .emergency = false → u.port.notices = w.port.notices

/-- A change of the demands alone. -/
theorem State.Recreated.setDemands {d : Demands} (h : ∀ e ∈ d.table, e.source = .pneumatic ∨ e.source = .emergency) :
    s.Recreated (s.setDemands d) :=
  ⟨h, .of_loads rfl, .refl s, rfl, rfl, rfl, rfl, rfl, rfl, rfl, rfl, ⟨_, _, rfl⟩, fun _ => rfl⟩

theorem State.takeControl_frame (ht : s.demands.table = []) (v : Nat) : ∃ d : Demands, s.takeControl v = s.setDemands d ∧
    ∀ e ∈ d.table, e.source = .pneumatic := by
  unfold State.takeControl
  rw [State.hasEntry_of_empty ht, if_neg Bool.false_ne_true]
  split
  · unfold State.postEntry
    rw [State.hasEntry_of_empty ht, if_neg Bool.false_ne_true]
    refine ⟨_, rfl, fun e he => ?_⟩
    simp only [ht, List.nil_append, List.mem_singleton] at he
    rw [he]
  · exact ⟨s.demands, rfl, fun e he => by rw [ht] at he; cases he⟩

theorem State.hasEntry_of_sources {x y : Source} (h : ∀ e ∈ s.demands.table, e.source = x) (hxy : x ≠ y) :
    s.hasEntry y = false := by
  unfold State.hasEntry State.entry
  rw [Option.isSome_eq_false_iff, Option.isNone_iff_eq_none, List.find?_eq_none]
  intro e he
  simp [h e he, hxy]

/-- R112: a low SUP creates EMERGENCY, with every lifted axle lowered. -/
theorem State.takeSupply_recreated (hr : s.mode.running = none) (h : ∀ e ∈ s.demands.table, e.source = .pneumatic)
    (v : Nat) :
    s.Recreated (s.takeSupply v) := by
  have hno := State.hasEntry_of_sources (y := .emergency) h (by simp)
  unfold State.takeSupply
  rw [hno, if_neg Bool.false_ne_true]
  split
  · obtain ⟨d, hd, he⟩ : ∃ d : Demands, s.postEntry .emergency (.whole 1000) = s.setDemands d ∧
        ∃ x : Entry, x.source = .emergency ∧ d.table = s.demands.table ++ [x] := by
      unfold State.postEntry
      rw [hno, if_neg Bool.false_ne_true]
      exact ⟨_, rfl, _, rfl, rfl⟩
    obtain ⟨x, hx, ht⟩ := he
    have hl : (s.setDemands d).Lifts (s.setDemands d).forceLower := State.forceLower_lifts
    have hq := hl.quiet hr
    obtain ⟨l, m, hn⟩ := hq.notices
    unfold State.createEmergency
    rw [hd]
    refine ⟨fun e he => ?_, State.Calm.trans (.of_loads rfl) hl.calm, State.forceLower_sameDown (s := s.setDemands d),
      hq.apart.now, hq.apart.store, hq.apart.inputs, hq.apart.stability, hq.apart.mode, hq.apart.brakeMode,
      hq.apart.intake, hq.apart.port, ⟨l, m, hn⟩, fun hc => ?_⟩
    · rw [hq.apart.demands, State.setDemands_demands, ht, List.mem_append, List.mem_singleton] at he
      rcases he with he | rfl
      · exact .inl (h e he)
      · exact .inr hx
    · unfold State.hasEntry State.entry at hc
      rw [hq.apart.demands, State.setDemands_demands, Option.isSome_eq_false_iff, Option.isNone_iff_eq_none,
        List.find?_eq_none] at hc
      exact absurd (by simpa using hx) (hc x (by rw [ht]; simp))
  · exact State.Recreated.setDemands (d := s.demands) fun e he => .inl (h e he)

theorem State.Recreated.after_demands {d : Demands} (h : (s.setDemands d).Recreated u) : s.Recreated u :=
  ⟨h.table, State.Calm.trans (.of_loads rfl) h.calm, h.sameDown, h.now, h.store, h.inputs, h.stability, h.mode,
    h.brakeMode, h.intake, h.port, h.notices, h.unchanged⟩

/-- R102: the PNEUMATIC entry that CTL calls for. -/
def State.controlled (s : State) : State := (s.pressureOf .ctl).elim s s.takeControl

theorem State.recreateEntries_eq :
    s.recreateEntries = (s.controlled.pressureOf .sup).elim s.controlled s.controlled.takeSupply := by
  unfold State.recreateEntries State.controlled
  cases s.pressureOf .ctl with
  | none => cases h : s.pressureOf .sup <;> simp [h]
  | some v => cases h : (s.takeControl v).pressureOf .sup <;> simp [h]

theorem State.controlled_frame (ht : s.demands.table = []) : ∃ d : Demands, s.controlled = s.setDemands d ∧
    ∀ e ∈ d.table, e.source = .pneumatic := by
  unfold State.controlled
  cases s.pressureOf .ctl with
  | none => exact ⟨s.demands, rfl, fun e he => by rw [ht] at he; cases he⟩
  | some v => exact State.takeControl_frame ht v

theorem State.recreateEntries_recreated (ht : s.demands.table = []) (hr : s.mode.running = none) :
    s.Recreated s.recreateEntries := by
  obtain ⟨d, hd, he⟩ := State.controlled_frame ht
  rw [State.recreateEntries_eq, hd]
  refine State.Recreated.after_demands (d := d) ?_
  cases (s.setDemands d).pressureOf .sup with
  | none => exact State.Recreated.setDemands (s := s.setDemands d) (d := d) fun e h => .inl (he e h)
  | some v => exact State.takeSupply_recreated (s := s.setDemands d) hr he v

end

end Sys2Proof.Machine
end

section
/-! SUPPORT. Settles O58: power-on, the loss of supply, and Restart (R53, R58, R66, R102, R154, R170, R172, R173). -/
namespace Sys2Proof.Machine

/-! ### Power-on -/

theorem Store.startImage_of_judged {y : Store} {x : Image}
    (h : y.judged = some x ∨ (y.judged = none ∧ x = defaultImage)) : y.startImage = x := by
  unfold Store.startImage
  rcases h with h | ⟨h, rfl⟩ <;> rw [h] <;> rfl

section
variable {s : State} {x : Image} {valid high : Bool} {wires : PerWheel Bool} {g : GroupId}

theorem countAxles_map {α β : Type} (f : α → β) (p : β → Bool) (t : PerAxle α) :
    countAxles p (t.map f) = countAxles (fun a => p (f a)) t := rfl

theorem State.started_axle (a : AxleId) :
    (s.started x valid high wires).axle a = AxleRecord.ofStored s.now (x.axles.get a) := by cases a <;> rfl

/-- R66: the axles on the road at power-on are the present ones of the group. -/
theorem State.started_axlesDown : axlesDown (s.started x valid high wires).loads.axles g =
    countAxles (fun a => a.layout.serves g) x.axles := by
  have h : (s.started x valid high wires).loads.axles = x.axles.map (AxleRecord.ofStored s.now) := rfl
  unfold axlesDown
  rw [h, countAxles_map]
  congr 1
  funext a
  simp [AxleRecord.ofStored]

theorem State.started_group : (s.started x valid high wires).group g =
    .start (x.settings.groups.get g) (countAxles (fun a => a.layout.serves g) x.axles) := by cases g <;> rfl

/-- R66, R73: a group without an axle is not in use. -/
theorem State.started_unused (h : ∀ a, (x.axles.get a).layout.present = false ∨ (x.axles.get a).layout.group ≠ g) :
    (s.started x valid high wires).group g = .unused (x.settings.groups.get g).re := by
  rw [State.started_group, GroupRecord.start, if_pos]
  by_contra hc
  obtain ⟨a, ha⟩ := (countAxles_ne_zero _ x.axles).1 (bne_iff_ne.2 hc)
  simp only [AxleLayout.serves, Bool.and_eq_true, decide_eq_true_eq] at ha
  rcases h a with hp | hg
  · rw [hp] at ha; cases ha.1
  · exact hg ha.2

/-- R66, R73: a group in use is HELD under the start cause. -/
theorem State.started_used (h : ∃ a, (x.axles.get a).layout.present = true ∧ (x.axles.get a).layout.group = g) :
    ((s.started x valid high wires).group g).status = .held ∧ ((s.started x valid high wires).group g).holdStart = true ∧
    ((s.started x valid high wires).group g).w = (x.settings.groups.get g).wl ∧
    ((s.started x valid high wires).group g).l = 1000 ∧
    ((s.started x valid high wires).group g).n = axlesDown (s.started x valid high wires).loads.axles g := by
  obtain ⟨a, ha, hg⟩ := h
  have hn : countAxles (fun a => a.layout.serves g) x.axles ≠ 0 := bne_iff_ne.1
    ((countAxles_ne_zero (fun a : StoredAxle => a.layout.serves g) x.axles).2 ⟨a, by simp [AxleLayout.serves, ha, hg]⟩)
  rw [State.started_axlesDown, State.started_group, GroupRecord.start, if_neg hn]
  exact ⟨rfl, rfl, rfl, rfl, rfl⟩

theorem State.started_position (q : Position) :
    (s.started x valid high wires).position q = .ofStored (x.positions.get q) := PerPosition.get_map ..

theorem PositionRecord.ofStored_spec (p : StoredPosition) : (PositionRecord.ofStored p).pl = p.pl ∧
    (PositionRecord.ofStored p).pe = p.pe ∧ (PositionRecord.ofStored p).bound = p.bound ∧
    (PositionRecord.ofStored p).state = (if p.bound.isSome then .awaiting else .empty) := by
  unfold PositionRecord.ofStored
  cases h : p.bound <;> exact ⟨rfl, rfl, rfl, rfl⟩

theorem State.started_pair (a : AxleId) (sd : Side) : (s.started x valid high wires).pair a sd =
    if (x.axles.get a).layout.present = true ∧ (x.axles.get a).layout.dual = true then .unordered else .notAPair := by
  have h : (s.started x valid high wires).pair a sd = (startPairs (x.axles.get a).layout).get sd := by cases a <;> rfl
  rw [h]
  unfold startPairs
  cases (x.axles.get a).layout.present <;> cases (x.axles.get a).layout.dual <;> cases sd <;> rfl

theorem State.started_wheel (w : WheelId) :
    (s.started x valid high wires).wheel w = WheelInput.fresh s.now (wires.get w) := by cases w <;> rfl

theorem exec_powerOn (dt : Nat) (h : s.store.startImage = x) : exec (.powerOn dt high wires) s =
    .next ((s.elapse dt).started x s.store.judged.isSome high wires).settle := by
  subst h
  rfl

end

/-! ### Restart -/

section
variable {s : State}

/-- R173 step 4: what the reset policy says. -/
theorem State.restartPolicy_cases (s : State) : (s.settings.policy = .keep ∧ s.restartPolicy = s) ∨
    (s.settings.policy = .restore ∧ (s.store.valid = false ∨ s.store.image = none) ∧ s.restartPolicy = s.noteStoreInvalid) ∨
    ∃ x, s.settings.policy = .restore ∧ s.store.valid = true ∧ s.store.image = some x ∧
      s.restartPolicy = s.reload x.contents := by
  unfold State.restartPolicy
  cases s.settings.policy with
  | keep => exact .inl ⟨rfl, rfl⟩
  | restore =>
    cases hv : s.store.valid with
    | false => exact .inr (.inl ⟨rfl, .inl rfl, rfl⟩)
    | true =>
      cases hi : s.store.image with
      | none => exact .inr (.inl ⟨rfl, .inr rfl, rfl⟩)
      | some x => exact .inr (.inr ⟨x, rfl, rfl, rfl, rfl⟩)

/-- The state of a Restart, from its port at the reset values on, before the change is settled. -/
def State.restarted (s : State) : State := ((s.restartLive.setNotices Notices.clear).restartPolicy).recreateEntries

/-- The state of a Restart whose notices are cleared. -/
def State.restartCleared (s : State) : State := s.restartLive.setNotices Notices.clear

theorem State.setNotices_apart (n : Notices) : s.Apart (s.setNotices n) := ⟨rfl, rfl, rfl, rfl, rfl, rfl, rfl, rfl, rfl⟩

theorem State.restartCleared_apart : s.restartLive.Apart s.restartCleared := State.setNotices_apart Notices.clear

theorem State.restartCleared_rested : s.restartCleared.Rested :=
  s.restartLive_spec.rested.apart State.restartCleared_apart

theorem State.restartCleared_resting : s.restartCleared.Resting := by
  have h := State.restartCleared_apart.intake.trans s.restartLive_spec.intake
  exact ⟨State.restartCleared_rested.running, by rw [h]; rfl, by rw [h]; rfl⟩

theorem State.restartCleared_settings : s.restartCleared.settings = s.settings := by
  rw [State.restartCleared, State.setNotices_settings, State.settings_of_setup s.restartLive_setup]

theorem State.restartCleared_store : s.restartCleared.store = s.store :=
  State.restartCleared_apart.store.trans s.restartLive_spec.kept.store

theorem State.restartPolicy_apart (h : s.Resting) : s.Apart s.restartPolicy := by
  rcases s.restartPolicy_cases with ⟨-, hw⟩ | ⟨-, -, hw⟩ | ⟨x, -, -, -, hw⟩ <;> rw [hw]
  · exact .refl s
  · exact State.setNotices_apart _
  · exact (State.reload_reloads h x.contents).apart

theorem State.restartPolicy_noneWaits (h : s.Resting) (hn : ∀ a, s.NoneWaits a) (a : AxleId) :
    s.restartPolicy.NoneWaits a := by
  rcases s.restartPolicy_cases with ⟨-, hw⟩ | ⟨-, -, hw⟩ | ⟨x, -, -, -, hw⟩ <;> rw [hw]
  · exact hn a
  · exact hn a
  · exact fun _ _ => State.reload_notPending h x.contents a

/-- R173: what a Restart leaves of its first half. -/
theorem State.restarted_apart : s.restartLive.Apart s.restartCleared.restartPolicy :=
  State.restartCleared_apart.trans (State.restartPolicy_apart State.restartCleared_resting)

theorem State.restarted_recreated : s.restartCleared.restartPolicy.Recreated s.restarted := by
  have h := State.restartCleared_rested.apart (State.restartPolicy_apart (State.restartCleared_resting (s := s)))
  exact State.recreateEntries_recreated h.table h.running

/-- R157, R160: the notices under the reset policy. -/
theorem State.restartPolicy_notices (h : s.Resting) (hc : s.port.notices = Notices.clear) :
    (∃ l m r c b, s.restartPolicy.port.notices = { Notices.clear with
      tyreLevel := l, pairMismatch := m, positionsRetired := r, liftChange := c, storeInvalid := b } ∧
      (b = true ↔ s.settings.policy = .restore ∧ (s.store.valid = false ∨ s.store.image = none))) ∧
    (s.settings.policy = .keep ∨ s.store.valid = false ∨ s.store.image = none →
      ∃ b, s.restartPolicy.port.notices = { Notices.clear with storeInvalid := b }) := by
  rcases s.restartPolicy_cases with ⟨hp, hw⟩ | ⟨hp, hi, hw⟩ | ⟨x, hp, hv, hi, hw⟩ <;> rw [hw]
  · rw [hc, hp]
    exact ⟨⟨0, 0, 0, 0, false, rfl, by simp⟩, fun _ => ⟨false, rfl⟩⟩
  · have hn : s.noteStoreInvalid.port.notices = { Notices.clear with storeInvalid := true } := by
      unfold State.noteStoreInvalid State.setNotices
      dsimp only
      rw [hc]
    exact ⟨⟨0, 0, 0, 0, true, hn, by simp [hp, hi]⟩, fun _ => ⟨true, hn⟩⟩
  · obtain ⟨l, m, r, c, hn⟩ := (State.reload_reloads h x.contents).notices
    refine ⟨⟨l, m, r, c, false, by rw [hn, hc]; rfl, by simp [hv, hi]⟩, fun hk => ?_⟩
    rcases hk with hk | hk | hk
    · rw [hp] at hk; cases hk
    · rw [hv] at hk; cases hk
    · rw [hi] at hk; cases hk

theorem State.restarted_view : s.restarted.view = s.restartCleared.restartPolicy.view :=
  State.recreateEntries_view _

theorem State.reloadPosition_onlyTyres (p : Position) (x : StoredPosition) : s.OnlyTyres (s.reloadPosition p x) := by
  have h := State.setPosition_onlyTyres (s := s) p { s.position p with pl := x.pl, pe := x.pe }
  unfold State.reloadPosition
  dsimp only
  split
  · split
    · exact (h.trans (State.setPosition_onlyTyres p _)).trans (State.noteLevels_onlyTyres p _)
    · split
      · exact h.trans (State.clearBound_spec _ p).1
      · exact h
  · exact h

theorem State.reload_settings (x : Image) : (s.reload x).settings = x.settings := by
  have hp : ∀ t : State, (t.reloadPositions x).settings = t.settings := fun t =>
    State.foldl_keeps (P := fun u => u.settings = t.settings)
      (fun u p hu => (State.reloadPosition_onlyTyres p (x.positions.get p)).settings.trans hu) _ rfl
  have hd : ∀ t : State, t.dropBound.settings = t.settings := fun _ => rfl
  rw [State.reload_eq, State.settings_of_view (State.compareAllPairs_view _), hd, hp,
    State.settings_of_view (State.reloadSettings_view _ _), State.setSettings_settings]

/-- R173: under KEEP the configuration stays, and a record that is not LEARNING keeps its sensor. -/
theorem State.restarted_keep (hp : s.settings.policy = .keep) : s.restarted.settings = s.settings ∧
    (∀ a, (s.restarted.axle a).layout = (s.axle a).layout) ∧
    ∀ q, (s.restarted.position q).pl = (s.position q).pl ∧ (s.restarted.position q).pe = (s.position q).pe ∧
      (s.learnLaw → (s.position q).state ≠ .learning → (s.restarted.position q).bound = (s.position q).bound ∧
        (s.restarted.position q).state = (s.position q).state) := by
  have hw : s.restartCleared.restartPolicy = s.restartCleared := by
    rcases s.restartCleared.restartPolicy_cases with ⟨-, hw⟩ | ⟨h, -⟩ | ⟨x, h, -⟩
    · exact hw
    · rw [State.restartCleared_settings, hp] at h; cases h
    · rw [State.restartCleared_settings, hp] at h; cases h
  have hv : s.restarted.view = s.restartLive.view := by
    rw [State.restarted_view, hw]; exact State.setNotices_view _ _
  have hs := (State.setup_of_view hv).trans s.restartLive_setup
  refine ⟨State.settings_of_setup hs, fun a => State.layout_of_setup hs a, fun q =>
    ⟨State.pl_of_setup hs q, State.pe_of_setup hs q, fun hl hq => ?_⟩⟩
  have hc : s.emptyTable.restartStability.restartWorkshop.view = s.view := by
    simp [State.restartWorkshop, State.restartStability, State.emptyTable]
  have hlive := hv.trans s.restartLive_view
  have hpos : s.emptyTable.restartStability.restartWorkshop.restartIntake.position q =
      s.emptyTable.restartStability.restartWorkshop.position q := by
    have hi : ∀ t : State, t.restartIntake.position q = t.cancelWindow.position q := fun t => rfl
    rw [hi, State.cancelWindow_position (State.learnLaw_of_view hc hl), if_neg]
    rw [State.state_of_view hc]; exact hq
  have hb := State.bound_of_view hlive q
  have hst := State.state_of_view hlive q
  rw [hpos] at hb hst
  exact ⟨hb.trans (State.bound_of_view hc q), hst.trans (State.state_of_view hc q)⟩

/-- R173 step 4: under RESTORE with a VALID image the configuration is the image's. -/
theorem State.restarted_restore {x : StoredImage} (hp : s.settings.policy = .restore) (hv : s.store.valid = true)
    (hi : s.store.image = some x) : s.restarted.settings = x.contents.settings ∧
    (∀ a, (s.restarted.axle a).layout = (x.contents.axles.get a).layout) ∧
    ∀ q, s.TableLaws → (s.restarted.position q).view = (PositionRecord.ofStored (x.contents.positions.get q)).view := by
  have hw : s.restartCleared.restartPolicy = s.restartCleared.reload x.contents := by
    rcases s.restartCleared.restartPolicy_cases with ⟨h, -⟩ | ⟨-, h, -⟩ | ⟨y, -, -, h, hw⟩
    · rw [State.restartCleared_settings, hp] at h; cases h
    · rw [State.restartCleared_store, hv, hi] at h
      rcases h with h | h <;> cases h
    · rw [State.restartCleared_store, hi] at h
      cases h; exact hw
  have hview := hw ▸ s.restarted_view
  refine ⟨?_, fun a => (State.layout_of_view hview a).trans (State.reload_layout _ a), fun q ht => ?_⟩
  · rw [State.settings_of_view hview, State.reload_settings]
  · obtain ⟨hl, -⟩ := ht.restartLive
    have hc : s.restartCleared.TableLaws := State.TableLaws.of_view _ _ (s.restartLive.setNotices_view Notices.clear) hl
    have hwin' : s.restartCleared.intake.window = none := State.restartCleared_resting.window
    exact (State.record_of_view hview q).trans (State.reload_record hc hwin' (ht.image x hi) q)

end

end Sys2Proof.Machine
end

section
/-! SUPPORT. Settles O58 from the parts of a power-on and of a Restart. -/
namespace Sys2Proof.Machine

section
variable {s : State}

/-- R173: every unit that a Restart puts at its reset value, and what it leaves. -/
structure State.RestartedUnits (s u : State) : Prop where
  reply : u.port.reply = s.port.reply
  sent : u.port.sent = s.port.sent
  detail : u.port.detail = s.port.detail
  batchSize : u.port.batchSize = s.port.batchSize
  batch : u.port.batch = s.port.batch
  table : ∀ e ∈ u.demands.table, e.source = .pneumatic ∨ e.source = .emergency
  idle : u.stability.state = .idle
  lastNegative : u.stability.lastNegative = none
  workshop : u.mode.workshop = .off
  running : u.mode.running = none
  staged : u.mode.staged = none
  result : u.mode.result = .none
  cause : u.mode.cause = none
  intake : u.intake = .fresh s.now
  noneWaits : ∀ a, u.NoneWaits a
  store : u.store = s.store
  analog : u.inputs.analog = s.inputs.analog
  wheels : u.inputs.wheels = s.inputs.wheels
  brakeMode : u.channels.mode = s.channels.mode

theorem State.restartCleared_axle (a : AxleId) : s.restartCleared.axle a = s.restartLive.axle a := by
  rw [State.axle, State.restartCleared, State.setNotices_loads, State.axle]

theorem State.restartCleared_noneWaits (a : AxleId) : s.restartCleared.NoneWaits a := by
  unfold State.NoneWaits
  rw [State.restartCleared_axle]
  exact s.restartLive_spec.noneWaits a

theorem State.restarted_units (s : State) : s.RestartedUnits s.restarted := by
  have hv := s.restartLive_spec
  have ha := State.restarted_apart (s := s)
  have hr := State.restarted_recreated (s := s)
  have hw := State.restartPolicy_noneWaits (State.restartCleared_resting (s := s)) State.restartCleared_noneWaits
  have hk := hv.kept
  have hx := hv.rested
  refine ⟨?_, ?_, ?_, ?_, ?_, hr.table, ?_, ?_, ?_, ?_, ?_, ?_, ?_, ?_, fun a => (hw a).calm hr.calm, ?_, ?_, ?_, ?_⟩
  · rw [hr.port, ha.port, hk.reply]
  · rw [hr.port, ha.port, hk.sent]
  · rw [hr.port, ha.port, hk.detail]
  · rw [hr.port, ha.port, hk.batchSize]
  · rw [hr.port, ha.port, hk.batch]
  · rw [hr.stability, ha.stability, hx.idle]
  · rw [hr.stability, ha.stability, hx.lastNegative]
  · rw [hr.mode, ha.mode, hx.workshop]
  · rw [hr.mode, ha.mode, hx.running]
  · rw [hr.mode, ha.mode, hx.staged]
  · rw [hr.mode, ha.mode, hx.result]
  · rw [hr.mode, ha.mode, hx.cause]
  · rw [hr.intake, ha.intake, hv.intake]
  · rw [hr.store, ha.store, hk.store]
  · rw [hr.inputs, ha.inputs, hk.analog]
  · rw [hr.inputs, ha.inputs, hk.wheels]
  · rw [hr.brakeMode, ha.brakeMode, hk.brakeMode]

theorem State.restarted_inputs : s.restarted.inputs = s.restartLive.inputs := by
  rw [State.restarted_recreated.inputs, State.restarted_apart.inputs]

/-- R60: under KEEP a reference speed that still holds stays where the same axles are DOWN. -/
theorem State.restarted_still (hp : s.settings.policy = .keep) (hf : s.formedReference = s.inputs.reference)
    (hd : s.SameDown s.restarted) : s.restarted.inputs = s.inputs := by
  have hw : s.restartCleared.restartPolicy = s.restartCleared := by
    rcases s.restartCleared.restartPolicy_cases with ⟨-, hw⟩ | ⟨h, -⟩ | ⟨x, h, -⟩
    · exact hw
    · rw [State.restartCleared_settings, hp] at h; cases h
    · rw [State.restartCleared_settings, hp] at h; cases h
  have hk : s.restartLive.SameDown s.restarted := fun a => by
    rw [State.restarted_recreated.sameDown a, hw, State.restartCleared_axle]
  rw [State.restarted_inputs]
  exact s.restartLive_spec.still hf fun a => (hk a).symm.trans (hd a)

/-- R154: the power state after a Restart that does not set the vehicle moving. -/
theorem State.restarted_power (h : s.restarted.inputs.motion = .moving → s.inputs.motion = .moving) :
    s.Roused s.restarted := by
  have hm : s.restarted.mode = s.restartLive.mode := by
    rw [State.restarted_recreated.mode, State.restarted_apart.mode]
  rw [State.restarted_inputs] at h
  exact (s.restartLive_spec.power h).of_power (by rw [hm]) (by rw [hm]) (by rw [hm])

/-- R173 steps 3 and 4: the notices that a Restart leaves clear, and STORE INVALID by the policy. -/
theorem State.restarted_cleared (s : State) : s.restarted.port.notices.sensorSilent = 0 ∧
    s.restarted.port.notices.learnResult = none ∧ s.restarted.port.notices.candidateReady = false ∧
    s.restarted.port.notices.digitalTimeout = false ∧ s.restarted.port.notices.liftConflict = 0 ∧
    s.restarted.port.notices.liftFault = 0 ∧ s.restarted.port.notices.lockTimeout = 0 ∧
    s.restarted.port.notices.stabilityAction = none ∧ s.restarted.port.notices.workshopChange = none ∧
    s.restarted.port.notices.storeResult = none ∧ (s.restarted.port.notices.storeInvalid = true ↔
      s.settings.policy = .restore ∧ (s.store.valid = false ∨ s.store.image = none)) := by
  obtain ⟨⟨l, m, r, c, b, hn, hb⟩, -⟩ := State.restartPolicy_notices (State.restartCleared_resting (s := s)) rfl
  rw [State.restartCleared_settings, State.restartCleared_store] at hb
  obtain ⟨l', m', hn'⟩ := (State.restarted_recreated (s := s)).notices
  rw [hn', hn]
  exact ⟨rfl, rfl, rfl, rfl, rfl, rfl, rfl, rfl, rfl, rfl, hb⟩

/-- R173: a Restart that loads no image sets no other notice, but for the levels that an EMERGENCY brings. -/
theorem State.restarted_unloaded (h : s.settings.policy = .keep ∨ s.store.valid = false ∨ s.store.image = none) :
    s.restarted.port.notices.positionsRetired = 0 ∧ s.restarted.port.notices.liftChange = 0 ∧
    (s.restarted.hasEntry .emergency = false →
      s.restarted.port.notices.tyreLevel = 0 ∧ s.restarted.port.notices.pairMismatch = 0) := by
  obtain ⟨-, hk⟩ := State.restartPolicy_notices (State.restartCleared_resting (s := s)) rfl
  rw [State.restartCleared_settings, State.restartCleared_store] at hk
  obtain ⟨b, hb⟩ := hk h
  have hr := State.restarted_recreated (s := s)
  obtain ⟨l, m, hn⟩ := hr.notices
  refine ⟨by rw [hn, hb]; rfl, by rw [hn, hb]; rfl, fun he => ?_⟩
  rw [hr.unchanged he, hb]
  exact ⟨rfl, rfl⟩

/-- R173 step 4: a Restart that finds no VALID image to load keeps the parameters. -/
theorem State.restarted_invalid (hp : s.settings.policy = .restore) (hi : s.store.valid = false ∨ s.store.image = none) :
    s.restarted.settings = s.settings := by
  have hw : s.restartCleared.restartPolicy = s.restartCleared.noteStoreInvalid := by
    rcases s.restartCleared.restartPolicy_cases with ⟨h, -⟩ | ⟨-, -, hw⟩ | ⟨x, -, h, h', -⟩
    · rw [State.restartCleared_settings, hp] at h; cases h
    · exact hw
    · rw [State.restartCleared_store] at h h'
      rw [h, h'] at hi
      rcases hi with hi | hi <;> cases hi
  rw [State.settings_of_view s.restarted_view, hw, State.noteStoreInvalid, State.setNotices_settings,
    State.restartCleared_settings]

end

section
variable {s : State} {dt : Nat} {p : Params}

theorem exec_lossOfSupply (h : s.powered = true) : exec (.lossOfSupply dt) s =
    .next { (s.elapse dt).setStore { s.store with saving := none } with powered := false } :=
  congrArg Host.Outcome.next (State.live_on h dt _)

theorem exec_restart_saving (h : s.powered = true) (hc : p.count = 0) (hs : s.store.saving ≠ none) :
    exec (.restart dt p) s = .next ((s.taken dt).turnedAway 0x04 .busy unnamed) := by
  refine congrArg Host.Outcome.next ((State.live_on h dt _).trans ((if_neg fun hn => hs hn.2).trans ?_))
  exact State.request_refuse hc (by omega) rfl

/-- The port of a Restart at its reset values, the reply that was pending clocked out (R156). -/
def State.restartBegun (s : State) (dt : Nat) : State := (s.elapse dt).clockOut.restartPort

theorem exec_restart (h : s.powered = true) (hc : p.count = 0) (hs : s.store.saving = none) :
    exec (.restart dt p) s = .next (s.restartBegun dt).restarted.settle :=
  congrArg Host.Outcome.next ((State.live_on h dt _).trans (if_pos ⟨hc, hs⟩))

end

/-- Settles O58: the records of a power-on, and what each step of a Restart reaches and leaves. -/
theorem powerOnAndRestartStartAfresh : Obligations.PowerOnAndRestartStartAfresh := by
  refine ⟨fun dt high wires s x hx => ⟨(s.elapse dt).started x s.store.judged.isSome high wires,
    exec_powerOn dt (Store.startImage_of_judged hx), rfl, rfl, rfl, fun a => ?_, fun q => ?_,
    fun g => ⟨State.started_unused, State.started_used⟩, rfl, rfl, fun i => ?_, fun w => ?_, rfl, rfl, rfl,
    State.started_pair, rfl, rfl, fun c => ?_, rfl, rfl, rfl, rfl, rfl, rfl, rfl⟩, fun dt p s h => ⟨exec_lossOfSupply h,
    exec_restart_saving h, fun hc hs => ?_⟩⟩
  · rw [State.started_axle]; exact ⟨rfl, rfl, rfl⟩
  · rw [State.started_position]; exact PositionRecord.ofStored_spec _
  · cases i <;> rfl
  · rw [State.started_wheel]; exact ⟨rfl, rfl, rfl, rfl, rfl⟩
  · cases c <;> exact ⟨rfl, rfl, rfl⟩
  · have hu := (s.restartBegun dt).restarted_units
    have hpower := State.restarted_power (s := s.restartBegun dt)
    have hstill := State.restarted_still (s := s.restartBegun dt)
    have hclear := (s.restartBegun dt).restarted_cleared
    have hunloaded := State.restarted_unloaded (s := s.restartBegun dt)
    have hkeep := State.restarted_keep (s := s.restartBegun dt)
    have hinvalid := State.restarted_invalid (s := s.restartBegun dt)
    have hrestore := fun x => State.restarted_restore (s := s.restartBegun dt) (x := x)
    have hwin := congrArg Intake.window hu.intake
    have hcan := congrArg Intake.candidates hu.intake
    have hrx := congrArg Intake.rx hu.intake
    refine ⟨(s.restartBegun dt).restarted, exec_restart h hc hs, ?_⟩
    generalize (s.restartBegun dt).restarted = u at *
    obtain ⟨h1, h2, h3, h4, h5, h6, h7, h8, h9, h10, h11⟩ := hclear
    refine ⟨hu.reply, hu.sent, hu.detail, hu.batchSize, hu.batch,
      hu.table, hu.idle, hu.lastNegative, hu.workshop, hu.running, hu.staged, hu.result, hu.cause, hwin, hcan, hrx,
      hu.noneWaits, fun hp hf hd => ?_, fun hw hm => (hpower hm).awake hw,
      fun hw hm => ⟨(hpower hm).high hw, (hpower hm).low hw, (hpower hm).standing hw⟩,
      ⟨h1, h2, h3, h4, h5, h6, h7, h8, h9, h10, h11, hunloaded⟩, hu.store, hu.analog, hu.wheels, hu.brakeMode, hkeep,
      fun hp hi => ⟨hinvalid hp hi, h11.2 ⟨hp, hi⟩⟩, fun x hp hv hi => ?_⟩
    · rw [hstill hp hf hd]
      exact ⟨rfl, rfl⟩
    · obtain ⟨k1, k2, k3⟩ := hrestore x hp hv hi
      refine ⟨k1, k2, fun q ht => ?_⟩
      have ht' : (s.restartBegun dt).TableLaws :=
        (State.TableLaws.of_view s (s.elapse dt).clockOut (by simp) ht).setPort
      obtain ⟨l1, l2, l3, l4⟩ := PositionRecord.ofStored_spec (x.contents.positions.get q)
      have hv := k3 q ht'
      exact ⟨(congrArg RecordView.pl hv).trans l1, (congrArg RecordView.pe hv).trans l2,
        (congrArg RecordView.bound hv).trans l3, (congrArg RecordView.state hv).trans l4⟩

end Sys2Proof.Machine
end

section
/-! SUPPORT. The converted value and the band of a reading (R50). -/
namespace Sys2Proof.Machine

theorem clampInt_low {lo hi v : Int} (h : v ≤ lo) (hh : lo ≤ hi) : clampInt lo hi v = lo := by
  unfold clampInt
  split
  · rfl
  · split <;> omega

theorem clampInt_mid {lo hi v : Int} (h : lo ≤ v) (hh : v ≤ hi) : clampInt lo hi v = v := by
  unfold clampInt
  rw [if_neg (by omega), if_neg (by omega)]

theorem clampInt_high {lo hi v : Int} (h : hi ≤ v) (hh : lo ≤ hi) : clampInt lo hi v = hi := by
  unfold clampInt
  split
  · omega
  · split <;> omega

/-- R50: the value of a pressure input before its clamp. -/
theorem pressureQuotient_of_le {mv : Nat} (h : 500 ≤ mv) :
    Int.tdiv (((mv : Int) - 500) * 1000) 4000 = ((mv - 500) * 1000 / 4000 : Nat) := by
  rw [Int.tdiv_eq_ediv_of_nonneg (by omega)]
  omega

theorem convertedValue_pressure {i : AnalogId} (hi : i ≠ .lat) (mv : Nat) :
    convertedValue i mv = clampInt 0 1000 (Int.tdiv (((mv : Int) - 500) * 1000) 4000) := if_neg hi

/-- R50: below the range of a pressure input the value is 0. -/
theorem convertedValue_pressure_low {i : AnalogId} (hi : i ≠ .lat) {mv : Nat} (h : mv ≤ 500) :
    convertedValue i mv = 0 := by
  rw [convertedValue_pressure hi]
  refine clampInt_low ?_ (by omega)
  have hneg : 0 ≤ Int.tdiv (-(((mv : Int) - 500) * 1000)) 4000 := Int.tdiv_nonneg (by omega) (by omega)
  rw [Int.neg_tdiv] at hneg
  omega

theorem convertedValue_pressure_mid {i : AnalogId} (hi : i ≠ .lat) {mv : Nat} (h : 500 ≤ mv) (hh : mv ≤ 4500) :
    convertedValue i mv = ((mv - 500) * 1000 / 4000 : Nat) := by
  rw [convertedValue_pressure hi, pressureQuotient_of_le h]
  exact clampInt_mid (by omega) (by omega)

/-- R50: above the range of a pressure input the value is 1000. -/
theorem convertedValue_pressure_high {i : AnalogId} (hi : i ≠ .lat) {mv : Nat} (h : 4500 ≤ mv) :
    convertedValue i mv = 1000 := by
  rw [convertedValue_pressure hi, pressureQuotient_of_le (by omega)]
  exact clampInt_high (by omega) (by omega)

theorem convertedValue_lat (mv : Nat) : convertedValue .lat mv = clampInt (-2000) 2000 ((mv : Int) - 2500) := rfl

theorem inBandReading_pressure {i : AnalogId} (hi : i ≠ .lat) (mv : Nat) :
    inBandReading i mv = true ↔ 250 ≤ mv ∧ mv ≤ 4750 := by
  unfold inBandReading
  rw [if_neg hi, Bool.and_eq_true, decide_eq_true_eq, decide_eq_true_eq]

theorem inBandReading_lat (mv : Nat) : inBandReading .lat mv = true ↔ 300 ≤ mv ∧ mv ≤ 4700 := by
  unfold inBandReading
  rw [if_pos rfl, Bool.and_eq_true, decide_eq_true_eq, decide_eq_true_eq]

/-- Settles O24: the cases of the clamp, and the bounds of the band. -/
theorem conversionsAreFormed : Obligations.ConversionsAreFormed := by
  intro i mv hi
  refine ⟨convertedValue_pressure_low hi, convertedValue_pressure_mid hi, convertedValue_pressure_high hi,
    inBandReading_pressure hi mv, fun h => ?_, fun h hh => ?_, fun h => ?_, inBandReading_lat mv⟩
  · exact (convertedValue_lat mv).trans (clampInt_low (by omega) (by omega))
  · exact (convertedValue_lat mv).trans (clampInt_mid (by omega) (by omega))
  · exact (convertedValue_lat mv).trans (clampInt_high (by omega) (by omega))

end Sys2Proof.Machine
end

section
/-! SUPPORT. What the offers of a change leave of the reference speed, of the motion and the power state, and of the axles
that stand DOWN; and that none of them brings a raise where none is pending or due (R61, R76, R82, R152). -/
namespace Sys2Proof.Machine

/-! ### The records of a group -/

/-- What a change of a lift state leaves of a group. -/
structure GroupRecord.SameHolds (r x : GroupRecord) : Prop where
  w : x.w = r.w
  l : x.l = r.l
  holdStart : x.holdStart = r.holdStart
  holdSensor : x.holdSensor = r.holdSensor
  sensorSince : x.sensorSince = r.sensorSince
  raiseDue : x.raiseDue = r.raiseDue

theorem GroupRecord.SameHolds.refl (r : GroupRecord) : r.SameHolds r := ⟨rfl, rfl, rfl, rfl, rfl, rfl⟩

theorem GroupRecord.SameHolds.trans {r x y : GroupRecord} (h : r.SameHolds x) (k : x.SameHolds y) : r.SameHolds y :=
  ⟨k.w.trans h.w, k.l.trans h.l, k.holdStart.trans h.holdStart, k.holdSensor.trans h.holdSensor,
    k.sensorSince.trans h.sensorSince, k.raiseDue.trans h.raiseDue⟩

theorem GroupRecord.entered_sameHolds (r : GroupRecord) : r.SameHolds r.entered := by
  unfold GroupRecord.entered
  split <;> exact ⟨rfl, rfl, rfl, rfl, rfl, rfl⟩

/-- Every group keeps its load and its holds. -/
def State.SameHolds (s t : State) : Prop := ∀ g, (s.group g).SameHolds (t.group g)

section
variable {s t u : State} {a : AxleId} {g : GroupId} {x : LiftState}

theorem State.SameHolds.refl (s : State) : s.SameHolds s := fun _ => .refl _

theorem State.SameHolds.trans (h : s.SameHolds t) (k : t.SameHolds u) : s.SameHolds u := fun g => (h g).trans (k g)

theorem State.SameHolds.of_groups (h : t.loads.groups = s.loads.groups) : s.SameHolds t := fun g => by
  unfold State.group
  rw [h]
  exact .refl _

theorem State.SameHolds.setGroup {r : GroupRecord} (h : (s.group g).SameHolds r) : s.SameHolds (s.setGroup g r) :=
  fun k => by
    rw [State.setGroup_group]
    split
    · rename_i hk; rw [hk]; exact h
    · exact .refl _

theorem State.followTransition_sameHolds (g : GroupId) : s.SameHolds (s.followTransition g) := by
  unfold State.followTransition
  split
  · have h := (s.group g).entered_sameHolds
    exact .setGroup ⟨h.w, h.l, h.holdStart, h.holdSensor, h.sensorSince, h.raiseDue⟩
  · split
    · exact .setGroup ⟨rfl, rfl, rfl, rfl, rfl, rfl⟩
    · exact .refl s

theorem State.recount_sameHolds (g : GroupId) : s.SameHolds (s.recount g) := .setGroup ⟨rfl, rfl, rfl, rfl, rfl, rfl⟩

theorem State.setAxle_sameHolds (a : AxleId) (r : AxleRecord) : s.SameHolds (s.setAxle a r) := .of_groups rfl

theorem State.lifted_sameHolds (a : AxleId) (x : LiftState) : s.SameHolds (s.lifted a x) := by
  unfold State.lifted
  exact ((((State.setAxle_sameHolds a _).trans (State.recount_sameHolds .g1)).trans (State.recount_sameHolds .g2)).trans
    (State.followTransition_sameHolds .g1)).trans (State.followTransition_sameHolds .g2)

theorem State.setLift_sameHolds : s.SameHolds (s.setLift a x) := by
  by_cases h : (s.axle a).lift = x
  · rw [State.setLift_same h]; exact .refl s
  · rw [State.setLift_eq h]
    refine (State.lifted_sameHolds a x).trans (.of_groups ?_)
    rw [State.reportLift_loads, State.evaluateAxle_loads, State.noteArrival_loads]

theorem State.lowerToAuto_sameHolds (a : AxleId) : s.SameHolds (s.lowerToAuto a) := by
  unfold State.lowerToAuto State.modeToAuto
  split
  · refine State.SameHolds.trans (.of_groups ?_) State.setLift_sameHolds
    split <;> rfl
  · exact .refl s

theorem State.boundHeldUp_sameHolds (a : AxleId) : s.SameHolds (s.boundHeldUp a) := by
  unfold State.boundHeldUp
  dsimp only
  split
  · exact State.lowerToAuto_sameHolds a
  · exact .refl s

theorem State.boundGroup_sameHolds (g : GroupId) : s.SameHolds (s.boundGroup g) :=
  State.foldl_keeps (P := fun t => s.SameHolds t) (fun _ a ht => ht.trans (State.boundHeldUp_sameHolds a)) _ (.refl s)

end

/-! ### The relation -/

/-- R76, R82: no raise is pending or due. -/
def State.NoRaise (s : State) : Prop := (∀ a, (s.axle a).raisePending = false) ∧ ∀ g, (s.group g).raiseDue = false

/-- From `s` to `t` the reference speed, the motion and the power state are as they were, the same axles are DOWN, and no
raise becomes pending or due. -/
structure State.Aside (s t : State) : Prop where
  motion : t.inputs.motion = s.inputs.motion
  reference : t.inputs.reference = s.inputs.reference
  power : t.mode.power = s.mode.power
  down : s.SameDown t
  noRaise : s.NoRaise → t.NoRaise

section
variable {s t u : State}

theorem State.Aside.refl (s : State) : s.Aside s := ⟨rfl, rfl, rfl, .refl s, id⟩

theorem State.Aside.after (k : t.Aside u) (h : s.Aside t) : s.Aside u :=
  ⟨k.motion.trans h.motion, k.reference.trans h.reference, k.power.trans h.power, h.down.trans k.down,
    k.noRaise ∘ h.noRaise⟩

theorem State.Aside.ite {c : Prop} [Decidable c] (h : c → s.Aside t) (k : ¬c → s.Aside u) :
    s.Aside (if c then t else u) := by
  split
  · exact h ‹_›
  · exact k ‹_›

theorem State.Aside.foldl {α : Type} {f : State → α → State} (hf : ∀ (t : State) a, t.Aside (f t a)) (l : List α) :
    s.Aside (l.foldl f s) :=
  State.foldl_keeps (P := fun t => s.Aside t) (fun t a ht => .after (hf t a) ht) l (.refl s)

/-- A change that leaves the inputs, the power state and the records of the LDU. -/
theorem State.Aside.of_loads (hi : t.inputs = s.inputs) (hp : t.mode.power = s.mode.power) (hl : t.loads = s.loads) :
    s.Aside t := by
  refine ⟨by rw [hi], by rw [hi], hp, fun a => ?_, fun h => ⟨fun a => ?_, fun g => ?_⟩⟩
  · rw [State.axle, hl]; rfl
  · rw [State.axle, hl]; exact h.1 a
  · rw [State.group, hl]; exact h.2 g

theorem State.Aside.of_loadChange (h : LoadChange s t) (hd : s.SameDown t) (hn : s.NoRaise → t.NoRaise) : s.Aside t :=
  ⟨by rw [h.inputs], by rw [h.inputs], h.power, hd, hn⟩

theorem State.Aside.setNotices (x : Notices) : s.Aside (s.setNotices x) := .of_loads rfl rfl rfl

/-! ### Axles and groups -/

theorem State.NoRaise.setAxle {a : AxleId} {r : AxleRecord} (h : s.NoRaise)
    (hr : (s.axle a).raisePending = false → r.raisePending = false) : (s.setAxle a r).NoRaise := by
  refine ⟨fun b => ?_, h.2⟩
  rw [State.setAxle_axle]
  split
  · exact hr (h.1 a)
  · exact h.1 b

theorem State.NoRaise.setGroup {g : GroupId} {r : GroupRecord} (h : s.NoRaise)
    (hr : (s.group g).raiseDue = false → r.raiseDue = false) : (s.setGroup g r).NoRaise := by
  refine ⟨h.1, fun k => ?_⟩
  rw [State.setGroup_group]
  split
  · exact hr (h.2 g)
  · exact h.2 k

theorem State.NoRaise.setLift (a : AxleId) (x : LiftState) (h : s.NoRaise) : (s.setLift a x).NoRaise :=
  ⟨fun b => (State.setLift_fields b).1.trans (h.1 b), fun g => (State.setLift_sameHolds g).raiseDue.trans (h.2 g)⟩

theorem State.Aside.setAxle {a : AxleId} {r : AxleRecord} (hl : r.lift = (s.axle a).lift)
    (hr : (s.axle a).raisePending = false → r.raisePending = false) : s.Aside (s.setAxle a r) :=
  ⟨rfl, rfl, rfl, State.setAxle_sameDown hl, fun h => h.setAxle hr⟩

theorem State.Aside.setGroup {g : GroupId} {r : GroupRecord} (hr : (s.group g).raiseDue = false → r.raiseDue = false) :
    s.Aside (s.setGroup g r) := ⟨rfl, rfl, rfl, .refl s, fun h => h.setGroup hr⟩

/-- R74: an axle that is not DOWN and takes another lift state than DOWN. -/
theorem State.Aside.setLift {a : AxleId} {x : LiftState} (hn : (s.axle a).lift ≠ .down) (hx : x ≠ .down) :
    s.Aside (s.setLift a x) :=
  .of_loadChange (.setLift s a x) (State.setLift_sameDown hn hx) (State.NoRaise.setLift a x)

theorem GroupRecord.entered_raiseDue (r : GroupRecord) : r.entered.raiseDue = r.raiseDue := r.entered_sameHolds.raiseDue

theorem GroupRecord.released_raiseDue (r : GroupRecord) (c : Calibration) (b : Option Int) :
    (r.released c b).raiseDue = r.raiseDue := by
  unfold GroupRecord.released
  split
  · rfl
  · split <;> rfl

/-! ### The rules of the LDU -/

theorem State.Aside.lowerAxle (a : AxleId) : s.Aside (s.lowerAxle a) :=
  .ite (fun h => .setLift (LiftState.not_down_of_lifted h) (by decide)) fun _ => .refl s

theorem State.Aside.modeToAuto (a : AxleId) : s.Aside (s.modeToAuto a) := .ite (fun _ => .setAxle rfl id) fun _ => .refl s

theorem State.Aside.lowerToAuto (a : AxleId) : s.Aside (s.lowerToAuto a) :=
  .ite (fun h => .after (.setLift (mt (State.modeToAuto_sameDown a a).1 (LiftState.not_down_of_lifted h)) (by decide))
    (.modeToAuto a)) fun _ => .refl s

theorem State.Aside.forceAxle (a : AxleId) : s.Aside (s.forceAxle a) := by
  unfold State.forceAxle
  refine .after (.lowerAxle a) (.after (.setAxle rfl fun _ => rfl) ?_)
  exact .ite (fun _ => .modeToAuto a) fun _ => .refl s

theorem State.Aside.forceLower : s.Aside s.forceLower := .foldl (fun _ a => .forceAxle a) _

theorem State.Aside.boundHeldUp (a : AxleId) : s.Aside (s.boundHeldUp a) :=
  .ite (fun _ => .lowerToAuto a) fun _ => .refl s

theorem State.Aside.boundGroup (g : GroupId) : s.Aside (s.boundGroup g) := .foldl (fun _ a => .boundHeldUp a) _

theorem State.Aside.formLoad (g : GroupId) : s.Aside (s.formLoad g) := by
  unfold State.formLoad
  split
  · exact .after (.boundGroup g) (.setGroup id)
  · exact .refl s

theorem State.Aside.releaseGroup (g : GroupId) : s.Aside (s.releaseGroup g) := by
  unfold State.releaseGroup
  refine .ite (fun _ => .refl s) fun _ => .ite (fun _ => ?_) fun _ => .refl s
  exact .after (.boundGroup g) (.setGroup fun h => (GroupRecord.released_raiseDue _ _ _).trans h)

theorem State.Aside.rollArrives : s.Aside s.rollArrives :=
  .foldl (f := fun (t : State) g => if t.groupInUse g then t.setGroup g { (t.group g).entered with holdRoll := true } else t)
    (fun t g => .ite (fun _ => .setGroup fun h => (t.group g).entered_raiseDue.trans h) fun _ => .refl t) _

theorem State.Aside.rollEnds : s.Aside s.rollEnds :=
  .foldl (f := fun (t : State) g =>
      if (t.group g).holdRoll then (t.setGroup g { t.group g with holdRoll := false }).releaseGroup g else t)
    (fun t g => .ite (fun _ => .after (.releaseGroup g) (.setGroup id)) fun _ => .refl t) _

theorem State.Aside.abortRaise (a : AxleId) : s.Aside (s.abortRaise a) := .ite (fun _ => .lowerToAuto a) fun _ => .refl s

theorem State.Aside.takeBraking (b : Bool) : s.Aside (s.takeBraking b) := by
  have h : s.Aside (s.setDemands { s.demands with braking := b }) := .of_loads rfl rfl rfl
  exact .ite (fun _ => .after (.foldl (fun _ a => .abortRaise a) _) h) fun _ => h

theorem State.Aside.testTyres (a : AxleId) : s.Aside (s.testTyres a) := by
  unfold State.testTyres
  refine .ite (fun _ => .ite (fun _ => .ite (fun _ => .ite (fun _ => .refl s) fun _ => ?_) fun _ => ?_) fun _ => ?_)
    fun _ => .refl s
  · exact .after (.setNotices _) (.setAxle rfl id)
  · exact .after (.lowerToAuto a) (.setAxle rfl id)
  · exact .setAxle rfl id

theorem State.Aside.testAllTyres : s.Aside s.testAllTyres := .foldl (fun _ a => .testTyres a) _

/-! ### The workshop -/

theorem State.Aside.enterWorkshopState {m : Mode} (h : m.power = s.mode.power) : s.Aside (s.enterWorkshopState m) := by
  unfold State.enterWorkshopState
  split <;> split <;> exact .of_loads rfl h rfl

theorem State.Aside.stepFaults (c : StepFault) : s.Aside (s.stepFaults c) := .enterWorkshopState rfl

theorem State.Aside.workshopOff : s.Aside s.workshopOff :=
  .ite (fun _ => .refl s) fun _ => .ite (fun _ => .enterWorkshopState rfl) fun _ => .enterWorkshopState rfl

theorem State.Aside.followReadiness : s.Aside s.followReadiness :=
  .ite (fun _ => .enterWorkshopState rfl) fun _ => .refl s

theorem State.followBand_loads : s.followBand.loads = s.loads := by
  unfold State.followBand
  split
  · rfl
  · split
    · split <;> rfl
    · rfl
    · rfl

theorem State.Aside.followBand : s.Aside s.followBand :=
  .of_loads (LoadChange.followBand s).inputs (LoadChange.followBand s).power State.followBand_loads

theorem State.Aside.judgeLiftFault (a : AxleId) : s.Aside (s.judgeLiftFault a) := by
  unfold State.judgeLiftFault
  refine .ite (fun h => ?_) fun _ => .refl s
  simp only [Bool.and_eq_true, decide_eq_true_eq] at h
  have hup : ((s.noteLiftFault a).axle a).lift ≠ .down := by
    rw [show ((s.noteLiftFault a).axle a).lift = .up from h.1.1.2]; decide
  have hset : s.Aside ((s.noteLiftFault a).setAxle a { s.axle a with mode := .heldDown }) :=
    .after (.setAxle rfl id) (.setNotices _)
  have hstep : s.Aside (if ((s.noteLiftFault a).setAxle a { s.axle a with mode := .heldDown }).liftStepOn a then
        ((s.noteLiftFault a).setAxle a { s.axle a with mode := .heldDown }).stepFaults .liftFault
      else (s.noteLiftFault a).setAxle a { s.axle a with mode := .heldDown }) :=
    .ite (fun _ => .after (.stepFaults _) hset) fun _ => hset
  exact .after (.setLift (mt (hstep.down a).1 hup) (by decide)) hstep

/-! ### The STU -/

theorem State.Aside.setStability (x : Stability) : s.Aside (s.setStability x) := .of_loads rfl rfl rfl

theorem State.Aside.postEntry (x : Source) (d : Demand) : s.Aside (s.postEntry x d) :=
  .ite (fun _ => .of_loads rfl rfl rfl) fun _ => .of_loads rfl rfl rfl

theorem State.Aside.postStability (l : PerChannel Nat) : s.Aside (s.postStability l) := .postEntry _ _

theorem State.Aside.liftSuppressions : s.Aside s.liftSuppressions := .of_loads rfl rfl rfl

theorem State.Aside.suppress (c : ChannelId) : s.Aside (s.suppress c) := .of_loads rfl rfl rfl

theorem State.Aside.stuIdle : s.Aside s.stuIdle := .after .rollEnds (.of_loads rfl rfl rfl)

theorem State.Aside.enterProbing (a : Int) : s.Aside (s.enterProbing a) := by
  unfold State.enterProbing
  dsimp only
  have h : s.Aside (s.setStability { s.stability with
      state := .probing, probeSince := some s.now, inner := some (innerChannel a) }).forceLower.rollArrives :=
    .after .rollArrives (.after .forceLower (.setStability _))
  exact .ite (fun _ => .after (.suppress _) (.after (.postStability _) (.after (.setStability _) h)))
    fun _ => .after (.setStability _) h

theorem State.Aside.enterIntervening : s.Aside s.enterIntervening := by
  unfold State.enterIntervening
  refine .after (.setNotices _) (.after (.postStability _) (.after (.setStability _) (.after .liftSuppressions ?_)))
  exact .after .rollArrives (.after .forceLower (.setStability _))

theorem State.Aside.resumeIntervening : s.Aside s.resumeIntervening :=
  .after .rollArrives (.after .forceLower (.setStability _))

theorem State.Aside.enterRecovering : s.Aside s.enterRecovering := .setStability _

theorem State.Aside.compareArmed (a : Int) : s.Aside (s.compareArmed a) := by
  unfold State.compareArmed
  refine .ite (fun _ => .enterIntervening) fun _ => .ite (fun _ => ?_) fun _ => .refl s
  split
  · exact .enterProbing a
  · exact .ite (fun _ => .enterProbing a) fun _ => .refl s

theorem State.Aside.takeWheelLift (c : ChannelId) : s.Aside (s.takeWheelLift c) :=
  .ite (fun _ => .enterIntervening) fun _ => .refl s

theorem State.Aside.takeDriverPart (c : ChannelId) : s.Aside (s.takeDriverPart c) :=
  .ite (fun _ => .of_loads rfl rfl rfl) fun _ => .refl s

theorem State.Aside.takeLateral (a : Int) : s.Aside (s.takeLateral a) := by
  unfold State.takeLateral
  split
  · exact .refl s
  · exact .compareArmed a
  · exact .ite (fun _ => .enterIntervening) fun _ => .refl s
  · exact .ite (fun _ => .setStability _) fun _ => .setStability _
  · exact .ite (fun _ => .resumeIntervening) fun _ => .refl s

theorem State.Aside.followLateralValidity : s.Aside s.followLateralValidity := by
  unfold State.followLateralValidity
  refine .ite (fun _ => ?_) fun _ => .refl s
  split
  · exact .setStability _
  · exact .setStability _
  · exact .refl s

theorem State.Aside.arm : s.Aside s.arm := .ite (fun _ => .setStability _) fun _ => .refl s

theorem State.Aside.followStates : s.Aside s.followStates := by
  unfold State.followStates
  dsimp only
  split
  · exact .refl s
  · exact .ite (fun _ => .stuIdle) fun _ => .refl s
  · exact .ite (fun _ => .stuIdle) fun _ => .refl s
  · exact .ite (fun _ => .stuIdle) fun _ => .ite (fun _ => .enterRecovering) fun _ => .followLateralValidity
  · exact .ite (fun _ => .stuIdle) fun _ => .refl s

theorem State.Aside.formLimit : s.Aside s.formLimit := by
  unfold State.formLimit
  dsimp only
  refine .ite (fun _ => .setStability _) fun _ => ?_
  split
  · exact .after (.compareArmed _) (.setStability _)
  · exact .setStability _

theorem State.Aside.followStability : s.Aside s.followStability :=
  .after .formLimit (.after .followStates (.setStability _))

/-! ### Channels -/

theorem State.Aside.setChannels (x : Channels) : s.Aside (s.setChannels x) := .of_loads rfl rfl rfl

theorem State.Aside.setChannel (c : ChannelId) (r : ChannelRecord) : s.Aside (s.setChannel c r) := .of_loads rfl rfl rfl

theorem State.Aside.enterRelease (c : ChannelId) : s.Aside (s.enterRelease c) :=
  .after (.takeWheelLift c) (.setChannel c _)

theorem State.Aside.testActivity (c : ChannelId) : s.Aside (s.testActivity c) :=
  .ite (fun _ => .refl s) fun _ => .setChannel c _

theorem State.Aside.lockOnSlip (c : ChannelId) : s.Aside (s.lockOnSlip c) := by
  unfold State.lockOnSlip
  refine .ite (fun _ => ?_) fun _ => .setChannel c _
  dsimp only
  split
  · exact .ite (fun _ => .enterRelease c) fun _ => .refl s
  · exact .ite (fun _ => .setChannel c _) fun _ => .refl s
  · exact .refl s
  · exact .ite (fun _ => .enterRelease c) fun _ => .refl s

theorem State.Aside.lockOnTarget (c : ChannelId) : s.Aside (s.lockOnTarget c) := by
  unfold State.lockOnTarget
  refine .ite (fun _ => ?_) fun _ => .setChannel c _
  split
  · exact .ite (fun _ => .enterRelease c) fun _ => .refl s
  all_goals exact .ite (fun _ => .setChannel c _) fun _ => .refl s

theorem State.Aside.followSlip (c : ChannelId) : s.Aside (s.followSlip c) := by
  unfold State.followSlip
  dsimp only
  refine .ite (fun _ => .setChannel c _) fun _ => ?_
  have h : s.Aside ((s.setChannel c { s.channel c with
      wheelSpeed := s.formedWheelSpeed c, slip := s.formedSlip c }).lockOnSlip c) :=
    .after (.lockOnSlip c) (.setChannel c _)
  split
  · exact .ite (fun _ => .after (.takeWheelLift c) h) fun _ => h
  · exact h

theorem State.Aside.followSlips : s.Aside s.followSlips :=
  .foldl (f := fun (t : State) c => (t.followSlip c).testActivity c)
    (fun _ c => .after (.testActivity c) (.followSlip c)) _

theorem State.Aside.followValves (c : ChannelId) : s.Aside (s.followValves c) := .of_loads rfl rfl rfl

theorem State.Aside.followAllValves : s.Aside s.followAllValves :=
  .after (.setChannels _) (.foldl (fun _ c => .followValves c) _)

theorem State.Aside.rampCap (c : ChannelId) : s.Aside (s.rampCap c) := by
  unfold State.rampCap
  dsimp only
  split
  · exact .ite (fun _ => .after (.setChannel c _) (.setChannel c _)) fun _ => .setChannel c _
  · exact .refl s
  · exact .refl s
  · exact .refl s

/-! ### Demands -/

theorem State.Aside.setDemands (x : Demands) : s.Aside (s.setDemands x) := .of_loads rfl rfl rfl

theorem State.Aside.followMismatch : s.Aside s.followMismatch := by
  unfold State.followMismatch
  refine .ite (fun _ => ?_) fun _ => .setDemands _
  split
  · exact .ite (fun _ => .setDemands _) fun _ => .refl s
  · exact .ite (fun _ => .refl s) fun _ => .setDemands _
  · exact .ite (fun _ => .refl s) fun _ => .setDemands _
  · exact .ite (fun _ => .setDemands _) fun _ => .refl s

theorem State.Aside.followDriver : s.Aside s.followDriver :=
  .ite (fun _ => .setDemands _) fun _ => .after (.takeBraking _) (.setDemands _)

theorem State.Aside.followRatio (g : GroupId) : s.Aside (s.followRatio g) := .setGroup id

theorem State.Aside.followTarget (c : ChannelId) : s.Aside (s.followTarget c) := by
  unfold State.followTarget
  dsimp only
  exact .after (.takeDriverPart c) (.ite (fun _ => .setChannel c _) fun _ => .after (.lockOnTarget c) (.setChannel c _))

theorem State.Aside.followTargets :
    s.Aside ((((s.followRatio .g1).followRatio .g2).followTarget .chL).followTarget .chR |>.followTarget .chX) :=
  .after (.followTarget _) (.after (.followTarget _) (.after (.followTarget _)
    (.after (.followRatio _) (.followRatio _))))

theorem State.Aside.followDemands : s.Aside s.followDemands :=
  .after .followTargets (.after .followDriver .followMismatch)

/-! ### The rest of a round -/

theorem State.Aside.followSupply : s.Aside s.followSupply := by
  have h : s.Aside (s.setInputs { s.inputs with supplyLow := s.supplyBelow }) := ⟨rfl, rfl, rfl, .refl s, id⟩
  exact .ite (fun _ => .after .forceLower h) fun _ => h

theorem State.Aside.followLower (a : AxleId) : s.Aside (s.followLower a) :=
  .ite (fun _ => .setAxle rfl id) fun _ => .setAxle rfl id

theorem State.Aside.dropFlag (a : AxleId) : s.Aside (s.dropFlag a) :=
  .ite (fun _ => .setAxle rfl fun _ => rfl) fun _ => .refl s

theorem State.Aside.endRaise (g : GroupId) (keep : Bool) : s.Aside (s.endRaise g keep) := by
  unfold State.endRaise
  dsimp only
  refine .ite (fun _ => .setGroup fun _ => rfl) fun _ => .after (.foldl (fun t a => ?_) _) (.setGroup fun _ => rfl)
  exact .ite (fun _ => .setAxle rfl fun _ => rfl) fun _ => .refl t

/-- R81: where no raise is pending, no HELD UP axle waits to rise. -/
theorem State.NoRaise.retryHeldUp (h : s.NoRaise) (a : AxleId) : s.retryHeldUp a = s :=
  if_neg fun hc => by simp [h.1 a] at hc

/-- R78: where no raise is due, none is tested. -/
theorem State.NoRaise.followRaise (h : s.NoRaise) (g : GroupId) : s.Aside (s.followRaise g) := by
  unfold State.followRaise
  refine .ite (fun _ => ?_) fun _ => .ite (fun _ => .endRaise g _) fun _ => .refl s
  dsimp only
  rw [State.setGroup_group_self, if_neg (by simp [h.2 g])]
  exact .setGroup id

/-- R77 to R82: where no raise is pending or due, the lift rules start none. -/
theorem State.NoRaise.followLifts (h : s.NoRaise) : s.Aside s.followLifts := by
  have h1 : AxleId.list.foldl State.retryHeldUp s = s :=
    State.foldl_keeps (P := fun t => t = s) (fun t a ht => by rw [ht, h.retryHeldUp]) _ rfl
  have h2 : s.Aside (AxleId.list.foldl State.dropFlag s) := .foldl (fun _ a => .dropFlag a) _
  have h3 := State.foldl_keeps (P := fun t => s.Aside t) (f := State.followRaise)
    (fun t g ht => .after ((ht.noRaise h).followRaise g) ht) GroupId.list h2
  unfold State.followLifts
  rw [h1]
  exact .after (.foldl (fun _ a => .followLower a) _) h3

end

end Sys2Proof.Machine
end

section
/-! SUPPORT. The reference speed after it is formed anew (R60). -/
namespace Sys2Proof.Machine

section
variable {s t : State}

theorem State.followReference_same (h : s.formedReference = s.inputs.reference) : s.followReference = s := by
  unfold State.followReference
  dsimp only
  rw [if_pos h, h]
  rfl

/-- R60, R146: a new reference speed is set, and above 30 the workshop goes to OFF, before the motion state takes it. -/
def State.rated (s : State) : State :=
  if 30 < s.formedReference then (s.setInputs { s.inputs with reference := s.formedReference }).workshopOff
  else s.setInputs { s.inputs with reference := s.formedReference }

/-- R81, R84: the lift faults and the HELD UP bounds at a new reference speed. -/
def State.judged (s : State) : State := AxleId.list.foldl State.boundHeldUp (AxleId.list.foldl State.judgeLiftFault s)

theorem State.followReference_new (h : s.formedReference ≠ s.inputs.reference) :
    s.followReference = s.rated.takeMotion.judged := if_neg h

theorem State.rated_loadChange :
    LoadChange (s.setInputs { s.inputs with reference := s.formedReference }) s.rated :=
  .ite (fun _ => .workshopOff _) fun _ => .refl _

theorem State.Aside.rated : (s.setInputs { s.inputs with reference := s.formedReference }).Aside s.rated :=
  .ite (fun _ => .workshopOff) fun _ => .refl _

theorem State.judged_loadChange : LoadChange s s.judged :=
  .after (.foldl LoadChange.boundHeldUp _ _) (.foldl LoadChange.judgeLiftFault _ s)

theorem State.Aside.judged : s.Aside s.judged :=
  .after (.foldl (fun _ a => .boundHeldUp a) _) (.foldl (fun _ a => .judgeLiftFault a) _)

theorem State.enterMotion_loads (m : Motion) : (s.enterMotion m).loads = s.loads := by
  cases m with
  | standstill =>
    unfold State.enterMotion
    dsimp only
    split
    · split <;> rfl
    · rfl
    · rfl
  | rolling => rfl
  | moving =>
    obtain ⟨p, a, r, h⟩ := (State.enterMotion_moving (s := s)).1
    rw [h]; rfl

theorem State.takeMotion_loads : s.takeMotion.loads = s.loads := by
  obtain ⟨x, h⟩ := s.takeMotion_eq
  rw [h]
  split
  · rfl
  · rw [State.enterMotion_loads]; rfl

theorem State.SameDown.of_loads (h : t.loads = s.loads) : s.SameDown t := fun a => by rw [State.axle, h]; rfl

theorem State.NoRaise.of_loads (hl : t.loads = s.loads) (h : s.NoRaise) : t.NoRaise :=
  ⟨fun a => by rw [State.axle, hl]; exact h.1 a, fun g => by rw [State.group, hl]; exact h.2 g⟩

/-- R60: a new reference speed leaves the axles that stand DOWN, and brings no raise. -/
theorem State.followReference_down : s.SameDown s.followReference ∧ (s.NoRaise → s.followReference.NoRaise) := by
  by_cases h : s.formedReference = s.inputs.reference
  · rw [State.followReference_same h]; exact ⟨.refl s, id⟩
  · rw [State.followReference_new h]
    have hm : s.rated.takeMotion.loads = s.rated.loads := State.takeMotion_loads
    have h0 : s.SameDown (s.setInputs { s.inputs with reference := s.formedReference }) := .refl s
    exact ⟨((h0.trans State.Aside.rated.down).trans (.of_loads hm)).trans State.Aside.judged.down,
      fun hn => State.Aside.judged.noRaise ((State.Aside.rated.noRaise hn).of_loads hm)⟩

theorem State.followReference_reference : s.followReference.inputs.reference = s.formedReference := by
  by_cases h : s.formedReference = s.inputs.reference
  · rw [State.followReference_same h, h]
  · rw [State.followReference_new h, State.Aside.judged.reference, State.takeMotion_moved.reference,
      State.Aside.rated.reference]
    rfl

/-- R60: the reference speed is formed of equal wheels on equal axles. -/
theorem Offers.formedReference (h : Offers s t) (hd : s.SameDown t) : t.formedReference = s.formedReference :=
  h.kept.formedReference hd

/-- R60: a reference speed formed anew is that of the inputs as they stand afterwards. -/
theorem State.followReference_formed : s.followReference.inputs.reference = s.followReference.formedReference := by
  rw [State.followReference_reference, (Steady.followReference s).settles.offers.formedReference
    State.followReference_down.1]

end

end Sys2Proof.Machine
end

section
/-! SUPPORT. What the end of a change forms: P_d, the braking condition and the targets once more (R95 to R98, R109 to R111).
The first time the new targets may have the STU find wheel lift (R136), the second time nothing moves. -/
namespace Sys2Proof.Machine

/-! ### What a new target does -/

/-- Only the channels and the STU's record differ, and the STU's state is the same. -/
structure State.ChannelsOnly (s t : State) : Prop where
  frame : t = (s.setChannels t.channels).setStability t.stability
  state : t.stability.state = s.stability.state

/-- R136: the STU finds wheel lift, and intervenes with its entry in the table. -/
structure State.FindsLift (s t : State) : Prop where
  before : s.stability.state = .probing
  after : t.stability.state = .intervening
  entry : t.hasEntry .stability = true

/-- Every channel keeps its target and its driver-derived part. -/
def State.SameParts (s t : State) : Prop :=
  ∀ d, (t.channel d).target = (s.channel d).target ∧ (t.channel d).driverPart = (s.channel d).driverPart

section
variable {s t u : State} {c : ChannelId}

theorem State.ChannelsOnly.refl (s : State) : s.ChannelsOnly s := ⟨rfl, rfl⟩

theorem State.ChannelsOnly.trans (h : s.ChannelsOnly t) (k : t.ChannelsOnly u) : s.ChannelsOnly u := by
  refine ⟨?_, k.state.trans h.state⟩
  rw [k.frame, h.frame]
  rfl

theorem State.ChannelsOnly.demands (h : s.ChannelsOnly t) : t.demands = s.demands := by rw [h.frame]; rfl

theorem State.ChannelsOnly.watched (h : s.ChannelsOnly t) :
    t.mismatchWatched = s.mismatchWatched ∧ t.demandGap = s.demandGap := by rw [h.frame]; exact ⟨rfl, rfl⟩

theorem State.FindsLift.of_channelsOnly (h : s.ChannelsOnly t) (k : t.FindsLift u) : s.FindsLift u :=
  ⟨h.state.symm.trans k.before, k.after, k.entry⟩

theorem State.hasEntry_congr {x : Source} (h : t.demands.table = s.demands.table) : t.hasEntry x = s.hasEntry x := by
  unfold State.hasEntry State.entry
  rw [h]

theorem State.FindsLift.channelsOnly (h : s.FindsLift t) (k : t.ChannelsOnly u) : s.FindsLift u :=
  ⟨h.before, k.state.trans h.after, (State.hasEntry_congr (by rw [k.demands])).trans h.entry⟩

theorem State.SameParts.refl (s : State) : s.SameParts s := fun _ => ⟨rfl, rfl⟩

theorem State.SameParts.trans (h : s.SameParts t) (k : t.SameParts u) : s.SameParts u := fun d =>
  ⟨(k d).1.trans (h d).1, (k d).2.trans (h d).2⟩

theorem State.SameParts.of_channels (h : t.channels = s.channels) : s.SameParts t := fun d => by
  unfold State.channel
  rw [h]
  exact ⟨rfl, rfl⟩

theorem State.SameParts.setChannel {r : ChannelRecord} (h1 : r.target = (s.channel c).target)
    (h2 : r.driverPart = (s.channel c).driverPart) : s.SameParts (s.setChannel c r) := fun d => by
  rw [State.setChannel_channel]
  split
  · rename_i hd; rw [hd]; exact ⟨h1, h2⟩
  · exact ⟨rfl, rfl⟩

theorem State.liftSuppressions_sameParts : s.SameParts s.liftSuppressions := fun d => by
  simp [State.liftSuppressions, State.channel]

theorem State.postStability_channels (l : PerChannel Nat) : (s.postStability l).channels = s.channels := by
  unfold State.postStability State.postEntry
  split <;> rfl

/-- R137: an intervention leaves the targets, and has its entry in the table. -/
theorem State.enterIntervening_spec : s.SameParts s.enterIntervening ∧
    s.enterIntervening.stability.state = .intervening ∧ s.enterIntervening.hasEntry .stability = true := by
  unfold State.enterIntervening
  dsimp only
  generalize hx : ({ s.stability with
    state := .intervening, frozen := some s.stability.liveLimit,
    pInt := some (interventionPressure s.stability.lr), inner := none, pulse := none, probeSince := none,
    exitSince := none, latSince := none } : Stability) = x
  have h1 := LoadChange.after (.rollArrives _) (LoadChange.forceLower (s.setStability x))
  have hp : s.SameParts (s.setStability x).forceLower.rollArrives.liftSuppressions :=
    (State.SameParts.of_channels (by rw [h1.channels]; rfl)).trans State.liftSuppressions_sameParts
  have hs : (s.setStability x).forceLower.rollArrives.liftSuppressions.stability = x := by
    rw [State.liftSuppressions, State.setChannels_stability, h1.stability, State.setStability_stability]
  generalize (s.setStability x).forceLower.rollArrives.liftSuppressions = t at *
  refine ⟨hp.trans (.of_channels (State.postStability_channels _)), ?_, ?_⟩
  · rw [State.noteStabilityAction_eq, State.setNotices_stability, State.postStability_stability,
      State.setStability_stability, hs, ← hx]
  · rw [State.noteStabilityAction_eq, State.hasEntry_iff, State.setNotices_entry, State.postStability,
      State.postEntry_entry_self]
    rfl

/-- What a channel's controller and the STU make of a new target or driver-derived part. -/
structure State.Answers (s t : State) : Prop where
  parts : s.SameParts t
  outcome : s.ChannelsOnly t ∨ s.FindsLift t

theorem State.takeWheelLift_answers (c : ChannelId) : s.Answers (s.takeWheelLift c) := by
  unfold State.takeWheelLift
  split
  · rename_i h
    obtain ⟨h1, h2, h3⟩ := s.enterIntervening_spec
    exact ⟨h1, .inr ⟨h.1, h2, h3⟩⟩
  · exact ⟨.refl s, .inl (.refl s)⟩

theorem State.Answers.refl (s : State) : s.Answers s := ⟨.refl s, .inl (.refl s)⟩

theorem State.Answers.after (k : t.Answers u) (h : s.ChannelsOnly t) (hp : s.SameParts t) : s.Answers u :=
  ⟨hp.trans k.parts, k.outcome.imp h.trans (.of_channelsOnly h)⟩

theorem State.enterRelease_answers (c : ChannelId) : s.Answers (s.enterRelease c) :=
  .after (State.takeWheelLift_answers c) ⟨rfl, rfl⟩ (.setChannel rfl rfl)

theorem State.freeChannel_answers (c : ChannelId) : s.Answers (s.freeChannel c) :=
  ⟨.setChannel rfl rfl, .inl ⟨rfl, rfl⟩⟩

theorem State.lockOnTarget_answers (c : ChannelId) : s.Answers (s.lockOnTarget c) := by
  unfold State.lockOnTarget
  split
  · split
    · split
      · exact State.enterRelease_answers c
      · exact .refl s
    all_goals
      split
      · exact State.freeChannel_answers c
      · exact .refl s
  · exact State.freeChannel_answers c

theorem State.takeDriverPart_spec (c : ChannelId) :
    s.SameParts (s.takeDriverPart c) ∧ s.ChannelsOnly (s.takeDriverPart c) := by
  unfold State.takeDriverPart
  split
  · exact ⟨State.SameParts.trans (.of_channels (by rfl)) State.liftSuppressions_sameParts, rfl, rfl⟩
  · exact ⟨.refl s, .refl s⟩

/-! ### A channel's target -/

/-- R109 to R111: the target and the driver-derived part are what the two formulas give, and the other channels keep
theirs. -/
structure State.TargetFormed (s t : State) (c : ChannelId) : Prop where
  target : (t.channel c).target = s.formedTarget c
  part : (t.channel c).driverPart = s.formedDriverPart c
  others : ∀ d, d ≠ c → (t.channel d).target = (s.channel d).target ∧ (t.channel d).driverPart = (s.channel d).driverPart

/-- R111, R117, R136: a formed target brings wheel lift only where it changes the one held. -/
theorem State.followTarget_spec (c : ChannelId) : s.TargetFormed (s.followTarget c) c ∧
    (s.ChannelsOnly (s.followTarget c) ∨
      s.FindsLift (s.followTarget c) ∧ s.formedTarget c ≠ (s.channel c).target) := by
  have h0 : s.ChannelsOnly (s.setChannel c { s.channel c with
      target := s.formedTarget c, driverPart := s.formedDriverPart c }) := ⟨rfl, rfl⟩
  have hf : s.TargetFormed (s.setChannel c { s.channel c with
      target := s.formedTarget c, driverPart := s.formedDriverPart c }) c :=
    ⟨by simp, by simp, fun d hd => by rw [State.setChannel_channel, if_neg hd]; exact ⟨rfl, rfl⟩⟩
  unfold State.followTarget
  dsimp only
  generalize s.setChannel c { s.channel c with
      target := s.formedTarget c, driverPart := s.formedDriverPart c } = t at *
  have hk : ∀ u : State, t.SameParts u → s.TargetFormed u c := fun u hu =>
    ⟨(hu c).1.trans hf.target, (hu c).2.trans hf.part, fun d hd =>
      ⟨(hu d).1.trans (hf.others d hd).1, (hu d).2.trans (hf.others d hd).2⟩⟩
  split
  · obtain ⟨hp, hc⟩ := t.takeDriverPart_spec c
    exact ⟨hk _ hp, .inl (h0.trans hc)⟩
  · rename_i hne
    have ha := t.lockOnTarget_answers c
    obtain ⟨hp, hc⟩ := (t.lockOnTarget c).takeDriverPart_spec c
    refine ⟨hk _ (ha.parts.trans hp), ha.outcome.imp (fun h => h0.trans (h.trans hc)) fun h => ⟨?_, hne⟩⟩
    exact .of_channelsOnly h0 (h.channelsOnly hc)

/-! ### What the targets hang on -/

/-- What the formulas of the targets read is the same. -/
structure State.SameBasis (s t : State) : Prop where
  settings : t.settings = s.settings
  layout : ∀ a, (t.axle a).layout = (s.axle a).layout
  analog : t.inputs.analog = s.inputs.analog
  ratio : ∀ g, (t.group g).ratio = (s.group g).ratio
  driver : t.demands.driver = s.demands.driver
  table : t.demands.table = s.demands.table

theorem State.SameBasis.trans (h : s.SameBasis t) (k : t.SameBasis u) : s.SameBasis u :=
  ⟨k.settings.trans h.settings, fun a => (k.layout a).trans (h.layout a), k.analog.trans h.analog,
    fun g => (k.ratio g).trans (h.ratio g), k.driver.trans h.driver, k.table.trans h.table⟩

theorem State.ChannelsOnly.sameBasis (h : s.ChannelsOnly t) : s.SameBasis t := by
  rw [h.frame]
  exact ⟨rfl, fun _ => rfl, rfl, fun _ => rfl, rfl, rfl⟩

theorem State.SameBasis.formed (h : s.SameBasis t) (c : ChannelId) :
    t.formedTarget c = s.formedTarget c ∧ t.formedDriverPart c = s.formedDriverPart c := by
  have hg : t.channelGroup c = s.channelGroup c := by
    unfold State.channelGroup State.servingAxles
    simp only [h.layout]
  have hl : ∀ g p, t.ldp g p = s.ldp g p := fun g p => by unfold State.ldp; rw [h.settings, h.ratio]
  have hb : t.supplyBound = s.supplyBound := by
    unfold State.supplyBound State.pressureOf State.offered State.analog
    rw [h.analog]
    rfl
  have he : ∀ x, t.entry x = s.entry x := fun x => by unfold State.entry; rw [h.table]
  unfold State.formedTarget State.formedDriverPart State.largestCandidate State.entryFor State.hasEntry
  simp only [hg, hl, hb, he, h.driver, and_self]

/-! ### The targets of all channels -/

/-- The targets of the three channels, one after the other. -/
def State.targeted (s : State) : State := ((s.followTarget .chL).followTarget .chR).followTarget .chX

/-- Every channel holds the target and the driver-derived part that the formulas give. -/
def State.AllFormed (s t : State) : Prop :=
  ∀ c, (t.channel c).target = s.formedTarget c ∧ (t.channel c).driverPart = s.formedDriverPart c

/-- R111, R136: the targets of all channels are formed, or the STU finds wheel lift, which it does only from a target
that changes. -/
theorem State.targeted_spec : (s.ChannelsOnly s.targeted ∧ s.AllFormed s.targeted) ∨
    s.FindsLift s.targeted ∧ ¬∀ c, s.formedTarget c = (s.channel c).target := by
  obtain ⟨fL, oL⟩ := s.followTarget_spec .chL
  obtain ⟨fR, oR⟩ := (s.followTarget .chL).followTarget_spec .chR
  obtain ⟨fX, oX⟩ := ((s.followTarget .chL).followTarget .chR).followTarget_spec .chX
  have hno : ∀ {r t u : State} {P : Prop}, r.FindsLift t → (t.ChannelsOnly u ∨ t.FindsLift u ∧ P) → r.FindsLift u :=
    fun h k => k.elim h.channelsOnly fun k => absurd (h.after.symm.trans k.1.before) (by decide)
  rcases oL with oL | ⟨oL, nL⟩
  · have bL := oL.sameBasis.formed
    rcases oR with oR | ⟨oR, nR⟩
    · have bR := (oL.trans oR).sameBasis.formed
      rcases oX with oX | ⟨oX, nX⟩
      · refine .inl ⟨(oL.trans oR).trans oX, fun c => ?_⟩
        unfold State.targeted
        cases c with
        | chL =>
          obtain ⟨h1, h2⟩ := fX.others .chL (by decide)
          obtain ⟨k1, k2⟩ := fR.others .chL (by decide)
          exact ⟨h1.trans (k1.trans fL.target), h2.trans (k2.trans fL.part)⟩
        | chR =>
          obtain ⟨h1, h2⟩ := fX.others .chR (by decide)
          exact ⟨h1.trans (fR.target.trans (bL .chR).1), h2.trans (fR.part.trans (bL .chR).2)⟩
        | chX => exact ⟨fX.target.trans (bR .chX).1, fX.part.trans (bR .chX).2⟩
      · refine .inr ⟨.of_channelsOnly (oL.trans oR) oX, fun h => nX ?_⟩
        rw [(bR .chX).1, h, (fR.others .chX (by decide)).1, (fL.others .chX (by decide)).1]
    · refine .inr ⟨hno (.of_channelsOnly oL oR) oX, fun h => nR ?_⟩
      rw [(bL .chR).1, h, (fL.others .chR (by decide)).1]
  · exact .inr ⟨hno (hno oL oR) oX, fun h => nL (h .chL)⟩

/-! ### The braking condition -/

theorem State.formedBraking_congr (h1 : t.demands.table = s.demands.table) (h2 : t.demands.driver = s.demands.driver) :
    t.formedBraking = s.formedBraking := by
  unfold State.formedBraking
  rw [h2, State.hasEntry_congr h1, State.hasEntry_congr h1, State.hasEntry_congr h1]

theorem State.formedDriver_congr (h1 : t.demands.table = s.demands.table)
    (h2 : t.demands.mismatch = s.demands.mismatch) : t.formedDriver = s.formedDriver := by
  have he : ∀ x, t.entry x = s.entry x := fun x => by unfold State.entry; rw [h1]
  unfold State.formedDriver State.mismatchInForce State.sourcePressure State.hasEntry
  simp only [he, h2]

/-- The state with P_d as the entries and the mismatch record give it, the braking condition still to follow. -/
def State.driven (s : State) : State := s.setDemands { s.demands with driver := s.formedDriver }

theorem State.followDriver_braking_same (h : s.driven.formedBraking = s.demands.braking) : s.followDriver = s.driven :=
  if_pos h

theorem State.followDriver_braking_new (h : s.driven.formedBraking ≠ s.demands.braking) :
    s.followDriver = s.driven.takeBraking s.driven.formedBraking := if_neg h

theorem State.takeBraking_false : s.takeBraking false = s.setDemands { s.demands with braking := false } := rfl

/-- R79: the braking condition that begins lowers axles, and may end a step and its TEST entry. -/
theorem State.takeBraking_true_spec : (s.takeBraking true).demands.braking = true ∧
    LoadChange s (s.takeBraking true) := by
  have hw : (s.setDemands { s.demands with braking := true }).Waits (s.takeBraking true) :=
    (State.Lifts.foldl (s := s.setDemands { s.demands with braking := true }) (f := State.abortRaise) (fun t a => by
      unfold State.abortRaise
      split
      · exact State.lowerToAuto_lifts a
      · exact .refl t) AxleId.list).waits
  exact ⟨hw.braking, .takeBraking s true⟩

/-- R98: without braking no entry and no P_d calls for it. -/
theorem State.followDriver_unbraked (h : s.followDriver.demands.braking = false) :
    s.followDriver.formedBraking = false := by
  by_cases hb : s.driven.formedBraking = s.demands.braking
  · rw [State.followDriver_braking_same hb] at h ⊢
    exact hb.trans h
  · rw [State.followDriver_braking_new hb] at h ⊢
    cases hf : s.driven.formedBraking with
    | false => exact hf
    | true => rw [hf, State.takeBraking_true_spec.1] at h; cases h

/-- Every entry but that of TEST stays. -/
def State.KeepsEntries (s t : State) : Prop := ∀ x, x ≠ .test → t.entry x = s.entry x

theorem State.KeepsEntries.refl (s : State) : s.KeepsEntries s := fun _ _ => rfl

theorem State.KeepsEntries.trans (h : s.KeepsEntries t) (k : t.KeepsEntries u) : s.KeepsEntries u := fun x hx =>
  (k x hx).trans (h x hx)

theorem State.KeepsEntries.of_demands (h : t.demands = s.demands) : s.KeepsEntries t := fun x _ => by
  unfold State.entry
  rw [h]

theorem State.enterWorkshopState_keepsEntries (m : Mode) : s.KeepsEntries (s.enterWorkshopState m) := fun x hx => by
  have h : (if s.mode.workshop = .stepRunning then s.retireEntry .test else s).entry x = s.entry x := by
    split
    · exact State.retireEntry_entry_ne s hx
    · rfl
  refine Eq.trans ?_ h
  unfold State.enterWorkshopState
  dsimp only
  split <;> split <;> rfl

theorem State.setLift_keepsEntries (a : AxleId) (x : LiftState) : s.KeepsEntries (s.setLift a x) := by
  by_cases h : (s.axle a).lift = x
  · rw [State.setLift_same h]; exact .refl s
  · rw [State.setLift_eq h]
    have ha : s.Apart (((s.lifted a x).noteArrival a x).evaluateAxle a) :=
      ((State.lifted_quiet (a := a) (x := x)).apart.trans State.noteArrival_apart).trans (State.Quiet.evaluateAxle a).apart
    refine State.KeepsEntries.trans (.of_demands ha.demands) ?_
    rcases State.reportLift_cases (s := ((s.lifted a x).noteArrival a x).evaluateAxle a) (a := a) (x := x) with k | k | k
    · rw [k]; exact .refl _
    · rw [k]; exact State.enterWorkshopState_keepsEntries _
    · rw [k]; exact State.enterWorkshopState_keepsEntries _

theorem State.lowerToAuto_keepsEntries (a : AxleId) : s.KeepsEntries (s.lowerToAuto a) := by
  unfold State.lowerToAuto State.modeToAuto
  split
  · refine State.KeepsEntries.trans (.of_demands ?_) (State.setLift_keepsEntries a _)
    split <;> rfl
  · exact .refl s

theorem State.abortRaise_keepsEntries (a : AxleId) : s.KeepsEntries (s.abortRaise a) := by
  unfold State.abortRaise
  split
  · exact State.lowerToAuto_keepsEntries a
  · exact .refl s

theorem State.takeBraking_keepsEntries (b : Bool) : s.KeepsEntries (s.takeBraking b) := by
  have h : s.KeepsEntries (s.setDemands { s.demands with braking := b }) := fun _ _ => rfl
  unfold State.takeBraking
  dsimp only
  split
  · exact State.foldl_keeps (P := fun t => s.KeepsEntries t) (fun _ a ht => ht.trans (State.abortRaise_keepsEntries a)) _ h
  · exact h

/-- R98: a braking condition that follows P_d holds, where the STABILITY entry stands or where the condition does not
begin. -/
theorem State.followDriver_braking (h : s.hasEntry .stability = true ∨
    (s.driven.formedBraking = true → s.demands.braking = true)) :
    s.followDriver.demands.braking = s.followDriver.formedBraking := by
  by_cases hb : s.driven.formedBraking = s.demands.braking
  · rw [State.followDriver_braking_same hb]
    exact hb.symm
  · rw [State.followDriver_braking_new hb]
    cases hf : s.driven.formedBraking with
    | false => exact hf.symm
    | true =>
      rcases h with h | h
      · rw [State.takeBraking_true_spec.1, State.formedBraking, State.hasEntry_iff _ .stability,
          State.takeBraking_keepsEntries true .stability (by decide)]
        rw [show s.driven.entry .stability = s.entry .stability from rfl, ← State.hasEntry_iff, h]
        simp
      · exact absurd (hf.trans (h hf).symm) hb

/-! ### The BDU, twice -/

/-- The BDU's part of a round before the targets. -/
def State.weighed (s : State) : State := (s.followMismatch.followDriver.followRatio .g1).followRatio .g2

theorem State.followDemands_targeted : s.followDemands = s.weighed.targeted := rfl

theorem State.followRatios (s : State) : ((s.followRatio .g1).followRatio .g2).demands = s.demands ∧
    ((s.followRatio .g1).followRatio .g2).inputs = s.inputs ∧
    ((s.followRatio .g1).followRatio .g2).stability = s.stability := ⟨rfl, rfl, rfl⟩

theorem State.followRatio_group (s : State) (g k : GroupId) : (s.followRatio g).group k =
    if k = g then { s.group g with ratio := brakeRatio (s.calibration g).re (s.group g).l } else s.group k :=
  State.setGroup_group s g k _

theorem State.followRatios_group (s : State) (g : GroupId) : ((s.followRatio .g1).followRatio .g2).group g =
    { s.group g with ratio := brakeRatio (s.calibration g).re (s.group g).l } := by
  cases g <;> simp only [State.followRatio_group, if_true, if_false, reduceCtorEq]
  rfl

theorem State.weighed_demands : s.weighed.demands = s.followMismatch.followDriver.demands :=
  (State.followRatios _).1

theorem State.weighed_settles : Settles s s.weighed := by
  have h := (Settles.followMismatch s).trans (Settles.followDriver _)
  unfold State.weighed
  generalize s.followMismatch.followDriver = t at *
  exact h.trans (.after (LoadChange.followRatio _ _).settles (LoadChange.followRatio t _).settles)

/-- R96, R97: the mismatch record that is formed twice of the same entries stays. -/
theorem State.followMismatch_weighed (hu : s.weighed.ChannelsOnly u) :
    u.followMismatch.demands.mismatch = u.demands.mismatch := by
  have ho := (State.weighed_settles (s := s)).offers.watched_same
  have hm : u.demands.mismatch = mismatchAfter s.mismatchWatched s.demandGap s.demands.mismatch := by
    rw [hu.demands, State.weighed_demands, s.followMismatch.followDriver_driver.2, State.followMismatch_eq]
  have hw := hu.watched
  rw [State.followMismatch_eq, hw.1, hw.2, ho.1, ho.2, hm, mismatchAfter_idem]

/-- R96: a demand record that a change of the mismatch record leaves. -/
theorem State.followMismatch_demands : ∃ m since, s.followMismatch =
    s.setDemands { s.demands with mismatch := m, mismatchSince := since } := by
  unfold State.followMismatch
  split
  · split <;> split <;> exact ⟨_, _, rfl⟩
  · exact ⟨_, _, rfl⟩

/-- R98: P_d formed anew where no braking begins changes the demand record alone. -/
theorem State.followDriver_calm (h : s.driven.formedBraking = true → s.demands.braking = true) :
    s.followDriver = s.setDemands { s.demands with driver := s.formedDriver, braking := s.driven.formedBraking } := by
  have hd : s.driven.demands = { s.demands with driver := s.formedDriver } := rfl
  by_cases hb : s.driven.formedBraking = s.demands.braking
  · rw [State.followDriver_braking_same hb, hb, State.driven]
  · rw [State.followDriver_braking_new hb]
    cases hf : s.driven.formedBraking with
    | false => rw [State.takeBraking_false, hd, State.driven]; rfl
    | true => exact absurd (hf.trans (h hf).symm) hb

/-- R106: the ratio of every group is that of its load. -/
def State.RatiosFormed (s : State) : Prop := ∀ g, (s.group g).ratio = brakeRatio (s.calibration g).re (s.group g).l

theorem State.ChannelsOnly.ratiosFormed (h : s.ChannelsOnly t) (k : s.RatiosFormed) : t.RatiosFormed := by
  rw [h.frame]
  exact k

/-- R95 to R98, R106: what P_d, the braking condition and the ratios formed anew leave, where P_d stood as formed and
no braking begins. -/
structure State.WeighedAgain (s t : State) : Prop where
  basis : s.RatiosFormed → s.SameBasis t
  channels : t.channels = s.channels
  braking : t.demands.braking = t.formedBraking

theorem State.followRatios_basis (h : s.RatiosFormed) :
    s.SameBasis ((s.followRatio .g1).followRatio .g2) :=
  ⟨rfl, fun _ => rfl, rfl, fun g => by rw [State.followRatios_group, ← h g], rfl, rfl⟩

theorem State.weighed_again (hm : s.followMismatch.demands.mismatch = s.demands.mismatch)
    (hd : s.demands.driver = s.formedDriver) (hb : s.formedBraking = true → s.demands.braking = true) :
    s.WeighedAgain s.weighed := by
  obtain ⟨m, since, hs⟩ := s.followMismatch_demands
  have hd' : s.followMismatch.formedDriver = s.formedDriver :=
    State.formedDriver_congr (by rw [hs]; rfl) hm
  have hb' : s.followMismatch.driven.formedBraking = s.formedBraking :=
    State.formedBraking_congr (by rw [hs]; rfl) (hd'.trans hd.symm)
  have hcalm := State.followDriver_calm (s := s.followMismatch) (by rw [hb', hs]; exact hb)
  have hf : s.followMismatch.followDriver = s.setDemands ⟨s.demands.table, m, since, s.demands.driver, s.formedBraking⟩ := by
    rw [hcalm, hd', hb', hs, ← hd]
    rfl
  unfold State.weighed
  rw [hf]
  refine ⟨fun h => State.SameBasis.trans (t := s.setDemands ⟨s.demands.table, m, since, s.demands.driver, s.formedBraking⟩)
    ⟨rfl, fun _ => rfl, rfl, fun _ => rfl, rfl, rfl⟩ (State.followRatios_basis h), rfl, ?_⟩
  exact (State.formedBraking_congr (s := s) rfl rfl).symm

theorem State.weighed_ratiosFormed : s.weighed.RatiosFormed := fun g => by
  unfold State.weighed
  generalize s.followMismatch.followDriver = t
  rw [State.followRatios_group]
  rfl

theorem State.weighed_stability : s.weighed.stability = s.stability := by
  obtain ⟨m, since, hs⟩ := s.followMismatch_demands
  have hd : s.followMismatch.followDriver.stability = s.followMismatch.stability := by
    unfold State.followDriver
    dsimp only
    split
    · rfl
    · exact (LoadChange.takeBraking _ _).stability
  unfold State.weighed
  rw [(State.followRatios _).2.2, hd, hs]
  rfl

theorem State.weighed_driver : s.weighed.demands.driver = s.weighed.formedDriver := by
  have h := congrArg Demands.mismatch (State.weighed_demands (s := s))
  rw [State.formedDriver_congr (congrArg Demands.table (State.weighed_demands (s := s))) h, State.weighed_demands]
  exact s.followMismatch.followDriver_driver.1

theorem State.weighed_formedBraking : s.weighed.formedBraking = s.followMismatch.followDriver.formedBraking :=
  State.formedBraking_congr (by rw [State.weighed_demands]) (by rw [State.weighed_demands])

/-- R98: braking never stands less than formed. -/
theorem State.weighed_braking (h : s.weighed.formedBraking = true) : s.weighed.demands.braking = true := by
  rw [State.weighed_formedBraking] at h
  rw [State.weighed_demands]
  cases hb : s.followMismatch.followDriver.demands.braking with
  | true => rfl
  | false => rw [State.followDriver_unbraked hb] at h; cases h

/-- The BDU's part of a round leaves the braking condition and every target as the formulas give them. -/
structure State.BrakesFormed (s : State) : Prop where
  braking : s.demands.braking = s.formedBraking
  targets : s.AllFormed s

theorem State.BrakesFormed.of_targeted (hb : s.demands.braking = s.formedBraking) (h : s.ChannelsOnly s.targeted)
    (ha : s.AllFormed s.targeted) : s.targeted.BrakesFormed := by
  have hk := h.sameBasis
  refine ⟨?_, fun c => ⟨?_, ?_⟩⟩
  · rw [State.formedBraking_congr hk.table hk.driver, h.demands, hb]
  · rw [(hk.formed c).1, (ha c).1]
  · rw [(hk.formed c).2, (ha c).2]

/-- Where the targets have just been taken on, and P_d, the ratios and the braking condition stand as formed, the BDU
forms nothing new. -/
theorem State.ChannelsOnly.followDemands (h : s.ChannelsOnly t) (ha : s.AllFormed t)
    (hm : t.followMismatch.demands.mismatch = t.demands.mismatch) (hd : s.demands.driver = s.formedDriver)
    (hb : s.formedBraking = true → s.demands.braking = true) (hr : s.RatiosFormed) : t.followDemands.BrakesFormed := by
  have hdriver : t.demands.driver = t.formedDriver := by
    rw [State.formedDriver_congr (s := s) (by rw [h.demands]) (by rw [h.demands]), h.demands, hd]
  have hbraking : t.formedBraking = true → t.demands.braking = true := by
    rw [State.formedBraking_congr (s := s) (by rw [h.demands]) (by rw [h.demands]), h.demands]
    exact hb
  have hw := State.weighed_again hm hdriver hbraking
  have hk := hw.basis (h.ratiosFormed hr)
  rw [State.followDemands_targeted]
  rcases State.targeted_spec (s := t.weighed) with k | k
  · exact .of_targeted hw.braking k.1 k.2
  · refine absurd (fun c => ?_) k.2
    rw [(hk.formed c).1, (h.sameBasis.formed c).1, ← (ha c).1, State.channel, State.channel, hw.channels]

/-- After a first forming in which the STU intervened, the second has nothing left for it to find. -/
theorem State.followDemands_lifted (h : s.weighed.FindsLift s.followDemands) :
    s.followDemands.followDemands.BrakesFormed := by
  generalize s.followDemands = u at *
  obtain ⟨m, since, hs⟩ := u.followMismatch_demands
  have he : u.followMismatch.hasEntry .stability = true := by
    rw [hs]
    exact h.entry
  have hb : u.weighed.demands.braking = u.weighed.formedBraking := by
    rw [State.weighed_formedBraking, State.weighed_demands]
    exact State.followDriver_braking (.inl he)
  rw [State.followDemands_targeted]
  rcases State.targeted_spec (s := u.weighed) with k | k
  · exact .of_targeted hb k.1 k.2
  · have hp := k.1.before
    rw [State.weighed_stability, h.after] at hp
    cases hp

/-- R98, R109 to R111: the targets and the braking condition at the end of a change. -/
theorem State.followDemands_twice : s.followDemands.followDemands.BrakesFormed := by
  rcases State.targeted_spec (s := s.weighed) with k | k
  · rw [← State.followDemands_targeted] at k
    exact k.1.followDemands k.2 (State.followMismatch_weighed k.1) State.weighed_driver State.weighed_braking
      State.weighed_ratiosFormed
  · exact State.followDemands_lifted k.1

theorem State.arm_frame : s.arm = s.setStability s.arm.stability := by
  unfold State.arm
  split <;> rfl

end

/-! ### The end of a change -/

section
variable (s : State)

theorem State.close_brakesFormed : s.close.BrakesFormed := by
  unfold State.close
  have h := (State.followDemands_twice (s := s.followReference))
  generalize s.followReference.followDemands.followDemands = t at *
  rw [State.arm_frame]
  exact ⟨h.braking, h.targets⟩

theorem State.close_reference : s.close.inputs.reference = s.close.formedReference := by
  have ha : s.followReference.Aside s.close := .after .arm (.after .followDemands .followDemands)
  have ho : Offers s.followReference s.close :=
    (Settles.after (Steady.arm _).settles (.after (.followDemands _) (.followDemands s.followReference))).offers
  rw [ha.reference, ho.formedReference ha.down]
  exact State.followReference_formed

end

/-- Settles O15: the reference speed at the end is that of the wheels and axles, which nothing after it moves; P_d and the
mismatch record are those of the entries; and of the two times that the brakes are formed, the second finds them so. -/
theorem settlingFormsTheDriverDemand : Obligations.SettlingFormsTheDriverDemand := by
  intro s
  have hd := s.settle_driver
  have hm := s.settle_mismatch
  have hr := State.close_reference s.round.round.round
  have hb := State.close_brakesFormed s.round.round.round
  rw [State.settle_eq] at *
  generalize s.round.round.round.close = t at *
  refine ⟨hr, hd, hb.braking, ?_, hb.targets, fun hw => ?_, fun hw hg => ?_, fun hw hg => ?_, rfl, rfl, rfl, rfl, rfl⟩
  · simp [State.formedBraking, Bool.or_eq_true, or_assoc]
  · rw [hm, hw]; rfl
  · rw [hm, hw]
    unfold mismatchAfter
    cases s.demands.mismatch <;> simp [hg]
  · have hg' : ¬80 < s.demandGap := by omega
    rw [hm, hw]
    unfold mismatchAfter
    cases s.demands.mismatch <;> simp [hg']

end Sys2Proof.Machine
end

section
/-! SUPPORT. The reference speed of a set of wheels, and what a new one makes of the motion and the power state (R60, R61,
R152, R154). -/
namespace Sys2Proof.Machine

/-! ### The largest of a list -/

theorem foldl_max_spec (l : List Nat) (m : Nat) : (∀ n ∈ l, n ≤ l.foldl max m) ∧ m ≤ l.foldl max m ∧
    (l.foldl max m = m ∨ l.foldl max m ∈ l) := by
  induction l generalizing m with
  | nil => exact ⟨nofun, Nat.le_refl m, .inl rfl⟩
  | cons n l ih =>
    obtain ⟨h1, h2, h3⟩ := ih (max m n)
    rw [List.foldl_cons]
    refine ⟨fun k hk => ?_, by omega, ?_⟩
    · rcases List.mem_cons.1 hk with rfl | hk
      · omega
      · exact h1 k hk
    · rcases h3 with h3 | h3
      · rw [h3, List.mem_cons]
        omega
      · exact .inr (List.mem_cons_of_mem n h3)

section
variable {s t : State} {w : WheelId} {a : AxleId}

theorem State.le_formedReference (h : w ∈ s.referenceSet) : (s.wheel w).speed ≤ s.formedReference :=
  (foldl_max_spec _ 0).1 _ (List.mem_map_of_mem h)

/-- R60: the reference speed is that of one of its wheels. -/
theorem State.formedReference_mem (h : s.referenceSet ≠ []) :
    ∃ w ∈ s.referenceSet, (s.wheel w).speed = s.formedReference := by
  rcases (foldl_max_spec (s.referenceSet.map fun w => (s.wheel w).speed) 0).2.2 with h0 | h0
  · obtain ⟨w, hw⟩ := List.exists_mem_of_ne_nil _ h
    have hle := State.le_formedReference hw
    have hz : s.formedReference = 0 := h0
    exact ⟨w, hw, by omega⟩
  · obtain ⟨w, hw, he⟩ := List.mem_map.1 h0
    exact ⟨w, hw, he⟩

theorem State.formedReference_empty (h : s.referenceSet = []) : s.formedReference = 0 := by
  unfold State.formedReference
  rw [h]
  rfl

theorem State.mem_referenceSet : w ∈ s.referenceSet ↔ (s.wheel w).valid = true ∧ ∃ a, (s.axle a).layout.present = true ∧
    (s.axle a).lift = .down ∧ ((s.axle a).layout.left = some w ∨ (s.axle a).layout.right = some w) := by
  simp only [State.referenceSet, List.mem_flatMap, List.mem_filter, Bool.and_eq_true, decide_eq_true_eq,
    List.mem_append, Option.mem_toList]
  constructor
  · rintro ⟨a, ⟨-, hp, hd⟩, hw, hv⟩
    exact ⟨hv, a, hp, hd, hw⟩
  · rintro ⟨hv, a, hp, hd, hw⟩
    exact ⟨a, ⟨a.mem_list, hp, hd⟩, hw, hv⟩

/-! ### The motion state -/

theorem motionAt_fast {m : Motion} {v : Nat} (h : 20 < v) : motionAt m v = .moving := if_pos h

theorem motionAt_middle {m : Motion} {v : Nat} (h1 : 5 ≤ v) (h2 : v ≤ 20) : motionAt m v = .rolling :=
  (if_neg (by omega)).trans (if_pos h1)

theorem motionAt_slow {m : Motion} {v : Nat} (h : v < 5) :
    motionAt m v = if m = .standstill then .standstill else .rolling := by
  unfold motionAt
  rw [if_neg (by omega), if_neg (by omega)]
  cases m <;> rfl

theorem motionAt_moving {m : Motion} {v : Nat} (h : motionAt m v = .moving) : 20 < v := by
  by_contra hv
  rcases Nat.lt_or_ge v 5 with h5 | h5
  · rw [motionAt_slow h5] at h
    split at h <;> cases h
  · rw [motionAt_middle h5 (by omega)] at h
    cases h

/-- R152, R154: the power state at an entry into MOVING. -/
def Mode.atMoving (m : Mode) : Mode :=
  match m.power with
  | .awake => m
  | .runOn => { m with power := .awake, awaited := true, runOnSince := none }
  | .watch => { m with power := .awake, awaited := !m.wakeTaken, runOnSince := none }

theorem State.wake_moving (h : s.inputs.motion = .moving) :
    s.wake = s.setMode { s.mode with power := .awake, awaited := !s.mode.wakeTaken, runOnSince := none } := by
  unfold State.wake
  cases hw : s.mode.wakeTaken with
  | true => rfl
  | false =>
    dsimp only
    rw [if_neg (by simp), if_neg (by rw [h]; simp)]
    rfl

theorem State.enterMotion_moving_mode : (s.enterMotion .moving).inputs = { s.inputs with motion := .moving } ∧
    (s.enterMotion .moving).mode = s.mode.atMoving := by
  unfold State.enterMotion Mode.atMoving
  dsimp only
  rw [State.setInputs_mode]
  cases hp : s.mode.power with
  | awake => exact ⟨rfl, rfl⟩
  | runOn => exact ⟨rfl, rfl⟩
  | watch =>
    dsimp only
    rw [State.wake_moving (by rfl)]
    exact ⟨rfl, rfl⟩

/-- R61: the start of the standstill measurement at a reference speed. -/
def State.belowFrom (s : State) : Option Nat :=
  if s.inputs.reference < 5 ∧ motionAt s.inputs.motion s.inputs.reference ≠ .standstill then
    some (s.inputs.belowSince.getD s.now)
  else none

/-- R61, R152, R154: what the motion state takes from the reference speed, and the power state from the motion state. -/
theorem State.takeMotion_spec : s.takeMotion.inputs =
      { s.inputs with motion := motionAt s.inputs.motion s.inputs.reference, belowSince := s.belowFrom } ∧
    s.takeMotion.mode = if s.inputs.motion ≠ .moving ∧ 20 < s.inputs.reference then s.mode.atMoving else s.mode := by
  have h : s.takeMotion = if motionAt s.inputs.motion s.inputs.reference = s.inputs.motion then
      s.setInputs { s.inputs with belowSince := s.belowFrom }
    else (s.setInputs { s.inputs with belowSince := s.belowFrom }).enterMotion
      (motionAt s.inputs.motion s.inputs.reference) := rfl
  rw [h]
  split
  · rename_i he
    rw [he, if_neg]
    · exact ⟨rfl, rfl⟩
    · rintro ⟨hm, hv⟩
      exact hm (he.symm.trans (motionAt_fast hv))
  · rename_i hne
    cases hm : motionAt s.inputs.motion s.inputs.reference with
    | standstill => exact absurd (hm.trans (motionAt_standstill hm).symm) hne
    | rolling =>
      rw [State.enterMotion_rolling, if_neg]
      · exact ⟨rfl, rfl⟩
      · rintro ⟨-, hv⟩
        rw [motionAt_fast hv] at hm
        cases hm
    | moving =>
      obtain ⟨h1, h2⟩ := State.enterMotion_moving_mode (s := s.setInputs { s.inputs with belowSince := s.belowFrom })
      rw [h1, h2, if_pos ⟨fun hc => hne (hm.trans hc.symm), motionAt_moving hm⟩]
      exact ⟨rfl, rfl⟩

/-! ### The reference speed formed anew -/

theorem State.judgeLiftFault_waits (a : AxleId) : s.Waits (s.judgeLiftFault a) := by
  have h : s.Waits ((s.noteLiftFault a).setAxle a { s.axle a with mode := .heldDown }) := ⟨id, rfl, rfl, rfl, rfl⟩
  unfold State.judgeLiftFault
  dsimp only
  split
  · refine State.Waits.trans ?_ State.setLift_waits
    split
    · exact h.trans (State.enterWorkshopState_waits rfl rfl rfl)
    · exact h
  · exact .refl s

theorem State.Waits.foldl {α : Type} {f : State → α → State} (hf : ∀ (t : State) a, t.Waits (f t a)) (l : List α) :
    s.Waits (l.foldl f s) :=
  State.foldl_keeps (P := fun t => s.Waits t) (fun t a ht => ht.trans (hf t a)) l (.refl s)

theorem State.judged_waits : s.Waits s.judged :=
  (State.Waits.foldl (fun _ a => State.judgeLiftFault_waits a) AxleId.list).trans
    (.foldl (fun _ a => (State.boundHeldUp_lifts a).waits) AxleId.list)

theorem State.workshopOff_waits : s.Waits s.workshopOff := by
  unfold State.workshopOff
  split
  · exact .refl s
  · split <;> exact State.enterWorkshopState_waits rfl rfl rfl

theorem State.rated_spec : s.rated.inputs = { s.inputs with reference := s.formedReference } ∧ s.Waits s.rated ∧
    s.rated.now = s.now ∧ s.rated.mode.wakeTaken = s.mode.wakeTaken := by
  have h := State.rated_loadChange (s := s)
  have h0 : s.Waits (s.setInputs { s.inputs with reference := s.formedReference }) := ⟨id, rfl, rfl, rfl, rfl⟩
  refine ⟨h.inputs, ?_, h.settles.offers.now, h.settles.offers.wakeTaken⟩
  unfold State.rated
  split
  · exact h0.trans State.workshopOff_waits
  · exact h0

/-- The power state, the run-on awaited and its timer. -/
def Mode.runOn (m : Mode) : Power × Bool × Option Nat := (m.power, m.awaited, m.runOnSince)

theorem State.Waits.runOn (h : s.Waits t) : t.mode.runOn = s.mode.runOn := by
  unfold Mode.runOn
  rw [h.power, h.awaited, h.runOnSince]

theorem Mode.atMoving_congr {m n : Mode} (h : m.runOn = n.runOn) (hw : m.wakeTaken = n.wakeTaken) :
    m.atMoving.runOn = n.atMoving.runOn := by
  obtain ⟨h1, h2, h3⟩ : m.power = n.power ∧ m.awaited = n.awaited ∧ m.runOnSince = n.runOnSince := by
    simpa [Mode.runOn] using h
  unfold Mode.atMoving Mode.runOn
  rw [h1]
  cases n.power
  · simp only [h1, h2, h3]
  · rfl
  · simp only [hw]

/-- R60, R61, R152, R154: the inputs and the power state at a new reference speed. -/
theorem State.followReference_spec (h : s.formedReference ≠ s.inputs.reference) :
    s.followReference.inputs = { s.inputs with
      reference := s.formedReference
      motion := motionAt s.inputs.motion s.formedReference
      belowSince := (s.setInputs { s.inputs with reference := s.formedReference }).belowFrom } ∧
    s.followReference.mode.runOn =
      if s.inputs.motion ≠ .moving ∧ 20 < s.formedReference then s.mode.atMoving.runOn else s.mode.runOn := by
  obtain ⟨hi, hw, hn, hk⟩ := s.rated_spec
  obtain ⟨mi, mm⟩ := s.rated.takeMotion_spec
  have hb : s.rated.belowFrom = (s.setInputs { s.inputs with reference := s.formedReference }).belowFrom := by
    unfold State.belowFrom
    rw [hi, hn]
    rfl
  rw [State.followReference_new h]
  constructor
  · rw [State.judged_loadChange.inputs, mi, hb, hi]
  · rw [State.judged_waits.runOn, mm, hi]
    split
    · exact Mode.atMoving_congr hw.runOn hk
    · exact hw.runOn

end

end Sys2Proof.Machine
end

section
/-! SUPPORT. The lift faults that a wheel input brings on the axles that name it (R84). -/
namespace Sys2Proof.Machine

section
variable {s t : State} {w : WheelId} {a b : AxleId} {l : List AxleId}

/-- R84: what makes a lift fault of an axle. -/
def State.liftFaulty (s : State) (a : AxleId) : Bool :=
  (s.axle a).layout.present && (s.axle a).layout.liftable && decide ((s.axle a).lift = .up) && s.wheelTurns a &&
    decide (100 < s.inputs.reference)

theorem State.liftFaulty_iff : s.liftFaulty a = true ↔ (s.axle a).layout.present = true ∧
    (s.axle a).layout.liftable = true ∧ (s.axle a).lift = .up ∧ s.wheelTurns a = true ∧ 100 < s.inputs.reference := by
  simp [State.liftFaulty, and_assoc]

theorem State.liftFaulty_congr (hi : t.inputs = s.inputs) (ha : t.axle a = s.axle a) : t.liftFaulty a = s.liftFaulty a := by
  unfold State.liftFaulty State.wheelTurns State.wheel
  rw [hi, ha]

theorem State.judgeLiftFault_sound (h : s.liftFaulty a = false) : s.judgeLiftFault a = s :=
  if_neg fun hc => by
    rw [State.liftFaulty, hc] at h
    cases h

theorem mask_grown {x y b : Mask} (h : y &&& x = x) (hx : x &&& b = b) : y &&& b = b := by
  rw [← hx, ← BitVec.and_assoc, h]

/-- R84: the lift fault of one axle. -/
structure State.FaultTaken (s : State) (a : AxleId) : Prop where
  lift : (s.axle a).lift = .lowering
  mode : (s.axle a).mode = .heldDown
  notice : s.port.notices.liftFault &&& bit (a.number - 1) = bit (a.number - 1)

theorem State.FaultTaken.keep (h : s.FaultTaken a) (ha : t.axle a = s.axle a)
    (hn : s.port.notices.Grown t.port.notices) : t.FaultTaken a :=
  ⟨by rw [ha, h.lift], by rw [ha, h.mode], mask_grown hn.liftFault h.notice⟩

/-- R84: a lift fault as it is judged, before the axle is lowered. -/
def State.faultNoted (s : State) (a : AxleId) : State :=
  let t := (s.noteLiftFault a).setAxle a { s.axle a with mode := .heldDown }
  if t.liftStepOn a then t.stepFaults .liftFault else t

theorem State.faultNoted_loadChange :
    LoadChange ((s.noteLiftFault a).setAxle a { s.axle a with mode := .heldDown }) (s.faultNoted a) :=
  .ite (fun h => .stepFaults _ _ fun hn => by rw [State.liftStepOn, hn] at h; cases h) fun _ => .refl _

theorem State.faultNoted_axle : (s.faultNoted a).axle b =
    if b = a then { s.axle a with mode := .heldDown } else s.axle b := by
  have h : (s.faultNoted a).loads = ((s.noteLiftFault a).setAxle a { s.axle a with mode := .heldDown }).loads := by
    unfold State.faultNoted
    dsimp only
    split
    · exact State.enterWorkshopState_loads _
    · rfl
  rw [State.axle, h]
  exact State.setAxle_axle (s.noteLiftFault a) a b _

theorem State.judgeLiftFault_faulty (h : s.liftFaulty a = true) :
    s.judgeLiftFault a = (s.faultNoted a).setLift a .lowering := if_pos h

theorem State.judgeLiftFault_axle (h : s.liftFaulty a = true) : (s.judgeLiftFault a).FaultTaken a ∧
    ∀ b, b ≠ a → (s.judgeLiftFault a).axle b = s.axle b := by
  have hl : ((s.faultNoted a).axle a).lift ≠ .lowering := by
    rw [State.faultNoted_axle, if_pos rfl]
    show (s.axle a).lift ≠ .lowering
    rw [(State.liftFaulty_iff.1 h).2.2.1]
    simp
  have hn := ((State.faultNoted_loadChange (s := s) (a := a)).trans (.setLift _ a .lowering)).settles.offers.notices
  rw [State.judgeLiftFault_faulty h]
  refine ⟨⟨?_, ?_, mask_grown hn.liftFault (mask_or_self _ _)⟩, fun b hb => ?_⟩
  · rw [State.setLift_axle hl, if_pos rfl]
  · rw [State.setLift_axle hl, if_pos rfl, State.faultNoted_axle, if_pos rfl]
  · rw [State.setLift_axle hl, if_neg hb, State.faultNoted_axle, if_neg hb]

theorem State.judgeLiftFault_others (a : AxleId) (hb : b ≠ a) : (s.judgeLiftFault a).axle b = s.axle b := by
  cases h : s.liftFaulty a with
  | false => rw [State.judgeLiftFault_sound h]
  | true => exact (State.judgeLiftFault_axle h).2 b hb

/-- R84: what judging the axles of a list leaves and brings. -/
structure State.FaultsJudged (s t : State) (l : List AxleId) : Prop where
  inputs : t.inputs = s.inputs
  notices : s.port.notices.Grown t.port.notices
  taken : ∀ a ∈ l, s.liftFaulty a = true → t.FaultTaken a
  kept : ∀ a, (a ∈ l → s.liftFaulty a = false) → t.axle a = s.axle a
  none : (∀ a ∈ l, s.liftFaulty a = false) → t = s

theorem State.judgeLiftFaults_spec (hl : l.Nodup) (s : State) : s.FaultsJudged (l.foldl State.judgeLiftFault s) l := by
  induction l generalizing s with
  | nil => exact ⟨rfl, .refl _, nofun, fun _ _ => rfl, fun _ => rfl⟩
  | cons a l ih =>
    obtain ⟨ha, hl⟩ := List.nodup_cons.1 hl
    have h1 := LoadChange.judgeLiftFault s a
    obtain ⟨hi, hn, ht, hk, h0⟩ := ih hl (s.judgeLiftFault a)
    have hf : ∀ b, b ≠ a → (s.judgeLiftFault a).liftFaulty b = s.liftFaulty b := fun b hb =>
      State.liftFaulty_congr h1.inputs (State.judgeLiftFault_others a hb)
    have hne : ∀ b ∈ l, b ≠ a := fun b hb hba => ha (hba ▸ hb)
    rw [List.foldl_cons]
    refine ⟨hi.trans h1.inputs, h1.settles.offers.notices.trans hn, fun b hb hfb => ?_, fun b hb => ?_, fun h => ?_⟩
    · rcases List.mem_cons.1 hb with rfl | hb
      · exact (State.judgeLiftFault_axle hfb).1.keep (hk b fun h => absurd h ha) hn
      · exact ht b hb ((hf b (hne b hb)).trans hfb)
    · by_cases hba : b = a
      · subst hba
        rw [hk b fun h => absurd h ha, State.judgeLiftFault_sound (hb List.mem_cons_self)]
      · rw [hk b fun h => (hf b hba).trans (hb (List.mem_cons_of_mem a h)), State.judgeLiftFault_others a hba]
    · have hs := State.judgeLiftFault_sound (h a List.mem_cons_self)
      rw [h0 fun b hb => (hf b (hne b hb)).trans (h b (List.mem_cons_of_mem a hb)), hs]

/-- R84: the axles that name a wheel input. -/
def State.names (s : State) (w : WheelId) (a : AxleId) : Bool :=
  decide ((s.axle a).layout.left = some w) || decide ((s.axle a).layout.right = some w)

theorem State.names_congr (h : Offers s t) : t.names w = s.names w := by
  funext a
  unfold State.names
  rw [h.layout]

theorem State.judgeWheelFaults_eq (s : State) (w : WheelId) :
    s.judgeWheelFaults w = (AxleId.list.filter (s.names w)).foldl State.judgeLiftFault s := by
  have h : ∀ (l : List AxleId) (t : State), t.names w = s.names w →
      l.foldl (fun t a => if t.names w a then t.judgeLiftFault a else t) t =
        (l.filter (s.names w)).foldl State.judgeLiftFault t := by
    intro l
    induction l with
    | nil => exact fun _ _ => rfl
    | cons a l ih =>
      intro t ht
      rw [List.foldl_cons, List.filter_cons, ht]
      split
      · rw [List.foldl_cons]
        exact ih _ ((State.names_congr (LoadChange.judgeLiftFault t a).settles.offers).trans ht)
      · exact ih t ht
  exact h AxleId.list s rfl

end

end Sys2Proof.Machine
end

section
/-! SUPPORT. The commands of a wheel input, each as its own rule (R56 to R58). -/
namespace Sys2Proof.Machine

section
variable {s : State} {w : WheelId} {e : Nat}

theorem State.edge_invalid (h : (s.wheel w).valid = false) : s.edge w = s := if_neg (by rw [h]; simp)

theorem State.edge_first (h : (s.wheel w).valid = true) (he : (s.wheel w).lastEdge = none) :
    s.edge w = s.setWheel w { s.wheel w with lastEdge := some s.now } := by
  unfold State.edge
  dsimp only
  rw [if_pos h, he]

theorem State.edge_next (h : (s.wheel w).valid = true) (he : (s.wheel w).lastEdge = some e) :
    s.edge w = if s.now - e < 200 then s else s.wheelEvent w { s.wheel w with
      lastEdge := some s.now
      speed := min 1500 (s.settings.circumference * 36000 / (s.settings.teeth * (s.now - e))) } := by
  unfold State.edge
  dsimp only
  rw [if_pos h, he]
  rfl

theorem State.decay_next (h : (s.wheel w).valid = true) (he : (s.wheel w).lastEdge = some e) :
    s.decay w = if s.now ≤ e then s else s.wheelEvent w { s.wheel w with
      speed := min (s.wheel w).speed (s.settings.circumference * 36000 / (s.settings.teeth * (s.now - e))) } := by
  unfold State.decay
  dsimp only
  rw [h, he]
  rfl

theorem State.decay_none (h : (s.wheel w).valid = false ∨ (s.wheel w).lastEdge = none) : s.decay w = s := by
  unfold State.decay
  dsimp only
  split
  · rename_i hv he
    rcases h with h | h
    · rw [h] at hv; cases hv
    · rw [h] at he; cases he
  · rfl

theorem State.stopWheel_next (h : (s.wheel w).valid = true) (he : (s.wheel w).lastEdge = some e) :
    s.stopWheel w =
      if e + 1000000 ≤ s.now then s.wheelEvent w { s.wheel w with lastEdge := none, speed := 0 } else s := by
  unfold State.stopWheel State.reached millis
  simp [h, he]

theorem State.stopWheel_none (h : (s.wheel w).valid = false ∨ (s.wheel w).lastEdge = none) : s.stopWheel w = s := by
  unfold State.stopWheel State.reached
  rcases h with h | h <;> simp [h]

theorem State.loseWheel_eq : s.loseWheel w =
    if (s.wheel w).valid = true ∧ (s.wheel w).sound = false ∧ (s.wheel w).wireSince + 20000 ≤ s.now then
      s.wheelEvent w { s.wheel w with valid := false, speed := 0, lastEdge := none }
    else s := by
  unfold State.loseWheel millis
  simp only [Bool.and_eq_true, Bool.not_eq_true', decide_eq_true_eq, and_assoc, Nat.reduceMul]

theorem State.regainWheel_eq : s.regainWheel w =
    if (s.wheel w).valid = false ∧ (s.wheel w).sound = true ∧ (s.wheel w).wireSince + 500000 ≤ s.now then
      s.wheelEvent w { s.wheel w with valid := true, speed := 0, lastEdge := none }
    else s := by
  unfold State.regainWheel millis
  simp only [Bool.and_eq_true, Bool.not_eq_true', decide_eq_true_eq, and_assoc, Nat.reduceMul]

end

/-! ### The parts of the statement -/

section
variable {s t : State} {v : Nat} {w : WheelId} {x : WheelInput}

/-- R60: the reference speed is the largest of its wheels. -/
theorem State.formedReference_largest (s : State) :
    (∀ w ∈ s.referenceSet, (s.wheel w).speed ≤ s.formedReference) ∧
    (s.referenceSet ≠ [] → ∃ w ∈ s.referenceSet, (s.wheel w).speed = s.formedReference) ∧
    (s.referenceSet = [] → s.formedReference = 0) ∧
    (∀ w, w ∈ s.referenceSet ↔ (s.wheel w).valid = true ∧ ∃ a, (s.axle a).layout.present = true ∧
      (s.axle a).lift = .down ∧ ((s.axle a).layout.left = some w ∨ (s.axle a).layout.right = some w)) :=
  ⟨fun _ => State.le_formedReference, State.formedReference_mem, State.formedReference_empty,
    fun _ => State.mem_referenceSet⟩

theorem Mode.runOn_eq {m n : Mode} (h : m.runOn = n.runOn) :
    m.power = n.power ∧ m.awaited = n.awaited ∧ m.runOnSince = n.runOnSince := by
  simpa [Mode.runOn] using h

/-- R61: the measurement of STANDSTILL runs below 5 until the part stands. -/
theorem State.belowFrom_none (h : 5 ≤ s.inputs.reference ∨ s.inputs.motion = .standstill) : s.belowFrom = none := by
  refine if_neg ?_
  rintro ⟨hv, hm⟩
  rcases h with h | h
  · omega
  · rw [motionAt_slow hv, if_pos h] at hm
    exact hm rfl

theorem State.belowFrom_some (hv : s.inputs.reference < 5) (hm : s.inputs.motion ≠ .standstill) :
    s.belowFrom = some (s.inputs.belowSince.getD s.now) :=
  if_pos ⟨hv, by rw [motionAt_slow hv, if_neg hm]; decide⟩

/-- R61, R152, R154: the motion state and the power state at a new reference speed. -/
theorem State.followReference_follows (h : s.formedReference ≠ s.inputs.reference) (hv : v = s.formedReference)
    (ht : t = s.followReference) : t.inputs.motion = motionAt s.inputs.motion v ∧
    (5 ≤ v ∨ s.inputs.motion = .standstill → t.inputs.belowSince = none) ∧
    (v < 5 → s.inputs.motion ≠ .standstill → t.inputs.belowSince = some (s.inputs.belowSince.getD s.now)) ∧
    (s.inputs.motion = .moving ∨ v ≤ 20 → t.mode.power = s.mode.power ∧ t.mode.awaited = s.mode.awaited ∧
      t.mode.runOnSince = s.mode.runOnSince) ∧
    (s.inputs.motion ≠ .moving → 20 < v →
      (s.mode.power = .awake → t.mode.power = .awake ∧ t.mode.awaited = s.mode.awaited) ∧
      (s.mode.power = .runOn → t.mode.power = .awake ∧ t.mode.awaited = true ∧ t.mode.runOnSince = none) ∧
      (s.mode.power = .watch → t.mode.power = .awake ∧ t.mode.awaited = !s.mode.wakeTaken ∧
        t.mode.runOnSince = none)) := by
  obtain ⟨hi, hm⟩ := State.followReference_spec h
  rw [← ht, ← hv] at hi hm
  have hb : t.inputs.belowSince = (s.setInputs { s.inputs with reference := v }).belowFrom := by rw [hi]
  refine ⟨by rw [hi], fun hv => ?_, fun hv hs => ?_, fun hk => ?_, fun hn hv => ?_⟩
  · exact hb.trans (State.belowFrom_none hv)
  · exact hb.trans (State.belowFrom_some hv hs)
  · rw [if_neg fun hc => hk.elim hc.1 (Nat.not_le.2 hc.2)] at hm
    exact Mode.runOn_eq hm
  · rw [if_pos ⟨hn, hv⟩] at hm
    obtain ⟨h1, h2, h3⟩ := Mode.runOn_eq hm
    rw [h1, h2, h3]
    unfold Mode.atMoving
    refine ⟨fun hp => ?_, fun hp => ?_, fun hp => ?_⟩ <;> rw [hp]
    · exact ⟨hp, rfl⟩
    · exact ⟨rfl, rfl, rfl⟩
    · exact ⟨rfl, rfl, rfl⟩

/-- R59, R84: what the lift faults of a changed wheel input leave and bring. -/
theorem State.wheelEvent_judged (s u : State) (w : WheelId) (x : WheelInput) (names : AxleId → Bool)
    (faulty : AxleId → Prop)
    (hnames : ∀ a, names a = true ↔ (s.axle a).layout.left = some w ∨ (s.axle a).layout.right = some w)
    (hfaulty : ∀ a, faulty a ↔ names a = true ∧ (s.axle a).layout.present = true ∧ (s.axle a).layout.liftable = true ∧
      (s.axle a).lift = .up ∧ (s.setWheel w x).wheelTurns a = true ∧ 100 < s.inputs.reference)
    (hu : u = (AxleId.list.filter names).foldl State.judgeLiftFault (s.setWheel w x)) :
    s.wheelEvent w x =
      (if x.speed = (s.wheel w).speed ∧ x.valid = (s.wheel w).valid then s.setWheel w x else u.settle) ∧
    u.wheel w = x ∧ (∀ v, v ≠ w → u.wheel v = s.wheel v) ∧
    ((∀ a, ¬faulty a) → u = s.setWheel w x) ∧ u.inputs = (s.setWheel w x).inputs ∧
    (∀ a, faulty a → (u.axle a).lift = .lowering ∧ (u.axle a).mode = .heldDown ∧
      u.port.notices.liftFault &&& bit (a.number - 1) = bit (a.number - 1)) ∧
    ∀ a, ¬faulty a → u.axle a = s.axle a := by
  have hn : names = (s.setWheel w x).names w := by
    funext a
    rw [Bool.eq_iff_iff, hnames, State.names, Bool.or_eq_true, decide_eq_true_iff, decide_eq_true_iff]
    exact Iff.rfl
  have hj := State.judgeLiftFaults_spec ((by decide : AxleId.list.Nodup).filter names) (s.setWheel w x)
  rw [← hu] at hj
  have hf : ∀ a, faulty a ↔ a ∈ AxleId.list.filter names ∧ (s.setWheel w x).liftFaulty a = true := fun a => by
    rw [hfaulty, List.mem_filter, State.liftFaulty_iff, and_iff_right a.mem_list]
    exact Iff.rfl
  have hnone : ∀ a, ¬faulty a → a ∈ AxleId.list.filter names → (s.setWheel w x).liftFaulty a = false := fun a ha hm => by
    simpa [hm] using mt (hf a).2 ha
  have hw : ∀ v, u.wheel v = (s.setWheel w x).wheel v := fun v => by rw [State.wheel, hj.inputs]; rfl
  refine ⟨?_, by rw [hw, State.setWheel_wheel_self],
    fun v hv => by rw [hw, State.setWheel_wheel, if_neg hv], fun h => hj.none fun a => hnone a (h a),
    hj.inputs, fun a ha => ?_, fun a ha => hj.kept a (hnone a ha)⟩
  · unfold State.wheelEvent
    dsimp only
    rw [State.judgeWheelFaults_eq, ← hn, ← hu]
  · obtain ⟨hm, hl⟩ := (hf a).1 ha
    obtain ⟨h1, h2, h3⟩ := hj.taken a hm hl
    exact ⟨h1, h2, h3⟩

/-- R56 to R58: the commands of a wheel input. -/
theorem exec_wheelInput (dt : Nat) (s : State) (w : WheelId) (x : WheelInput) (hp : s.powered = true) (hx : s.wheel w = x) :
    (x.valid = false → exec (.wheelEdge dt w) s = .next (s.elapse dt)) ∧
    (x.valid = true → x.lastEdge = none → exec (.wheelEdge dt w) s =
      .next ((s.elapse dt).setWheel w { x with lastEdge := some (s.now + dt) })) ∧
    (∀ e, x.valid = true → x.lastEdge = some e →
      (s.now + dt - e < 200 → exec (.wheelEdge dt w) s = .next (s.elapse dt)) ∧
      (200 ≤ s.now + dt - e → exec (.wheelEdge dt w) s =
        .next ((s.elapse dt).wheelEvent w { x with
          lastEdge := some (s.now + dt)
          speed := min 1500 (s.settings.circumference * 36000 / (s.settings.teeth * (s.now + dt - e))) })) ∧
      (s.now + dt ≤ e → exec (.speedDecay dt w) s = .next (s.elapse dt)) ∧
      (e < s.now + dt → exec (.speedDecay dt w) s =
        .next ((s.elapse dt).wheelEvent w { x with
          speed := min x.speed (s.settings.circumference * 36000 / (s.settings.teeth * (s.now + dt - e))) })) ∧
      (e + 1000000 ≤ s.now + dt → exec (.wheelStop dt w) s =
        .next ((s.elapse dt).wheelEvent w { x with lastEdge := none, speed := 0 })) ∧
      (s.now + dt < e + 1000000 → exec (.wheelStop dt w) s = .next (s.elapse dt))) ∧
    (x.valid = false ∨ x.lastEdge = none → exec (.speedDecay dt w) s = .next (s.elapse dt) ∧
      exec (.wheelStop dt w) s = .next (s.elapse dt)) ∧
    (∀ sound, exec (.wireStateChange dt w sound) s =
      .next (if sound = x.sound then s.elapse dt
        else (s.elapse dt).setWheel w { x with sound := sound, wireSince := s.now + dt })) ∧
    (x.valid = true → x.sound = false → x.wireSince + 20000 ≤ s.now + dt → exec (.wheelInputInvalid dt w) s =
      .next ((s.elapse dt).wheelEvent w { x with valid := false, speed := 0, lastEdge := none })) ∧
    (x.valid = false ∨ x.sound = true ∨ s.now + dt < x.wireSince + 20000 →
      exec (.wheelInputInvalid dt w) s = .next (s.elapse dt)) ∧
    (x.valid = false → x.sound = true → x.wireSince + 500000 ≤ s.now + dt → exec (.wheelInputValid dt w) s =
      .next ((s.elapse dt).wheelEvent w { x with valid := true, speed := 0, lastEdge := none })) ∧
    (x.valid = true ∨ x.sound = false ∨ s.now + dt < x.wireSince + 500000 →
      exec (.wheelInputValid dt w) s = .next (s.elapse dt)) := by
  subst hx
  have hedge : exec (.wheelEdge dt w) s = .next ((s.elapse dt).edge w) := congrArg _ (State.live_on hp dt _)
  have hdecay : exec (.speedDecay dt w) s = .next ((s.elapse dt).decay w) := congrArg _ (State.live_on hp dt _)
  have hstop : exec (.wheelStop dt w) s = .next ((s.elapse dt).stopWheel w) := congrArg _ (State.live_on hp dt _)
  have hlose : exec (.wheelInputInvalid dt w) s = .next ((s.elapse dt).loseWheel w) := congrArg _ (State.live_on hp dt _)
  have hregain : exec (.wheelInputValid dt w) s = .next ((s.elapse dt).regainWheel w) := congrArg _ (State.live_on hp dt _)
  have hw : (s.elapse dt).wheel w = s.wheel w := rfl
  rw [show s.now + dt = (s.elapse dt).now from rfl, hedge, hdecay, hstop, hlose, hregain]
  refine ⟨fun hv => ?_, fun hv he => ?_, fun e hv he => ⟨fun h => ?_, fun h => ?_, fun h => ?_, fun h => ?_, fun h => ?_,
    fun h => ?_⟩, fun h => ⟨?_, ?_⟩, fun b => congrArg _ (State.live_on hp dt _), fun h1 h2 h3 => ?_, fun h => ?_,
    fun h1 h2 h3 => ?_, fun h => ?_⟩
  · rw [State.edge_invalid (by rw [hw, hv])]
  · rw [State.edge_first (by rw [hw, hv]) (by rw [hw, he]), hw]
  · rw [State.edge_next (by rw [hw, hv]) (by rw [hw, he]), if_pos h]
  · rw [State.edge_next (by rw [hw, hv]) (by rw [hw, he]), if_neg (Nat.not_lt.2 h), hw]
    rfl
  · rw [State.decay_next (by rw [hw, hv]) (by rw [hw, he]), if_pos h]
  · rw [State.decay_next (by rw [hw, hv]) (by rw [hw, he]), if_neg (Nat.not_le.2 h), hw]
    rfl
  · rw [State.stopWheel_next (by rw [hw, hv]) (by rw [hw, he]), if_pos h, hw]
  · rw [State.stopWheel_next (by rw [hw, hv]) (by rw [hw, he]), if_neg (Nat.not_le.2 h)]
  · rw [State.decay_none (s := s.elapse dt) h]
  · rw [State.stopWheel_none (s := s.elapse dt) h]
  · rw [State.loseWheel_eq, if_pos ⟨h1, h2, h3⟩, hw]
  · rw [State.loseWheel_eq, if_neg]
    rintro ⟨h1, h2, h3⟩
    rw [hw] at h1 h2 h3
    rcases h with h | h | h
    · rw [h] at h1; cases h1
    · rw [h] at h2; cases h2
    · exact absurd h3 (Nat.not_le.2 h)
  · rw [State.regainWheel_eq, if_pos ⟨h1, h2, h3⟩, hw]
  · rw [State.regainWheel_eq, if_neg]
    rintro ⟨h1, h2, h3⟩
    rw [hw] at h1 h2 h3
    rcases h with h | h | h
    · rw [h] at h1; cases h1
    · rw [h] at h2; cases h2
    · exact absurd h3 (Nat.not_le.2 h)

end

/-- Settles O60: the reference speed as the largest of a list, the motion state and the power state through what a new
reference speed makes of them, the lift faults by induction on the axles that name the input, and each command by the rule
of its input. -/
theorem wheelInputsFollowTheirEdges : Obligations.WheelInputsFollowTheirEdges := by
  refine ⟨State.formedReference_largest, fun _ _ => ⟨motionAt_fast, motionAt_middle, motionAt_slow⟩,
    fun s t v ht hv => ⟨?_, fun h => ?_, fun h => ?_⟩, State.wheelEvent_judged, exec_wheelInput⟩
  · rw [ht, State.followReference_reference, hv]
  · rw [ht, State.followReference_same (hv.symm.trans h)]
  · exact State.followReference_follows (fun hs => h (hv.trans hs)) hv ht

end Sys2Proof.Machine
end

section
/-! SUPPORT. The entry into WATCH, step by step (R40, R47, R82, R101, R115, R133, R146, R153). -/
namespace Sys2Proof.Machine

section
variable {s t : State} {a b : AxleId}

/-! ### Forced causes -/

/-- R82: no axle is lifted or about to be. -/
def State.Lowered (s : State) (a : AxleId) : Prop := (s.axle a).lift.lifted = false ∧ (s.axle a).raisePending = false

theorem State.setLift_lowered (h : s.Lowered b) : (s.setLift a .lowering).Lowered b := by
  obtain ⟨h1, -, h3⟩ := State.setLift_fields (s := s) (a := a) (x := .lowering) b
  refine ⟨?_, h1.trans h.2⟩
  rw [h3]
  split
  · rfl
  · exact h.1

theorem State.lowerAxle_lowered (h : s.Lowered b) : (s.lowerAxle a).Lowered b := by
  unfold State.lowerAxle
  split
  · exact State.setLift_lowered h
  · exact h

theorem State.lowerAxle_self (h : (s.axle a).raisePending = false) : (s.lowerAxle a).Lowered a := by
  unfold State.lowerAxle
  split
  · obtain ⟨h1, -, h3⟩ := State.setLift_fields (s := s) (a := a) (x := .lowering) a
    exact ⟨by rw [h3, if_pos rfl]; rfl, h1.trans h⟩
  · rename_i hl
    exact ⟨by simpa using hl, h⟩

theorem State.modeToAuto_lowered (h : s.Lowered b) : (s.modeToAuto a).Lowered b := by
  unfold State.modeToAuto
  split
  · unfold State.Lowered
    rw [State.setAxle_axle]
    split
    · rename_i hb
      rw [hb] at h
      exact h
    · exact h
  · exact h

theorem State.forceAxle_lowered (h : s.Lowered b) : (s.forceAxle a).Lowered b := by
  unfold State.forceAxle
  dsimp only
  have hm : State.Lowered (if (s.axle a).lift.lifted || (s.axle a).raisePending then s.modeToAuto a else s) b := by
    split
    · exact State.modeToAuto_lowered h
    · exact h
  generalize (if (s.axle a).lift.lifted || (s.axle a).raisePending then s.modeToAuto a else s) = t at hm
  refine State.lowerAxle_lowered ?_
  unfold State.Lowered
  rw [State.setAxle_axle]
  split
  · rename_i hb
    rw [hb] at hm
    exact ⟨hm.1, rfl⟩
  · exact hm

theorem State.forceAxle_self : (s.forceAxle a).Lowered a := State.lowerAxle_self (by rw [State.setAxle_axle_self])

/-- R82: a forced cause lowers every axle and clears every pending raise. -/
theorem State.forceLower_lowered (a : AxleId) : s.forceLower.Lowered a :=
  foldl_reaches (P := fun _ => True) (Q := fun t => t.Lowered a) (fun _ _ _ => trivial)
    (fun _ _ _ h => State.forceAxle_lowered h) (fun _ _ => State.forceAxle_self) a.mem_list trivial

theorem State.Lowered.lift_ne (h : s.Lowered a) : (s.axle a).lift ≠ .raising ∧ (s.axle a).lift ≠ .up := by
  have hl := h.1
  constructor <;> intro hc <;> rw [hc] at hl <;> cases hl

/-! ### The workshop and the STU -/

/-- R146: the workshop record OFF, without a step and without its demand. -/
structure State.WorkshopIdle (s : State) : Prop where
  workshop : s.mode.workshop = .off
  running : s.mode.running = none
  test : s.hasEntry .test = false

theorem State.workshopOff_idle (h : s.workshopLaw) : s.workshopOff.WorkshopIdle := by
  have hn : ∀ m : Mode, m.workshop = .off → m.running = none → (s.enterWorkshopState m).WorkshopIdle := by
    intro m h1 h2
    have ht : (if s.mode.workshop = .stepRunning then s.retireEntry .test else s).hasEntry .test = false := by
      split
      · rw [State.hasEntry_iff, State.retireEntry_entry_self]; rfl
      · exact (h ‹_›).2
    unfold State.enterWorkshopState
    dsimp only
    split
    · exact ⟨h1, h2, ht⟩
    · exact ⟨h1, h2, ht⟩
  unfold State.workshopOff
  split
  · rename_i ho
    obtain ⟨h1, h2⟩ := h (by rw [ho]; decide)
    exact ⟨ho, h1, h2⟩
  · split
    · exact hn _ rfl rfl
    · exact hn _ rfl rfl

/-- R133, R82: the STU goes IDLE and every axle is lowered, as WATCH is entered. -/
theorem State.stuIdle_forceLower (h : s.mode.running = none) :
    ((s.setStability (s.stability.quiet .idle)).retireStability).Quiet s.stuIdle.forceLower := by
  have h1 : ((s.setStability (s.stability.quiet .idle)).retireStability).Quiet s.stuIdle := State.rollEnds_lifts.quiet h
  exact h1.trans (State.forceLower_lifts.quiet (by rw [h1.apart.mode]; exact h))

/-! ### The entry into WATCH -/

/-- What the entry into WATCH has made of the part before the learn window closes. -/
structure State.Quieted (s t : State) : Prop where
  idle : t.WorkshopIdle
  power : t.mode.power = .watch
  stability : t.stability.state = .idle
  noStability : t.hasEntry .stability = false
  entries : ∀ x, x ≠ .stability → x ≠ .test → t.entry x = s.entry x
  intake : t.intake = s.intake
  lowered : ∀ a, t.Lowered a

/-- The part as the learn window closes. -/
def State.watched (s : State) : State :=
  (s.setMode { s.mode with power := .watch, runOnSince := none }).workshopOff.stuIdle.forceLower

theorem State.watched_quieted (h : s.workshopLaw) : s.Quieted s.watched := by
  have hoff := LoadChange.workshopOff (s.setMode { s.mode with power := .watch, runOnSince := none })
  have hidle : (s.setMode { s.mode with power := .watch, runOnSince := none }).workshopOff.WorkshopIdle :=
    State.workshopOff_idle h
  unfold State.watched
  generalize (s.setMode { s.mode with power := .watch, runOnSince := none }).workshopOff = t at *
  have hq := (State.stuIdle_forceLower hidle.running).apart
  have hl := fun a => State.forceLower_lowered (s := t.stuIdle) a
  generalize t.stuIdle.forceLower = u at *
  have he : ∀ x, u.entry x = (t.retireEntry .stability).entry x := fun x => by
    rw [State.entry, hq.demands]; rfl
  refine ⟨⟨?_, ?_, ?_⟩, ?_, ?_, ?_, fun x h1 h2 => ?_, ?_, hl⟩
  · rw [hq.mode]; exact hidle.workshop
  · rw [hq.mode]; exact hidle.running
  · rw [State.hasEntry_iff, he, State.retireEntry_entry_ne _ (by decide)]; exact hidle.test
  · rw [hq.mode]; exact hoff.power
  · rw [hq.stability]; rfl
  · rw [State.hasEntry_iff, he, State.retireEntry_entry_self]; rfl
  · rw [he, State.retireEntry_entry_ne _ h1, hoff.settles.offers.entries x h1 h2]; rfl
  · rw [hq.intake]; exact hoff.settles.offers.intake

/-- R47, R115: without candidates and with the valves off. -/
def State.shut (s : State) : State :=
  (s.setIntake { s.intake with candidates := [] }).setChannels { s.channels with
    records := s.channels.records.map fun (r : ChannelRecord) => { r with inlet := false, exhaust := false }
    redundancy := false }

theorem State.enterWatch_eq : s.enterWatch = (s.watched.retireEntry .digital).cancelWindow.shut := by
  unfold State.enterWatch State.watched
  dsimp only
  generalize State.cancelWindow _ = t
  rfl

/-- R40, R47, R82, R101, R115, R133, R146, R153: the part as it enters WATCH. -/
structure State.InWatch (s u : State) : Prop where
  power : u.mode.power = .watch
  workshop : u.mode.workshop = .off
  stability : u.stability.state = .idle
  noDigital : u.hasEntry .digital = false
  noStability : u.hasEntry .stability = false
  noTest : u.hasEntry .test = false
  pneumatic : u.entry .pneumatic = s.entry .pneumatic
  emergency : u.entry .emergency = s.entry .emergency
  window : u.intake.window = none
  candidates : u.intake.candidates = []
  result : ∀ w, s.intake.window = some w → u.port.notices.learnResult = some (.cancelled, w.target)
  valves : ∀ c, (u.channel c).inlet = false ∧ (u.channel c).exhaust = false
  redundancy : u.channels.redundancy = false
  lowered : ∀ a, (u.axle a).lift ≠ .raising ∧ (u.axle a).lift ≠ .up ∧ (u.axle a).raisePending = false

theorem State.enterWatch_inWatch (h : s.workshopLaw) : s.InWatch s.enterWatch := by
  have hw := State.watched_quieted h
  rw [State.enterWatch_eq]
  generalize s.watched = t at *
  have hf := (t.retireEntry .digital).cancelWindow_frame
  have hm : (t.retireEntry .digital).cancelWindow.mode = t.mode := by rw [hf]; rfl
  have hs : (t.retireEntry .digital).cancelWindow.stability = t.stability := by rw [hf]; rfl
  have hd : (t.retireEntry .digital).cancelWindow.demands = (t.retireEntry .digital).demands := by rw [hf]; rfl
  have hl : (t.retireEntry .digital).cancelWindow.loads = t.loads := State.cancelWindow_loads
  have hr : ∀ w, s.intake.window = some w →
      (t.retireEntry .digital).cancelWindow.port.notices.learnResult = some (.cancelled, w.target) := fun w hw' => by
    rw [State.cancelWindow_some (w := w) (by rw [← hw', ← hw.intake]; rfl)]
    rfl
  have hwin := State.cancelWindow_window (s := t.retireEntry .digital)
  generalize (t.retireEntry .digital).cancelWindow = u at *
  have he : ∀ x, u.entry x = (t.retireEntry .digital).entry x := fun x => by rw [State.entry, hd]; rfl
  have ho : ∀ x, x ≠ .digital → u.entry x = t.entry x := fun x hx => (he x).trans (State.retireEntry_entry_ne t hx)
  refine ⟨(congrArg Mode.power hm).trans hw.power, (congrArg Mode.workshop hm).trans hw.idle.workshop,
    (congrArg Stability.state hs).trans hw.stability, ?_, ?_, ?_, ?_, ?_, hwin, rfl, hr, fun c => ?_, rfl, fun a => ?_⟩
  · show u.hasEntry .digital = false
    rw [State.hasEntry_iff, he, State.retireEntry_entry_self]; rfl
  · show u.hasEntry .stability = false
    rw [State.hasEntry_iff, ho _ (by decide)]; exact hw.noStability
  · show u.hasEntry .test = false
    rw [State.hasEntry_iff, ho _ (by decide)]; exact hw.idle.test
  · exact (ho _ (by decide)).trans (hw.entries _ (by decide) (by decide))
  · exact (ho _ (by decide)).trans (hw.entries _ (by decide) (by decide))
  · simp [State.shut, State.channel]
  · show (u.axle a).lift ≠ .raising ∧ (u.axle a).lift ≠ .up ∧ (u.axle a).raisePending = false
    rw [State.axle, hl]
    exact ⟨(hw.lowered a).lift_ne.1, (hw.lowered a).lift_ne.2, (hw.lowered a).2⟩

end

end Sys2Proof.Machine
end

section
/-! SUPPORT. The wake line taken, and the entry into STANDSTILL (R61, R118, R152, R154). -/
namespace Sys2Proof.Machine

/-- R152: the record as RUN-ON begins. -/
def Mode.runsOn (m : Mode) (now : Nat) : Mode := { m with power := .runOn, awaited := false, runOnSince := some now }

/-- R152, R154: what the wake line's level, once taken, makes of the power state. -/
def Mode.wakes (m : Mode) (stands : Bool) (now : Nat) : Mode :=
  match m.power, m.wakeRaw with
  | .awake, true => { m with wakeTaken := true, awaited := false }
  | .awake, false =>
    if stands then { m with wakeTaken := false }.runsOn now else { m with wakeTaken := false, awaited := true }
  | .runOn, true => { m with wakeTaken := true, power := .awake, runOnSince := none }
  | .watch, true => { m with wakeTaken := true, power := .awake, awaited := false, runOnSince := none }
  | _, false => { m with wakeTaken := false }

section
variable {s : State} {m : Mode} {b : Bool} {n : Nat}

theorem State.takeWake_eq : s.takeWake = s.setMode (s.mode.wakes (decide (s.inputs.motion = .standstill)) s.now) := by
  unfold State.takeWake Mode.wakes
  dsimp only
  rw [State.setMode_mode]
  dsimp only
  cases hp : s.mode.power with
  | awake =>
    cases hr : s.mode.wakeRaw with
    | true => rfl
    | false =>
      dsimp only
      rw [State.setMode_inputs]
      by_cases hm : s.inputs.motion = .standstill
      · rw [if_pos hm, if_pos (decide_eq_true hm), ← hp, ← hr]; rfl
      · rw [if_neg hm, if_neg (by simpa using hm), ← hp, ← hr]; rfl
  | runOn => cases s.mode.wakeRaw <;> rfl
  | watch => cases s.mode.wakeRaw <;> rfl

theorem Mode.wakes_wakeTaken : (m.wakes b n).wakeTaken = m.wakeRaw ∧ (m.wakes b n).workshop = m.workshop := by
  unfold Mode.wakes
  cases m.power <;> cases m.wakeRaw <;> cases b <;> exact ⟨rfl, rfl⟩

theorem Mode.wakes_high (h : m.wakeRaw = true) :
    (m.wakes b n).power = .awake ∧ ((m.wakes b n).awaited = false ∨ m.power = .runOn) := by
  unfold Mode.wakes
  rw [h]
  cases m.power with
  | awake => exact ⟨rfl, .inl rfl⟩
  | runOn => exact ⟨rfl, .inr rfl⟩
  | watch => exact ⟨rfl, .inl rfl⟩

theorem Mode.wakes_low (h : m.wakeRaw = false) (hp : m.power = .awake) : m.wakes b n =
    if b then { m with wakeTaken := false }.runsOn n else { m with wakeTaken := false, awaited := true } := by
  unfold Mode.wakes
  rw [h, hp]

theorem Mode.wakes_low_asleep (h : m.wakeRaw = false) (hp : m.power ≠ .awake) :
    m.wakes b n = { m with wakeTaken := false } := by
  unfold Mode.wakes
  rw [h]
  cases hk : m.power with
  | awake => exact absurd hk hp
  | runOn => rfl
  | watch => rfl

/-- R62, R118, R152: the entry into STANDSTILL. -/
theorem State.enterMotion_standstill : s.enterMotion .standstill =
    ((s.setInputs { s.inputs with motion := .standstill }).clearSuspensions).setMode
      (if s.mode.power = .awake ∧ s.mode.awaited = true ∧ s.mode.wakeTaken = false then s.mode.runsOn s.now
      else s.mode) := by
  have hm : (s.setInputs { s.inputs with motion := .standstill }).clearSuspensions.mode = s.mode := rfl
  unfold State.enterMotion
  dsimp only
  rw [hm]
  cases hp : s.mode.power with
  | awake =>
    cases ha : s.mode.awaited with
    | false => rfl
    | true => cases hw : s.mode.wakeTaken <;> rfl
  | runOn => rfl
  | watch => rfl

theorem State.clearSuspensions_channel (c : ChannelId) : (s.clearSuspensions.channel c).suspended = false := by
  simp [State.clearSuspensions, State.channel]

end

section
variable {s : State} {dt since : Nat}

theorem exec_wakeLineLevel (hp : s.powered = true) : exec (.wakeLineLevel dt) s =
    .next (if s.mode.wakeRaw ≠ s.mode.wakeTaken ∧ s.mode.wakeRawSince + 50000 ≤ s.now + dt then
      (s.elapse dt).takeWake.settle else s.elapse dt) := congrArg _ (State.live_on hp dt _)

theorem exec_runOnExpiry (hp : s.powered = true) : exec (.runOnExpiry dt) s =
    .next (if s.mode.power = .runOn ∧ (s.elapse dt).reached s.mode.runOnSince 60000000 = true then
      (s.elapse dt).enterWatch.settle else s.elapse dt) := congrArg _ (State.live_on hp dt _)

theorem exec_standstillMeasurement (hp : s.powered = true) : exec (.standstillMeasurement dt) s =
    .next (if s.inputs.motion = .rolling ∧ s.inputs.reference < 5 ∧
        (s.elapse dt).reached s.inputs.belowSince 2000000 = true then
      (((s.elapse dt).setInputs { s.inputs with belowSince := none }).enterMotion .standstill).settle
    else s.elapse dt) := congrArg _ (State.live_on hp dt _)

theorem State.reached_some {t : Nat} (h : since + t ≤ s.now + dt) : (s.elapse dt).reached (some since) t = true :=
  decide_eq_true h

/-- R152, R154: a level of the wake line that has stood for 50 ms. -/
theorem wakeLine_taken (hp : s.powered = true) (h1 : s.mode.wakeRaw ≠ s.mode.wakeTaken)
    (h2 : s.mode.wakeRawSince + 50000 ≤ s.now + dt) : ∃ u : State,
    exec (.wakeLineLevel dt) s = .next u.settle ∧ u = (s.elapse dt).setMode u.mode ∧
    u.mode.wakeTaken = s.mode.wakeRaw ∧ u.mode.workshop = s.mode.workshop ∧
    (s.mode.wakeRaw = true → u.mode.power = .awake ∧ (u.mode.awaited = false ∨ s.mode.power = .runOn)) ∧
    (s.mode.wakeRaw = false → s.mode.power = .awake → s.inputs.motion = .standstill →
      u.mode.power = .runOn ∧ u.mode.runOnSince = some (s.now + dt)) ∧
    (s.mode.wakeRaw = false → s.mode.power = .awake → s.inputs.motion ≠ .standstill →
      u.mode.power = .awake ∧ u.mode.awaited = true) ∧
    (s.mode.wakeRaw = false → s.mode.power ≠ .awake →
      u.mode.power = s.mode.power ∧ u.mode.runOnSince = s.mode.runOnSince) := by
  have hm : (s.elapse dt).takeWake.mode =
      s.mode.wakes (decide (s.inputs.motion = .standstill)) (s.now + dt) := by rw [State.takeWake_eq]; rfl
  refine ⟨(s.elapse dt).takeWake, ?_, ?_, ?_⟩
  · rw [exec_wakeLineLevel hp, if_pos ⟨h1, h2⟩]
  · rw [State.takeWake_eq]; rfl
  · rw [hm]
    refine ⟨Mode.wakes_wakeTaken.1, Mode.wakes_wakeTaken.2, Mode.wakes_high, fun h ha hs => ?_, fun h ha hs => ?_,
      fun h ha => ?_⟩
    · rw [Mode.wakes_low h ha, if_pos (decide_eq_true hs)]
      exact ⟨rfl, rfl⟩
    · rw [Mode.wakes_low h ha, if_neg (by simpa using hs)]
      exact ⟨ha, rfl⟩
    · rw [Mode.wakes_low_asleep h ha]
      exact ⟨rfl, rfl⟩

/-- R61, R62, R118, R152: two seconds below 5 are STANDSTILL. -/
theorem standstill_taken (hp : s.powered = true) (hm : s.inputs.motion = .rolling) (hv : s.inputs.reference < 5)
    (hs : s.inputs.belowSince = some since) (ht : since + 2000000 ≤ s.now + dt) : ∃ u : State,
    exec (.standstillMeasurement dt) s = .next u.settle ∧
    u.inputs = { s.inputs with motion := .standstill, belowSince := none } ∧
    (∀ c, (u.channel c).suspended = false) ∧ u.tyres = s.tyres ∧ u.loads = s.loads ∧ u.demands = s.demands ∧
    (s.mode.power = .awake → s.mode.awaited = true → s.mode.wakeTaken = false →
      u.mode.power = .runOn ∧ u.mode.runOnSince = some (s.now + dt)) ∧
    (s.mode.power ≠ .awake ∨ s.mode.awaited = false ∨ s.mode.wakeTaken = true → u.mode = s.mode) := by
  have hr : (s.elapse dt).reached s.inputs.belowSince 2000000 = true := by rw [hs]; exact State.reached_some ht
  refine ⟨((s.elapse dt).setInputs { s.inputs with belowSince := none }).enterMotion .standstill, ?_, ?_⟩
  · rw [exec_standstillMeasurement hp, if_pos ⟨hm, hv, hr⟩]
  · rw [State.enterMotion_standstill]
    refine ⟨rfl, fun c => State.clearSuspensions_channel c, rfl, rfl, rfl, fun h1 h2 h3 => ?_, fun h => ?_⟩
    · rw [State.setMode_mode, if_pos ⟨h1, h2, h3⟩]
      exact ⟨rfl, rfl⟩
    · rw [State.setMode_mode, if_neg]
      · rfl
      · rintro ⟨h1, h2, h3⟩
        rcases h with h | h | h
        · exact h h1
        · exact Bool.noConfusion (h.symm.trans h2)
        · exact Bool.noConfusion (h.symm.trans h3)

end

/-- Settles O56: each command by its own rule; the level of the wake line through the power state it makes, the expiry of
the run-on through the entry into WATCH taken step by step, the measurement through the entry into STANDSTILL. -/
theorem wakeLineAndRunOnAct : Obligations.WakeLineAndRunOnAct := by
  intro dt s hp
  refine ⟨fun high => congrArg _ (State.live_on hp dt _), fun h => ?_, wakeLine_taken hp, fun h => ?_,
    fun since h1 h2 h3 hw => ?_, fun since => standstill_taken hp, fun h => ?_⟩
  · rw [exec_wakeLineLevel hp, if_neg]
    rintro ⟨h1, h2⟩
    exact h.elim h1 (Nat.not_lt.2 h2)
  · rw [exec_runOnExpiry hp, if_neg]
    rintro ⟨h1, h2⟩
    exact h.elim (fun h => h h1) fun h => Bool.noConfusion (h.symm.trans h2)
  · have hr : (s.elapse dt).reached s.mode.runOnSince 60000000 = true := by rw [h2]; exact State.reached_some h3
    have k := State.enterWatch_inWatch (s := s.elapse dt) hw
    refine ⟨(s.elapse dt).enterWatch, ?_, k.power, k.workshop, k.stability, k.noDigital, k.noStability, k.noTest,
      k.pneumatic, k.emergency, k.window, k.candidates, k.result, k.valves, k.redundancy, k.lowered⟩
    rw [exec_runOnExpiry hp, if_pos ⟨h1, hr⟩]
  · rw [exec_standstillMeasurement hp, if_neg]
    rintro ⟨h1, h2, h3⟩
    rcases h with h | h | h
    · exact h h1
    · exact Nat.not_lt.2 h h2
    · exact Bool.noConfusion (h.symm.trans h3)

end Sys2Proof.Machine
end

section
/-! SUPPORT. The events of a conversion, and what each consuming unit makes of them (R51, R52, R68, R72, R91, R92, R114,
R122). -/
namespace Sys2Proof.Machine

/-! ### The input -/

section
variable {x y : AnalogInput} {v : Int} {s : State}

theorem AnalogInput.taken_valid (h : x.validity = .valid) : x.taken v true = x.averaged v := by
  unfold AnalogInput.taken
  rw [if_pos rfl, h]

theorem AnalogInput.taken_counted (h : x.validity ≠ .valid) : x.taken v true = x.counted v := by
  unfold AnalogInput.taken
  rw [if_pos rfl]
  cases hv : x.validity with
  | starting => rfl
  | valid => exact absurd hv h
  | invalid => rfl

/-- R51: what a conversion makes of an input. -/
theorem AnalogInput.taken_spec (x : AnalogInput) (v : Int) :
    (x.taken v false).validity = .invalid ∧ (x.taken v false).window = [] ∧ (x.taken v false).count = 0 ∧
    (x.taken v false).average = x.average ∧
    (x.validity = .valid → (x.taken v true).validity = .valid ∧ (x.taken v true).window = x.window.tail ++ [v] ∧
      (x.taken v true).average = some (Int.tdiv ((x.window.tail ++ [v]).sum) 4)) ∧
    (x.validity ≠ .valid → x.count ≠ 3 → (x.taken v true).validity = x.validity ∧
      (x.taken v true).window = x.window ++ [v] ∧ (x.taken v true).count = x.count + 1 ∧
      (x.taken v true).average = x.average) ∧
    (x.validity ≠ .valid → x.count = 3 → (x.taken v true).validity = .valid ∧
      (x.taken v true).average = some (Int.tdiv ((x.window ++ [v]).sum) 4)) := by
  refine ⟨rfl, rfl, rfl, rfl, fun h => ?_, fun h hc => ?_, fun h hc => ?_⟩
  · rw [AnalogInput.taken_valid h]
    exact ⟨h, rfl, rfl⟩
  · rw [AnalogInput.taken_counted h, AnalogInput.counted, if_neg (by omega)]
    exact ⟨rfl, rfl, rfl, rfl⟩
  · rw [AnalogInput.taken_counted h, AnalogInput.counted, if_pos (by omega)]
    exact ⟨rfl, rfl⟩

/-! ### The event -/

theorem State.eventOf_average (hx : x.validity = .valid) (hy : y.validity = .valid) :
    s.eventOf x y = .newAverage (y.average.getD 0) := by
  unfold State.eventOf
  rw [hx, hy]

theorem State.eventOf_becameValid (hx : x.validity ≠ .valid) (hy : y.validity = .valid) :
    s.eventOf x y = .becameValid (y.average.getD 0) := by
  unfold State.eventOf
  rw [hy]
  cases h : x.validity with
  | starting => rfl
  | valid => exact absurd h hx
  | invalid => rfl

theorem State.eventOf_lost (hx : x.validity = .valid) (hy : y.validity = .invalid) :
    s.eventOf x y = .becameInvalid s.now := by
  unfold State.eventOf
  rw [hx, hy]

theorem State.eventOf_failed (hx : x.validity = .starting) (hy : y.validity = .invalid) :
    s.eventOf x y = .becameInvalid s.startedAt := by
  unfold State.eventOf
  rw [hx, hy]

theorem State.eventOf_silent (hy : y.validity ≠ .valid) (h : x.validity = y.validity) :
    s.eventOf x y = .silent := by
  unfold State.eventOf
  rw [h]
  cases hv : y.validity with
  | starting => rfl
  | valid => exact absurd hv hy
  | invalid => rfl

theorem State.analogEvent_silent (i : AnalogId) : s.analogEvent i .silent = s := by cases i <;> rfl

end

/-! ### CTL and SUP -/

section
variable {s : State} {v : Int}

/-- R91: the PNEUMATIC entry at an average of CTL. -/
structure State.ControlTaken (s u : State) (v : Int) : Prop where
  retired : s.hasEntry .pneumatic = true → v < 10 → u.entry .pneumatic = none
  refreshed : s.hasEntry .pneumatic = true → 10 ≤ v → (u.entry .pneumatic).map Entry.demand = some (.whole v.toNat)
  absent : s.hasEntry .pneumatic = false → v < 15 → u.entry .pneumatic = none
  created : s.hasEntry .pneumatic = false → 15 ≤ v → (u.entry .pneumatic).map Entry.demand = some (.whole v.toNat)
  others : ∀ x, x ≠ .pneumatic → u.entry x = s.entry x

theorem State.entry_none {x : Source} (h : s.hasEntry x = false) : s.entry x = none := by
  simpa [State.hasEntry_iff] using h

theorem State.takeControl_taken : s.ControlTaken (s.takeControl v.toNat) v := by
  have hpost : ((s.postEntry .pneumatic (.whole v.toNat)).entry .pneumatic).map Entry.demand = some (.whole v.toNat) := by
    rw [State.postEntry_entry_self]; rfl
  unfold State.takeControl
  cases he : s.hasEntry .pneumatic with
  | true =>
    have hn : s.hasEntry .pneumatic ≠ false := by rw [he]; decide
    rw [if_pos rfl]
    by_cases hv : v.toNat < 10
    · rw [if_pos hv]
      exact ⟨fun _ _ => State.retireEntry_entry_self s _, fun _ _ => by omega, fun h => absurd h hn,
        fun h => absurd h hn, fun x hx => State.retireEntry_entry_ne s hx⟩
    · rw [if_neg hv]
      exact ⟨fun _ _ => by omega, fun _ _ => hpost, fun h => absurd h hn, fun h => absurd h hn,
        fun x hx => State.postEntry_entry_ne s _ hx⟩
  | false =>
    have hn : s.hasEntry .pneumatic ≠ true := by rw [he]; decide
    rw [if_neg (by simp)]
    by_cases hv : 15 ≤ v.toNat
    · rw [if_pos hv]
      exact ⟨fun h => absurd h hn, fun h => absurd h hn, fun _ _ => by omega, fun _ _ => hpost,
        fun x hx => State.postEntry_entry_ne s _ hx⟩
    · rw [if_neg hv]
      exact ⟨fun h => absurd h hn, fun h => absurd h hn, fun _ _ => State.entry_none he,
        fun _ _ => by omega, fun _ _ => rfl⟩

/-- R92: the EMERGENCY entry at an average of SUP. -/
structure State.SupplyTaken (s u : State) (v : Int) : Prop where
  retired : s.hasEntry .emergency = true → 500 ≤ v → u.entry .emergency = none
  kept : s.hasEntry .emergency = true → v < 500 → u.entry .emergency = s.entry .emergency
  created : s.hasEntry .emergency = false → v < 450 → (u.entry .emergency).map Entry.demand = some (.whole 1000) ∧
    ∀ a, (u.axle a).lift ≠ .raising ∧ (u.axle a).lift ≠ .up
  absent : s.hasEntry .emergency = false → 450 ≤ v → u.entry .emergency = none

theorem State.createEmergency_entry : (s.createEmergency.entry .emergency).map Entry.demand = some (.whole 1000) := by
  unfold State.createEmergency
  rw [(LoadChange.forceLower _).settles.offers.entries .emergency (by decide) (by decide), State.postEntry_entry_self]
  rfl

theorem State.takeSupply_taken : s.SupplyTaken (s.takeSupply v.toNat) v := by
  unfold State.takeSupply
  cases he : s.hasEntry .emergency with
  | true =>
    have hn : s.hasEntry .emergency ≠ false := by rw [he]; decide
    rw [if_pos rfl]
    by_cases hv : 500 ≤ v.toNat
    · rw [if_pos hv]
      exact ⟨fun _ _ => State.retireEntry_entry_self s _, fun _ _ => by omega, fun h => absurd h hn,
        fun h => absurd h hn⟩
    · rw [if_neg hv]
      exact ⟨fun _ _ => by omega, fun _ _ => rfl, fun h => absurd h hn, fun h => absurd h hn⟩
  | false =>
    have hn : s.hasEntry .emergency ≠ true := by rw [he]; decide
    rw [if_neg (by simp)]
    by_cases hv : v.toNat < 450
    · rw [if_pos hv]
      exact ⟨fun h => absurd h hn, fun h => absurd h hn,
        fun _ _ => ⟨State.createEmergency_entry, fun a => (State.forceLower_lowered a).lift_ne⟩, fun _ _ => by omega⟩
    · rw [if_neg hv]
      exact ⟨fun h => absurd h hn, fun h => absurd h hn, fun _ _ => by omega,
        fun _ _ => State.entry_none he⟩

end

/-! ### A delivered input -/

section
variable {s : State} {c : ChannelId} {pm : Nat}

theorem State.rampCap_channel : ((s.rampCap c).channel c).delivered = (s.channel c).delivered ∧
    ((s.rampCap c).channel c).inlet = (s.channel c).inlet ∧ ((s.rampCap c).channel c).exhaust = (s.channel c).exhaust ∧
    ((s.rampCap c).channel c).deliveredSince = (s.channel c).deliveredSince := by
  unfold State.rampCap
  dsimp only
  split
  · split
    · simp only [State.freeChannel, State.setChannel_channel_self]
      exact ⟨rfl, rfl, rfl, rfl⟩
    · rw [State.setChannel_channel_self]
      exact ⟨rfl, rfl, rfl, rfl⟩
  all_goals exact ⟨rfl, rfl, rfl, rfl⟩

/-- R114: the channel's record at a new average, before the reapply ramp. -/
def State.deliveredTaken (s : State) (c : ChannelId) (pm : Nat) : ChannelRecord :=
  if s.drivesValves c then ({ s.channel c with delivered := some pm }.progressed pm s.now).driven pm
  else { { s.channel c with delivered := some pm }.progressed pm s.now with inlet := false, exhaust := false }

theorem State.takeDelivered_eq : s.takeDelivered c pm = (s.setChannel c (s.deliveredTaken c pm)).rampCap c := rfl

theorem State.takeDelivered_since :
    ((s.takeDelivered c pm).channel c).deliveredSince = (s.channel c).deliveredSince := by
  rw [State.takeDelivered_eq, State.rampCap_channel.2.2.2, State.setChannel_channel_self]
  unfold State.deliveredTaken
  split <;> rfl

/-- R114: the valves at a new average. -/
theorem State.takeDelivered_driven (h : s.drivesValves c = true) :
    ((s.takeDelivered c pm).channel c).delivered = some pm ∧
    ((s.takeDelivered c pm).channel c).inlet = decide (pm + 15 < min (s.channel c).target (s.channel c).cap) ∧
    ((s.takeDelivered c pm).channel c).exhaust = decide (min (s.channel c).target (s.channel c).cap + 15 < pm) := by
  obtain ⟨h1, h2, h3, -⟩ := State.rampCap_channel (s := s.setChannel c (s.deliveredTaken c pm)) (c := c)
  rw [State.takeDelivered_eq, h1, h2, h3, State.setChannel_channel_self, State.deliveredTaken, if_pos h]
  exact ⟨rfl, rfl, rfl⟩

end

/-! ### A bellows input -/

section
variable {s : State} {g : GroupId} {v : Int}

theorem State.formLoad_valid (h : (s.group g).status = .valid) (ho : s.offered g.bellows = some v) :
    s.formLoad g = (s.setGroup g ((s.group g).loaded (s.calibration g) v)).boundGroup g := by
  unfold State.formLoad
  rw [h, ho]

/-- R68: the load at a new average of a VALID group. -/
theorem State.formLoad_load (h : (s.group g).status = .valid) (ho : s.offered g.bellows = some v) :
    ((s.group g).loaded (s.calibration g) v).SameHolds ((s.formLoad g).group g) := by
  have hb := (s.setGroup g ((s.group g).loaded (s.calibration g) v)).boundGroup_sameHolds g g
  rw [State.setGroup_group_self] at hb
  rw [State.formLoad_valid h ho]
  exact hb

/-- R81: without a HELD UP axle no bound acts. -/
theorem State.boundGroup_none (h : ∀ a, (s.axle a).mode ≠ .heldUp) : s.boundGroup g = s :=
  foldl_fixed _ fun a => if_neg fun hc => h a hc.1

theorem State.formLoad_status (h : (s.group g).status = .valid) (ho : s.offered g.bellows = some v)
    (hm : ∀ a, (s.axle a).mode ≠ .heldUp) : ((s.formLoad g).group g).status = .valid := by
  rw [State.formLoad_valid h ho, State.boundGroup_none (by exact hm), State.setGroup_group_self]
  exact h

theorem GroupRecord.entered_status (r : GroupRecord) : r.entered.status ≠ .valid := by
  unfold GroupRecord.entered
  cases h : r.status with
  | valid => simp
  | held => simp [h]
  | substituted => simp [h]

/-- R72, R73: the sensor cause arrives. -/
structure State.BellowsLost (s u : State) (g : GroupId) (since : Nat) : Prop where
  status : (u.group g).status ≠ .valid
  holdStart : (u.group g).holdStart = false
  holdSensor : (u.group g).holdSensor = true
  sensorSince : (u.group g).sensorSince = some since
  w : (u.group g).w = (s.group g).w
  l : (u.group g).l = (s.group g).l

theorem State.bellowsInvalid_lost (h : s.groupInUse g = true) (since : Nat) :
    s.BellowsLost (s.bellowsInvalid g since) g since := by
  have hw := (s.group g).entered_sameHolds
  have hs := (s.group g).entered_status
  unfold State.bellowsInvalid
  rw [if_pos h]
  refine ⟨?_, ?_, ?_, ?_, ?_, ?_⟩ <;> rw [State.setGroup_group_self]
  · exact hs
  · exact hw.w
  · exact hw.l

/-- R69, R72, R73: the sensor and start causes end. -/
structure State.BellowsBack (s u : State) (g : GroupId) (v : Int) : Prop where
  holdStart : (u.group g).holdStart = false
  holdSensor : (u.group g).holdSensor = false
  sensorSince : (u.group g).sensorSince = none
  held : (s.group g).holdTransition = true ∨ (s.group g).holdRoll = true → (u.group g).status = .held ∧
    (u.group g).w = (s.group g).w ∧ (u.group g).l = (s.group g).l
  valid : (s.group g).holdTransition = false → (s.group g).holdRoll = false →
    (u.group g).w = loadW (s.calibration g) v ∧ (u.group g).l = loadL (s.calibration g) (u.group g).w ∧
    ((∀ a, (s.axle a).mode ≠ .heldUp) → (u.group g).status = .valid)

/-- R72: the record of a group whose bellows input is back. -/
def GroupRecord.back (r : GroupRecord) : GroupRecord :=
  { r with holdStart := false, holdSensor := false, sensorSince := none }

theorem GroupRecord.back_anyHold (r : GroupRecord) : r.back.anyHold = (r.holdTransition || r.holdRoll) := by
  simp [GroupRecord.anyHold, GroupRecord.back]

theorem State.bellowsValid_eq (h : s.groupInUse g = true) : s.bellowsValid g =
    if (s.group g).back.anyHold then s.setGroup g { (s.group g).back with status := .held }
    else (s.setGroup g { (s.group g).back with status := .valid }).formLoad g := if_pos h

theorem State.bellowsValid_back (h : s.groupInUse g = true) (ho : s.offered g.bellows = some v) :
    s.BellowsBack (s.bellowsValid g) g v := by
  rw [State.bellowsValid_eq h, GroupRecord.back_anyHold]
  cases hh : (s.group g).holdTransition || (s.group g).holdRoll with
  | true =>
    have hn : ¬((s.group g).holdTransition = false ∧ (s.group g).holdRoll = false) := fun ⟨h1, h2⟩ => by
      rw [h1, h2] at hh; cases hh
    rw [if_pos rfl]
    refine ⟨?_, ?_, ?_, fun _ => ?_, fun h1 h2 => absurd ⟨h1, h2⟩ hn⟩ <;> rw [State.setGroup_group_self]
    · rfl
    · rfl
    · rfl
    · exact ⟨rfl, rfl, rfl⟩
  | false =>
    obtain ⟨hn1, hn2⟩ : (s.group g).holdTransition = false ∧ (s.group g).holdRoll = false := by simpa using hh
    rw [if_neg (by simp)]
    have hs : ((s.setGroup g { (s.group g).back with status := .valid }).group g).status = .valid := by
      rw [State.setGroup_group_self]
    have hl := State.formLoad_load hs (v := v) ho
    have hk := State.formLoad_status hs (v := v) ho
    rw [State.setGroup_group_self] at hl
    refine ⟨hl.holdStart, hl.holdSensor, hl.sensorSince, fun hc => ?_, fun _ _ => ⟨hl.w, ?_, hk⟩⟩
    · rw [hn1, hn2] at hc
      simp at hc
    · rw [hl.l, hl.w]
      rfl

end

end Sys2Proof.Machine
end

section
/-! SUPPORT. What a conversion's event leaves of the inputs, and the parts of the statement, unit by unit. -/
namespace Sys2Proof.Machine

section
variable {s t u : State} {i : AnalogId} {e : AnalogEvent} {x y : AnalogInput} {v : Int} {n : Nat}

/-! ### The inputs -/

theorem State.postEntry_setDemands (x : Source) (d : Demand) : ∃ k, s.postEntry x d = s.setDemands k := by
  unfold State.postEntry
  split <;> exact ⟨_, rfl⟩

theorem State.takeControl_setDemands : ∃ k, s.takeControl n = s.setDemands k := by
  unfold State.takeControl
  split
  · split
    · exact ⟨_, rfl⟩
    · exact State.postEntry_setDemands _ _
  · split
    · exact State.postEntry_setDemands _ _
    · exact ⟨s.demands, rfl⟩

theorem State.takeControl_same : (s.takeControl n).inputs = s.inputs ∧ (s.takeControl n).channels = s.channels := by
  obtain ⟨k, h⟩ := s.takeControl_setDemands (n := n)
  rw [h]
  exact ⟨rfl, rfl⟩

theorem State.takeSupply_inputs : (s.takeSupply n).inputs = s.inputs := by
  have hp : (s.postEntry .emergency (.whole 1000)).inputs = s.inputs := by
    obtain ⟨k, h⟩ := s.postEntry_setDemands .emergency (.whole 1000)
    rw [h]
    rfl
  unfold State.takeSupply
  split
  · split <;> rfl
  · split
    · exact (LoadChange.forceLower _).inputs.trans hp
    · rfl

theorem State.takeDelivered_analog (c : ChannelId) : (s.takeDelivered c n).inputs.analog = s.inputs.analog := by
  rw [State.takeDelivered_eq]
  exact (Steady.rampCap _ c).settles.offers.analog

theorem State.formLoad_inputs (g : GroupId) : (s.formLoad g).inputs = s.inputs := by
  unfold State.formLoad
  split
  · exact (LoadChange.foldl (fun t a => .boundHeldUp t a) _ _).inputs
  · rfl

theorem State.bellowsEvent_inputs (g : GroupId) : (s.bellowsEvent g e).inputs = s.inputs := by
  cases e with
  | newAverage v => exact State.formLoad_inputs g
  | becameValid v =>
    show (s.bellowsValid g).inputs = _
    unfold State.bellowsValid
    split
    · dsimp only
      split
      · rfl
      · exact State.formLoad_inputs g
    · rfl
  | becameInvalid n =>
    show (s.bellowsInvalid g n).inputs = _
    unfold State.bellowsInvalid
    split <;> rfl
  | silent => rfl

theorem State.deliveredEvent_analog (c : ChannelId) : (s.deliveredEvent c e).inputs.analog = s.inputs.analog := by
  cases e with
  | newAverage v => exact State.takeDelivered_analog c
  | becameValid v => exact State.takeDelivered_analog (s := s.setChannel c { s.channel c with deliveredSince := none }) c
  | becameInvalid n => rfl
  | silent => rfl

theorem State.lateralEvent_analog : (s.lateralEvent e).inputs.analog = s.inputs.analog := by
  have h := Steady.followStability s
  cases e with
  | newAverage v => exact (Steady.after (.takeLateral _ v) h).settles.offers.analog
  | becameValid v => exact (Steady.after (.takeLateral _ v) (.after (.arm _) h)).settles.offers.analog
  | becameInvalid n => rfl
  | silent => rfl

/-- R52: the event of an input changes no input. -/
theorem State.analogEvent_analog (i : AnalogId) : (s.analogEvent i e).inputs.analog = s.inputs.analog := by
  cases i with
  | ctl =>
    cases e with
    | newAverage v => exact congrArg Inputs.analog State.takeControl_same.1
    | becameValid v =>
      exact congrArg Inputs.analog
        (State.takeControl_same (s := s.setChannels { s.channels with controlSince := none })).1
    | becameInvalid n => rfl
    | silent => rfl
  | sup =>
    cases e with
    | newAverage v => exact congrArg Inputs.analog State.takeSupply_inputs
    | becameValid v => exact congrArg Inputs.analog State.takeSupply_inputs
    | becameInvalid n => rfl
    | silent => rfl
  | lat => exact State.lateralEvent_analog
  | b1 | b2 => exact congrArg Inputs.analog (State.bellowsEvent_inputs _)
  | dl | dr | dx => exact State.deliveredEvent_analog _

theorem State.setAnalog_inUse (j : AnalogId) : (s.setAnalog i y).analogInUse j = s.analogInUse j := by cases j <;> rfl

theorem State.setAnalog_offered (hu : s.analogInUse i = true) (hy : y.validity = .valid) (hv : y.average = some v) :
    (s.setAnalog i y).offered i = some v := by
  unfold State.offered
  rw [State.setAnalog_inUse, State.setAnalog_analog_self, hu, hv]
  simp [hy]

/-! ### The units -/

/-- An average that comes with a new average or a became-valid event. -/
theorem State.eventOf_valid (s : State) (x : AnalogInput) (hy : y.validity = .valid) (hv : y.average = some v) :
    s.eventOf x y = .newAverage v ∨ s.eventOf x y = .becameValid v := by
  by_cases hx : x.validity = .valid
  · rw [State.eventOf_average hx hy, hv]
    exact .inl rfl
  · rw [State.eventOf_becameValid hx hy, hv]
    exact .inr rfl

theorem State.controlEvent_taken (h : e = .newAverage v ∨ e = .becameValid v) : s.ControlTaken (s.controlEvent e) v := by
  rcases h with h | h <;> rw [h]
  · exact State.takeControl_taken
  · have k := State.takeControl_taken (s := s.setChannels { s.channels with controlSince := none }) (v := v)
    exact ⟨k.retired, k.refreshed, k.absent, k.created, k.others⟩

theorem State.supplyEvent_taken (h : e = .newAverage v ∨ e = .becameValid v) : s.SupplyTaken (s.supplyEvent e) v := by
  rcases h with h | h <;> rw [h] <;> exact State.takeSupply_taken

theorem State.analogEvent_delivered (c : ChannelId) : s.analogEvent c.delivered e = s.deliveredEvent c e := by
  cases c <;> rfl

theorem State.analogEvent_bellows (g : GroupId) : s.analogEvent g.bellows e = s.bellowsEvent g e := by cases g <;> rfl

theorem State.deliveredEvent_driven {c : ChannelId} (h : e = .newAverage v ∨ e = .becameValid v)
    (hd : s.drivesValves c = true) : ((s.deliveredEvent c e).channel c).delivered = some v.toNat ∧
    ((s.deliveredEvent c e).channel c).inlet = decide (v.toNat + 15 < min (s.channel c).target (s.channel c).cap) ∧
    ((s.deliveredEvent c e).channel c).exhaust = decide (min (s.channel c).target (s.channel c).cap + 15 < v.toNat) := by
  rcases h with h | h <;> rw [h]
  · exact State.takeDelivered_driven hd
  · have k := State.takeDelivered_driven (s := s.setChannel c { s.channel c with deliveredSince := none }) (c := c)
      (pm := v.toNat) hd
    rw [State.setChannel_channel_self] at k
    exact k

/-- R52: an input that becomes INVALID is measured from now on, or from power-on. -/
theorem State.eventOf_invalid (hx : x.validity ≠ .invalid) (hy : y.validity = .invalid) :
    s.eventOf x y = .becameInvalid (if x.validity = .valid then s.now else s.startedAt) := by
  cases h : x.validity with
  | starting => exact State.eventOf_failed h hy
  | valid => exact State.eventOf_lost h hy
  | invalid => exact absurd h hx

/-! ### The conversion -/

/-- R50, R51: the input after a conversion. -/
def State.converted (s : State) (i : AnalogId) (mv : Nat) : AnalogInput :=
  (s.analog i).taken (convertedValue i mv) (inBandReading i mv)

theorem exec_conversion (hp : s.powered = true) (dt : Nat) (i : AnalogId) (mv : Nat) : exec (.conversion dt i mv) s =
    .next (if s.analogInUse i then
      (((s.elapse dt).setAnalog i (s.converted i mv)).analogEvent i
        ((s.elapse dt).eventOf (s.analog i) (s.converted i mv))).settle
    else (s.elapse dt).setAnalog i (s.converted i mv)) := by
  have h := State.setAnalog_inUse (s := s.elapse dt) (i := i) (y := s.converted i mv) i
  rw [show s.analogInUse i = (s.elapse dt).analogInUse i by cases i <;> rfl, ← h]
  exact congrArg _ (State.live_on hp dt _)

theorem State.event_analog (i : AnalogId) (y : AnalogInput) (e : AnalogEvent) (j : AnalogId) :
    ((s.setAnalog i y).analogEvent i e).analog j = if j = i then y else s.analog j := by
  rw [State.analog, State.analogEvent_analog]
  exact State.setAnalog_analog s i j y

end

/-! ### What each unit takes -/

section
variable {s t : State} {x y : AnalogInput} {v : Int} {g : GroupId} {c : ChannelId}

theorem State.control_lost (hx : x.validity = .valid) (hy : y.validity = .invalid) :
    (t.controlEvent (s.eventOf x y)).entry .pneumatic = none ∧
    (t.controlEvent (s.eventOf x y)).channels.controlSince = some s.now := by
  rw [State.eventOf_lost hx hy]
  exact ⟨State.retireEntry_entry_self (t.setChannels { t.channels with controlSince := some s.now }) _, rfl⟩

theorem State.control_failed (hx : x.validity = .starting) (hy : y.validity = .invalid) :
    (t.controlEvent (s.eventOf x y)).channels.controlSince = some s.startedAt := by
  rw [State.eventOf_failed hx hy]
  rfl

theorem State.control_back (hx : x.validity ≠ .valid) (hy : y.validity = .valid) :
    (t.controlEvent (s.eventOf x y)).channels.controlSince = none := by
  rw [State.eventOf_becameValid hx hy]
  exact congrArg Channels.controlSince
    (State.takeControl_same (s := t.setChannels { t.channels with controlSince := none })).2

theorem State.supply_lost (hx : x.validity = .valid) (hy : y.validity = .invalid) :
    (t.supplyEvent (s.eventOf x y)).entry .emergency = none := by
  rw [State.eventOf_lost hx hy]
  exact State.retireEntry_entry_self t _

theorem State.lateral_lost (hx : x.validity ≠ .invalid) (hy : y.validity = .invalid) :
    t.lateralEvent (s.eventOf x y) = t := by
  rw [State.eventOf_invalid hx hy]
  rfl

theorem State.delivered_lost (hx : x.validity ≠ .invalid) (hy : y.validity = .invalid) :
    ((t.deliveredEvent c (s.eventOf x y)).channel c).deliveredSince =
      some (if x.validity = .valid then s.now else s.startedAt) := by
  rw [State.eventOf_invalid hx hy]
  unfold State.deliveredEvent
  dsimp only
  rw [State.setChannel_channel_self]

theorem State.delivered_back (hx : x.validity ≠ .valid) (hy : y.validity = .valid) :
    ((t.deliveredEvent c (s.eventOf x y)).channel c).deliveredSince = none := by
  rw [State.eventOf_becameValid hx hy]
  unfold State.deliveredEvent
  dsimp only
  rw [State.takeDelivered_since, State.setChannel_channel_self]

theorem State.drivesValves_of (h1 : s.channels.mode = .electronic) (h2 : s.mode.power ≠ .watch)
    (ho : s.offered c.delivered = some v) : s.drivesValves c = true := by
  unfold State.drivesValves State.pressureOf
  simp [h1, h2, ho]

theorem State.bellows_lost (hu : t.groupInUse g = true) (hx : x.validity = .valid) (hy : y.validity = .invalid) :
    t.BellowsLost (t.bellowsEvent g (s.eventOf x y)) g s.now := by
  rw [State.eventOf_lost hx hy]
  exact State.bellowsInvalid_lost hu _

theorem State.bellows_failed (hu : t.groupInUse g = true) (hx : x.validity = .starting) (hy : y.validity = .invalid) :
    t.BellowsLost (t.bellowsEvent g (s.eventOf x y)) g s.startedAt := by
  rw [State.eventOf_failed hx hy]
  exact State.bellowsInvalid_lost hu _

theorem State.bellows_back (hu : t.groupInUse g = true) (ho : t.offered g.bellows = some v) (hx : x.validity ≠ .valid)
    (hy : y.validity = .valid) : t.BellowsBack (t.bellowsEvent g (s.eventOf x y)) g v := by
  rw [State.eventOf_becameValid hx hy]
  exact State.bellowsValid_back hu ho

theorem State.bellows_average (hs : (t.group g).status = .valid) (ho : t.offered g.bellows = some v)
    (hx : x.validity = .valid) (hy : y.validity = .valid) :
    ((t.group g).loaded (t.calibration g) v).SameHolds ((t.bellowsEvent g (s.eventOf x y)).group g) := by
  rw [State.eventOf_average hx hy]
  exact State.formLoad_load hs ho

end

/-- Settles O59: the averaging rule case by case; and of a conversion, the event between the two states of the input, taken
by each unit's own rule. -/
theorem conversionsAreTaken : Obligations.ConversionsAreTaken := by
  refine ⟨AnalogInput.taken_spec, fun dt s i mv after hp hafter => ?_⟩
  have hexec := exec_conversion hp dt i mv
  rw [State.converted, ← hafter] at hexec
  refine ⟨fun hn => by rw [hexec, hn]; rfl, fun hu => ?_⟩
  rw [if_pos hu] at hexec
  have hself := fun j => State.event_analog (s := s.elapse dt) i after ((s.elapse dt).eventOf (s.analog i) after) j
  have hof : ∀ {v}, after.validity = .valid → after.average = some v →
      ((s.elapse dt).setAnalog i after).offered i = some v :=
    State.setAnalog_offered (s := s.elapse dt) (by cases i <;> exact hu)
  have hev : ∀ {v}, after.validity = .valid → after.average = some v →
      (s.elapse dt).eventOf (s.analog i) after = .newAverage v ∨
        (s.elapse dt).eventOf (s.analog i) after = .becameValid v := State.eventOf_valid _ _
  have hg : ∀ g, i = g.bellows → ((s.elapse dt).setAnalog i after).groupInUse g = true := fun g hi => by
    rw [hi, State.analogInUse_bellows] at hu
    exact hu
  refine ⟨_, hexec, by rw [hself, if_pos rfl], fun j hj => by rw [hself, if_neg hj]; rfl, ?_, ?_, ?_, ?_, ?_, ?_, ?_, ?_,
    ?_, ?_, ?_, ?_, ?_, ?_, ?_, ?_⟩
  · intro hx hy hxy
    rw [State.eventOf_silent hy hxy, State.analogEvent_silent]
  · rintro rfl v hy hv
    have k := State.controlEvent_taken (s := (s.elapse dt).setAnalog .ctl after) (hev hy hv)
    exact ⟨k.retired, k.refreshed, k.absent, k.created, k.others⟩
  · rintro rfl hx hy
    exact State.control_lost hx hy
  · rintro rfl hx hy
    exact State.control_failed hx hy
  · rintro rfl hx hy
    exact State.control_back hx hy
  · rintro rfl hx hy
    exact State.lateral_lost hx hy
  · rintro a rfl hy ha
    refine ⟨fun hx => ?_, fun hx => ?_⟩
    · rw [State.eventOf_average hx hy, ha]; rfl
    · rw [State.eventOf_becameValid hx hy, ha]; rfl
  · rintro rfl v hy hv
    have k := State.supplyEvent_taken (s := (s.elapse dt).setAnalog .sup after) (hev hy hv)
    exact ⟨k.retired, k.kept, k.created, k.absent⟩
  · rintro rfl hx hy
    exact State.supply_lost hx hy
  · rintro c rfl hx hy
    rw [State.analogEvent_delivered]
    exact State.delivered_lost hx hy
  · rintro c rfl hx hy
    rw [State.analogEvent_delivered]
    exact State.delivered_back hx hy
  · rintro c pm rfl hy hv - hm hw
    rw [State.analogEvent_delivered]
    exact State.deliveredEvent_driven (hev hy hv) (State.drivesValves_of hm hw (hof hy hv))
  · rintro g v rfl hx hy hv hs
    rw [State.analogEvent_bellows]
    have k := State.bellows_average (s := s.elapse dt) (t := (s.elapse dt).setAnalog g.bellows after) hs (hof hy hv) hx hy
    exact ⟨k.w, by rw [k.l, k.w]; rfl⟩
  · rintro g rfl hx hy
    rw [State.analogEvent_bellows]
    have k := State.bellows_lost (s := s.elapse dt) (hg g rfl) hx hy
    exact ⟨k.status, k.holdSensor, k.sensorSince, k.w, k.l⟩
  · rintro g rfl hx hy
    rw [State.analogEvent_bellows]
    have k := State.bellows_failed (s := s.elapse dt) (hg g rfl) hx hy
    exact ⟨k.status, k.holdStart, k.holdSensor, k.sensorSince⟩
  · rintro g v rfl hx hy hv
    rw [State.analogEvent_bellows]
    have k := State.bellows_back (s := s.elapse dt) (hg g rfl) (hof hy hv) hx hy
    exact ⟨k.holdStart, k.holdSensor, k.sensorSince, k.held, k.valid⟩

end Sys2Proof.Machine
end

section
/-! SUPPORT. What a change leaves of the brake mode, the power state and the motion state, before it is settled and once it
is settled (R61, R76, R82, R123, R152, R154). -/
namespace Sys2Proof.Machine

/-! ### The relations -/

/-- The part stands in WATCH or in MOVING exactly where it did, and in WATCH no raise becomes pending or due. -/
structure State.Poised (s t : State) : Prop where
  watch : t.mode.power = .watch ↔ s.mode.power = .watch
  moving : t.inputs.motion = .moving ↔ s.inputs.motion = .moving
  noRaise : s.mode.power = .watch → s.NoRaise → t.NoRaise

/-- The brake mode and the cause in its record stay. -/
structure State.SameBrakes (s t : State) : Prop where
  mode : t.channels.mode = s.channels.mode
  cause : t.channels.cause = s.channels.cause

/-- A change before it is settled leaves the brake mode, the power state and the motion state. -/
structure State.Held (s t : State) : Prop where
  poised : s.Poised t
  brakes : s.SameBrakes t

/-- R152, R154: WATCH is not entered, and is left by an entry into MOVING alone. -/
structure State.Stays (s t : State) : Prop where
  entered : t.mode.power = .watch → s.mode.power = .watch
  woken : s.asleepLaw → s.mode.power = .watch → t.mode.power ≠ .watch →
    s.inputs.motion ≠ .moving ∧ t.inputs.motion = .moving

/-- A settled change leaves the brake mode, and WATCH but for an entry into MOVING. -/
structure State.Roams (s t : State) : Prop where
  stays : s.Stays t
  brakes : s.SameBrakes t

section
variable {s t u : State}

theorem State.Poised.refl (s : State) : s.Poised s := ⟨Iff.rfl, Iff.rfl, fun _ => id⟩

theorem State.Poised.after (k : t.Poised u) (h : s.Poised t) : s.Poised u :=
  ⟨k.watch.trans h.watch, k.moving.trans h.moving, fun hw => k.noRaise (h.watch.2 hw) ∘ h.noRaise hw⟩

theorem State.SameBrakes.refl (s : State) : s.SameBrakes s := ⟨rfl, rfl⟩

theorem State.SameBrakes.after (k : t.SameBrakes u) (h : s.SameBrakes t) : s.SameBrakes u :=
  ⟨k.mode.trans h.mode, k.cause.trans h.cause⟩

theorem State.SameBrakes.of_settles (h : Settles s t) : s.SameBrakes t := ⟨h.offers.brakeMode, h.offers.cause⟩

theorem State.Held.refl (s : State) : s.Held s := ⟨.refl s, .refl s⟩

theorem State.Held.after (k : t.Held u) (h : s.Held t) : s.Held u := ⟨.after k.poised h.poised, .after k.brakes h.brakes⟩

theorem State.Held.ite {c : Prop} [Decidable c] (h : c → s.Held t) (k : ¬c → s.Held u) :
    s.Held (if c then t else u) := by
  split
  · exact h ‹_›
  · exact k ‹_›

theorem State.Held.foldl {α : Type} {f : State → α → State} (hf : ∀ (t : State) a, t.Held (f t a)) (l : List α) :
    s.Held (l.foldl f s) :=
  State.foldl_keeps (P := fun t => s.Held t) (fun t a ht => .after (hf t a) ht) l (.refl s)

/-- A change of the records of other units. -/
theorem State.Held.same (hc : t.channels = s.channels) (hm : t.mode.power = s.mode.power) (hi : t.inputs = s.inputs)
    (hl : t.loads = s.loads) : s.Held t :=
  ⟨⟨by rw [hm], by rw [hi], fun _ => .of_loads hl⟩, ⟨by rw [hc], by rw [hc]⟩⟩

theorem State.Held.of_settles (h : Settles s t) (a : s.Aside t) : s.Held t :=
  ⟨⟨by rw [a.power], by rw [a.motion], fun _ => a.noRaise⟩, .of_settles h⟩

theorem State.Held.of_load (h : LoadChange s t) (hn : s.mode.power = .watch → s.NoRaise → t.NoRaise) : s.Held t :=
  ⟨⟨by rw [h.power], by rw [h.inputs], hn⟩, .of_settles h.settles⟩

theorem State.Held.of_lifts (h : LoadChange s t) (a : s.Aside t) : s.Held t := .of_settles h.settles a

theorem State.Held.setAxle {a : AxleId} {r : AxleRecord} (hr : (s.axle a).raisePending = false → r.raisePending = false) :
    s.Held (s.setAxle a r) := ⟨⟨Iff.rfl, Iff.rfl, fun _ h => h.setAxle hr⟩, rfl, rfl⟩

theorem State.Held.setGroup {g : GroupId} {r : GroupRecord} (hr : (s.group g).raiseDue = false → r.raiseDue = false) :
    s.Held (s.setGroup g r) := ⟨⟨Iff.rfl, Iff.rfl, fun _ h => h.setGroup hr⟩, rfl, rfl⟩

theorem State.Held.setLift (a : AxleId) (x : LiftState) : s.Held (s.setLift a x) :=
  .of_load (.setLift s a x) fun _ => State.NoRaise.setLift a x

theorem State.Held.setChannel (c : ChannelId) (r : ChannelRecord) : s.Held (s.setChannel c r) :=
  ⟨⟨Iff.rfl, Iff.rfl, fun _ => id⟩, rfl, rfl⟩

theorem State.Stays.before (k : u.Stays t) (h : s.Poised u) : s.Stays t := by
  refine ⟨fun ht => h.watch.1 (k.entered ht), fun ha hs ht => ?_⟩
  have hu : u.asleepLaw := fun _ => h.noRaise hs (ha hs)
  obtain ⟨h1, h2⟩ := k.woken hu (h.watch.2 hs) ht
  exact ⟨mt h.moving.2 h1, h2⟩

theorem State.Stays.after (k : t.Poised u) (h : s.Stays t) : s.Stays u := by
  refine ⟨fun hu => h.entered (k.watch.1 hu), fun ha hs hu => ?_⟩
  obtain ⟨h1, h2⟩ := h.woken ha hs (mt k.watch.2 hu)
  exact ⟨h1, k.moving.2 h2⟩

theorem State.Poised.stays (h : s.Poised t) : s.Stays t := ⟨h.watch.1, fun _ hs ht => absurd (h.watch.2 hs) ht⟩

theorem State.Held.roams (h : s.Held t) : s.Roams t := ⟨h.poised.stays, h.brakes⟩

theorem State.Roams.refl (s : State) : s.Roams s := (State.Held.refl s).roams

theorem State.Roams.before (k : u.Roams t) (h : s.Held u) : s.Roams t := ⟨k.stays.before h.poised, .after k.brakes h.brakes⟩

theorem State.Roams.after (k : t.Held u) (h : s.Roams t) : s.Roams u := ⟨.after k.poised h.stays, .after k.brakes h.brakes⟩

/-! ### A settled change -/

/-- R76, R82: where no raise is pending or due, a round moves neither the motion state nor the power state once the
reference speed is formed. -/
theorem State.NoRaise.round (h : s.followReference.NoRaise) : s.followReference.Aside s.round := by
  have h1 : s.followReference.Aside s.followReference.followSupply.testAllTyres :=
    .after .testAllTyres .followSupply
  have h2 : s.followReference.Aside
      s.followReference.followSupply.testAllTyres.followDemands.followSlips.followStability :=
    .after .followStability (.after .followSlips (.after .followDemands h1))
  rw [State.round_eq]
  generalize s.followReference.followSupply.testAllTyres.followDemands.followSlips.followStability = t at *
  have h3 : s.followReference.Aside t.followDemands.followReadiness.followBand :=
    .after .followBand (.after .followReadiness (.after .followDemands h2))
  exact .after .followAllValves (.after (State.NoRaise.followLifts (h3.noRaise h)) h3)

/-- R60: what leaves the axles and the wheels leaves the reference speed formed. -/
theorem State.followReference_still (hf : s.inputs.reference = s.formedReference) (ha : s.Aside t) (ho : Settles s t) :
    t.followReference = t :=
  State.followReference_same (by rw [ho.offers.formedReference ha.down, ha.reference, hf])

/-- A further round of a change whose reference speed is formed. -/
theorem State.NoRaise.furtherRound (h : s.NoRaise) (hf : s.inputs.reference = s.formedReference) (ha : s.Aside t)
    (ho : Settles s t) : s.Aside t.round ∧ Settles s t.round := by
  have hs := State.followReference_still hf ha ho
  have hr : t.followReference.Aside t.round := State.NoRaise.round (by rw [hs]; exact ha.noRaise h)
  rw [hs] at hr
  exact ⟨.after hr ha, .after (.round t) ho⟩

theorem State.settle_aside (h : s.NoRaise) : s.followReference.Aside s.settle := by
  have hn := State.followReference_down.2 h
  have hf := State.followReference_formed (s := s)
  have a1 : s.followReference.Aside s.round := State.NoRaise.round hn
  have o1 : Settles s.followReference s.round :=
    .after (Steady.roundEnd _).settles (.after (.followDemands _) (.after (Steady.roundMiddle _).settles
      (.after (.followDemands _) (.after (LoadChange.testAllTyres _).settles (Steady.followSupply _).settles))))
  obtain ⟨a2, o2⟩ := State.NoRaise.furtherRound hn hf a1 o1
  obtain ⟨a3, o3⟩ := State.NoRaise.furtherRound hn hf a2 o2
  have hs := State.followReference_still hf a3 o3
  rw [State.settle_eq, State.close, hs]
  exact .after (.setNotices _) (.after .arm (.after .followDemands (.after .followDemands a3)))

/-- R152, R154: a settled change leaves WATCH only as the reference speed enters MOVING. -/
theorem State.settle_roams (s : State) : s.Roams s.settle := by
  have h := Settles.settle s
  refine ⟨⟨h.watch, fun ha hs ht => ?_⟩, .of_settles h⟩
  have k := State.settle_aside (ha hs)
  rw [k.power] at ht
  rw [k.motion]
  by_cases hf : s.formedReference = s.inputs.reference
  · rw [State.followReference_same hf] at ht
    exact absurd hs ht
  · obtain ⟨hi, hm⟩ := State.followReference_spec hf
    split at hm
    · rename_i hc
      exact ⟨hc.1, by rw [hi]; exact motionAt_fast hc.2⟩
    · exact absurd ((Mode.runOn_eq hm).1.trans hs) ht

theorem State.Held.settle (h : s.Held t) : s.Roams t.settle := (State.settle_roams t).before h

end

end Sys2Proof.Machine
end

section
/-! SUPPORT. The operations of the commands before they settle: none of them moves the brake mode or the power state. -/
namespace Sys2Proof.Machine

section
variable {s t u : State}

/-! ### The wheel position table and the Telegram Intake -/

theorem State.Held.of_onlyTyres (h : s.OnlyTyres t) : s.Held t := by
  rw [h]
  exact .same rfl rfl rfl rfl

theorem State.Held.of_onlyTyresAndIntake (h : s.OnlyTyresAndIntake t) : s.Held t := by
  rw [h]
  exact .same rfl rfl rfl rfl

theorem State.Held.of_pairsOnly (h : s.PairsOnly t) : s.Held t := by
  rw [h]
  exact .same rfl rfl rfl rfl

theorem State.Held.setPosition (p : Position) (r : PositionRecord) : s.Held (s.setPosition p r) := .same rfl rfl rfl rfl

theorem State.Held.setIntake (x : Intake) : s.Held (s.setIntake x) := .same rfl rfl rfl rfl

theorem State.Held.setNotices (x : Notices) : s.Held (s.setNotices x) := .same rfl rfl rfl rfl

theorem State.Held.setSettings (x : Settings) : s.Held (s.setSettings x) := .same rfl rfl rfl rfl

theorem State.Held.setStore (x : Store) : s.Held (s.setStore x) := .same rfl rfl rfl rfl

theorem State.Held.setPort (x : Port) : s.Held (s.setPort x) := .same rfl rfl rfl rfl

theorem State.Held.setDemands (x : Demands) : s.Held (s.setDemands x) := .same rfl rfl rfl rfl

theorem State.Held.evaluate (p : Position) : s.Held (s.evaluate p) := .of_onlyTyres (s.evaluate_onlyTyres p)

theorem State.Held.evaluateOffering (p : Position) : s.Held (s.evaluateOffering p) :=
  .ite (fun _ => .evaluate p) fun _ => .after (.of_lifts (.testAllTyres _) .testAllTyres) (.evaluate p)

theorem State.Held.cancelWindow : s.Held s.cancelWindow := .of_onlyTyresAndIntake State.cancelWindow_onlyTyresAndIntake

theorem State.Held.retirePosition (p : Position) : s.Held (s.retirePosition p) :=
  .of_onlyTyresAndIntake (State.retirePosition_onlyTyresAndIntake p)

theorem State.Held.fallSilent (p : Position) : s.Held (s.fallSilent p) :=
  .ite (fun _ => .after (.of_onlyTyres (State.comparePairOf_onlyTyres p)) (.after (.setNotices _) (.setPosition p _)))
    fun _ => .refl s

theorem State.Held.enterWorkshopState {m : Mode} (h : m.power = s.mode.power) : s.Held (s.enterWorkshopState m) := by
  unfold State.enterWorkshopState
  split <;> split <;> exact .same rfl h rfl rfl

theorem State.Held.stepDone : s.Held s.stepDone := .enterWorkshopState rfl

theorem State.Held.stepFaults (c : StepFault) : s.Held (s.stepFaults c) := .enterWorkshopState rfl

theorem State.Held.reportTelegram (p : Position) : s.Held (s.reportTelegram p) := by
  unfold State.reportTelegram
  split
  · exact .ite (fun _ => .stepDone) fun _ => .refl s
  · exact .refl s

theorem State.Held.noteDuplicate (t : Telegram) : s.Held (s.noteDuplicate t) := by
  rw [s.noteDuplicate_frame t]
  exact .setNotices _

theorem State.Held.noteReady (c d : Candidate) : s.Held (s.noteReady c d) := .ite (fun _ => .setNotices _) fun _ => .refl s

theorem State.Held.takeCandidate (k : SensorKind) (t : Telegram) : s.Held (s.takeCandidate k t) := by
  unfold State.takeCandidate
  split
  · split
    · exact .after (.noteReady _ _) (.setIntake _)
    · exact .refl s
  · exact .after (.noteReady _ _) (.setIntake _)

theorem State.Held.takeTrigger (w : LearnWindow) (k : SensorKind) (t : Telegram) : s.Held (s.takeTrigger w k t) := by
  unfold State.takeTrigger
  split
  · exact .setIntake _
  · exact .ite (fun _ => .setIntake _) fun _ => .after (.setNotices _) (.setIntake _)

theorem State.Held.takeBound (p : Position) (t : Telegram) : s.Held (s.takeBound p t) :=
  .after (.noteDuplicate t) (.after (.reportTelegram p) (.after (.evaluate p) (.setPosition p _)))

theorem State.Held.takeTest (t : Telegram) : s.Held (s.takeTest t) := by
  unfold State.takeTest
  refine .ite (fun _ => ?_) fun _ => .refl s
  split
  · exact .after (.reportTelegram _) (.setPosition _ _)
  · exact .refl s

theorem State.Held.takeUnbound (k : SensorKind) (t : Telegram) : s.Held (s.takeUnbound k t) := by
  unfold State.takeUnbound
  split
  · exact .takeTrigger _ k t
  all_goals exact .ite (fun _ => .refl s) fun _ => .takeCandidate k t

theorem State.Held.takeTelegram (t : Telegram) : s.Held (s.takeTelegram t) := by
  unfold State.takeTelegram
  split
  · exact .refl s
  · exact .takeTest t
  · split
    · exact .takeBound _ t
    · exact .refl s
  · split
    · exact .takeBound _ t
    · exact .takeUnbound _ t

theorem State.Held.confirm (w : LearnWindow) (x : Trigger) : s.Held (s.confirm w x) := by
  unfold State.confirm
  split
  · exact .after (.setNotices _) (.setIntake _)
  · exact .after (.reportTelegram _) (.after (.evaluate _) (.after (.setNotices _) (.after (.setIntake _)
      (.after (.setIntake _) (.setPosition _ _)))))

theorem State.Held.writeValues (l : List Nat) (i k : Nat) : s.Held (s.writeValues i k l).1 := by
  induction l generalizing s i k with
  | nil => exact .refl s
  | cons v l ih =>
    unfold State.writeValues
    split
    · exact .refl s
    · split
      · exact .refl s
      · exact .after (ih _ _) (.after (.evaluateOffering _) (.setPosition _ _))

/-! ### The layout and the reload -/

theorem State.Held.relaidAxles {f : AxleId → StoredAxle} (l : List AxleId) :
    s.Held (l.foldl (fun t a => t.setAxle a ((t.axle a).relaid (f a))) s) := .foldl (fun _ _ => .setAxle fun _ => rfl) l

theorem State.Held.formLoad (g : GroupId) : s.Held (s.formLoad g) := .of_lifts (.formLoad s g) (.formLoad g)

theorem State.Held.boundGroup (g : GroupId) : s.Held (s.boundGroup g) := .of_lifts (.boundGroup s g) (.boundGroup g)

theorem State.Held.groupEnters (g : GroupId) : s.Held (s.groupEnters g) := by
  unfold State.groupEnters
  dsimp only
  split
  · exact .after (.formLoad g) (.setGroup fun _ => rfl)
  · exact .setGroup fun _ => rfl
  · exact .setGroup fun _ => rfl

theorem State.Held.followTransition (g : GroupId) : s.Held (s.followTransition g) :=
  .of_load (.followTransition s g) fun _ h =>
    ⟨fun a => by rw [State.axle, State.followTransition_axles]; exact h.1 a,
      fun k => (State.followTransition_sameHolds g k).raiseDue.trans (h.2 k)⟩

theorem State.Held.regroup (old : PerAxle AxleRecord) (g : GroupId) : s.Held (s.regroup old g) := by
  unfold State.regroup
  refine .after (.followTransition g) (.after (.of_lifts (.endRaise _ g false) (.endRaise g false))
    (.after (.setGroup id) ?_))
  exact .ite (fun _ => .ite (fun _ => .refl s) fun _ => .groupEnters g) fun _ => .setGroup fun _ => rfl

theorem State.Held.followLayout (old : PerAxle AxleRecord) : s.Held (s.followLayout old) :=
  .after (.foldl (fun _ g => .regroup old g) _) (.after (.of_pairsOnly State.deriveAllPairs_pairsOnly)
    (.of_onlyTyresAndIntake State.retireByLayout_frame))

theorem State.Held.writeLayout (x : PerAxle StoredAxle) (c n : Nat) : s.Held (s.writeLayout x c n) :=
  .after (.followLayout _) (.after (.setSettings _) (.relaidAxles AxleId.list))

theorem State.Held.lowerAxle (a : AxleId) : s.Held (s.lowerAxle a) := .of_lifts (.lowerAxle s a) (.lowerAxle a)

theorem State.Held.governReloaded (a : AxleId) : s.Held (s.governReloaded a) := by
  unfold State.governReloaded
  dsimp only
  split
  · exact .refl s
  · exact .lowerAxle a
  · exact .ite (fun _ => .refl s) fun _ => .setAxle id

theorem State.Held.reloadLayout (x : Image) : s.Held (s.reloadLayout x) :=
  .after (.followLayout _) (.after (.foldl (fun _ a => .after (.governReloaded a) (.setLift a _)) _)
    (.after (.setSettings _) (.relaidAxles AxleId.list)))

theorem State.Held.followThird (b : Bool) : s.Held (s.followThird b) := .ite (fun _ => .refl s) fun _ => .setChannel _ _

theorem State.Held.recalibrate (g : GroupId) : s.Held (s.recalibrate g) := by
  unfold State.recalibrate
  split
  · exact .formLoad g
  · exact .refl s
  · exact .after (.boundGroup g) (.setGroup id)

theorem State.Held.reload (x : Image) : s.Held (s.reload x) := by
  have h : s.Held ((s.reloadLayout x).reloadSettings x.settings) :=
    .after (.recalibrate _) (.after (.recalibrate _) (.after (.followThird _) (.after (.setSettings _) (.reloadLayout x))))
  rw [State.reload_eq]
  refine .after (.of_pairsOnly State.compareAllPairs_pairsOnly) (.after (.setIntake _) (.after ?_ h))
  exact .foldl (fun t p => .of_onlyTyres (t.reloadPosition_onlyTyres p _)) _

/-! ### Lifts and loads -/

theorem State.Held.takeMode (h : s.mode.power ≠ .watch) (a : AxleId) (m : LiftMode) : s.Held (s.takeMode a m) := by
  cases m with
  | auto => exact .setAxle fun _ => rfl
  | heldDown => exact .after (.lowerAxle a) (.setAxle fun _ => rfl)
  | heldUp =>
    have hset : s.Held (s.setAxle a { s.axle a with mode := .heldUp }) := .setAxle id
    refine .ite (fun _ => .ite (fun _ => .after (.setLift a _) hset) fun _ => ?_) fun _ => hset
    exact ⟨⟨Iff.rfl, Iff.rfl, fun hw => absurd hw h⟩, rfl, rfl⟩

theorem State.decisionsRun_awake (h : s.decisionsRun = true) : s.mode.power ≠ .watch := by
  simp only [State.decisionsRun, Bool.and_eq_true, decide_eq_true_eq] at h
  rw [h.1.1]
  decide

theorem State.Held.testRaise {g : GroupId} (h : s.mode.power ≠ .watch) : s.Held (s.testRaise g) :=
  .of_load (.testRaise s g) fun hw => absurd hw h

theorem State.Held.judgeWheelFaults (w : WheelId) : s.Held (s.judgeWheelFaults w) := by
  rw [State.judgeWheelFaults_eq]
  exact .foldl (fun t a => .of_lifts (.judgeLiftFault t a) (.judgeLiftFault a)) _

/-! ### Inputs -/

theorem State.Held.setWheel (w : WheelId) (x : WheelInput) : s.Held (s.setWheel w x) :=
  ⟨⟨Iff.rfl, Iff.rfl, fun _ => id⟩, rfl, rfl⟩

theorem State.Held.setAnalog (i : AnalogId) (x : AnalogInput) : s.Held (s.setAnalog i x) :=
  ⟨⟨Iff.rfl, Iff.rfl, fun _ => id⟩, rfl, rfl⟩

theorem State.Held.setControlSince (x : Option Nat) : s.Held (s.setChannels { s.channels with controlSince := x }) :=
  ⟨⟨Iff.rfl, Iff.rfl, fun _ => id⟩, rfl, rfl⟩

theorem State.Held.postEntry (x : Source) (d : Demand) : s.Held (s.postEntry x d) := by
  obtain ⟨k, h⟩ := s.postEntry_setDemands x d
  rw [h]
  exact .setDemands k

theorem State.Held.retireEntry (x : Source) : s.Held (s.retireEntry x) := .setDemands _

theorem State.Held.takeControl (v : Nat) : s.Held (s.takeControl v) := by
  obtain ⟨k, h⟩ := s.takeControl_setDemands (n := v)
  rw [h]
  exact .setDemands k

theorem State.Held.takeSupply (v : Nat) : s.Held (s.takeSupply v) :=
  .ite (fun _ => .ite (fun _ => .retireEntry _) fun _ => .refl s) fun _ =>
    .ite (fun _ => .after (.of_lifts (.forceLower _) .forceLower) (.postEntry _ _)) fun _ => .refl s

theorem State.Held.takeDelivered (c : ChannelId) (v : Nat) : s.Held (s.takeDelivered c v) := by
  rw [State.takeDelivered_eq]
  exact .after (.of_settles (Steady.rampCap _ c).settles (.rampCap c)) (.setChannel c _)

theorem State.Held.bellowsValid (g : GroupId) : s.Held (s.bellowsValid g) :=
  .ite (fun _ => .ite (fun _ => .setGroup id) fun _ => .after (.formLoad g) (.setGroup id)) fun _ => .refl s

theorem State.Held.bellowsInvalid (g : GroupId) (n : Nat) : s.Held (s.bellowsInvalid g n) :=
  .ite (fun _ => .setGroup fun h => (s.group g).entered_raiseDue.trans h) fun _ => .refl s

theorem State.Held.followStability : s.Held s.followStability :=
  .of_settles (Steady.followStability s).settles .followStability

theorem State.Held.takeLateral (a : Int) : s.Held (s.takeLateral a) :=
  .of_settles (Steady.takeLateral s a).settles (.takeLateral a)

theorem State.Held.controlEvent (e : AnalogEvent) : s.Held (s.controlEvent e) := by
  cases e with
  | newAverage v => exact .takeControl _
  | becameValid v => exact .after (.takeControl _) (.setControlSince _)
  | becameInvalid n => exact .after (.retireEntry _) (.setControlSince _)
  | silent => exact .refl s

theorem State.Held.supplyEvent (e : AnalogEvent) : s.Held (s.supplyEvent e) := by
  cases e with
  | newAverage v => exact .takeSupply _
  | becameValid v => exact .takeSupply _
  | becameInvalid n => exact .retireEntry _
  | silent => exact .refl s

theorem State.Held.deliveredEvent (c : ChannelId) (e : AnalogEvent) : s.Held (s.deliveredEvent c e) := by
  cases e with
  | newAverage v => exact .takeDelivered c _
  | becameValid v => exact .after (.takeDelivered c _) (.setChannel c _)
  | becameInvalid n => exact .setChannel c _
  | silent => exact .refl s

theorem State.Held.bellowsEvent (g : GroupId) (e : AnalogEvent) : s.Held (s.bellowsEvent g e) := by
  cases e with
  | newAverage v => exact .formLoad g
  | becameValid v => exact .bellowsValid g
  | becameInvalid n => exact .bellowsInvalid g n
  | silent => exact .refl s

theorem State.Held.lateralEvent (e : AnalogEvent) : s.Held (s.lateralEvent e) := by
  cases e with
  | newAverage v => exact .after (.takeLateral v) .followStability
  | becameValid v => exact .after (.takeLateral v) (.after (.of_settles (Steady.arm _).settles .arm) .followStability)
  | becameInvalid n => exact .refl s
  | silent => exact .refl s

theorem State.Held.analogEvent (i : AnalogId) (e : AnalogEvent) : s.Held (s.analogEvent i e) := by
  cases i with
  | ctl => exact .controlEvent e
  | sup => exact .supplyEvent e
  | lat => exact .lateralEvent e
  | b1 | b2 => exact .bellowsEvent _ e
  | dl | dr | dx => exact .deliveredEvent _ e

/-! ### Channels, stability and the workshop -/

theorem State.Held.stuArmed : s.Held s.stuArmed := by
  refine .after (.of_lifts (.rollEnds _) .rollEnds) ⟨⟨Iff.rfl, Iff.rfl, fun _ => id⟩, rfl, rfl⟩

theorem State.Held.setStability (x : Stability) : s.Held (s.setStability x) := .same rfl rfl rfl rfl

theorem State.Held.movePressure (v : Nat) : s.Held (s.movePressure v) :=
  .ite (fun _ => .refl s) fun _ => .after (.postEntry _ _) (.setStability _)

theorem State.Held.enterRelease (c : ChannelId) : s.Held (s.enterRelease c) :=
  .of_settles (Steady.enterRelease s c).settles (.enterRelease c)

theorem State.Held.workshopOff : s.Held s.workshopOff := .of_lifts (.workshopOff s) .workshopOff

theorem State.Held.startStep (x : Step) : s.Held (s.startStep x) := by
  cases x with
  | channelPressure c p h => exact .postEntry _ _
  | lift a raise =>
    exact .ite (fun _ => .ite (fun _ => .stepDone) fun _ => .setLift a _) fun _ =>
      .ite (fun _ => .stepDone) fun _ => .lowerAxle a
  | sensorListen q => exact .ite (fun _ => .refl s) fun _ => .stepFaults _

theorem State.Held.runStaged (x : Step) : s.Held (s.runStaged x) := .after (.startStep x) (.enterWorkshopState rfl)

end

end Sys2Proof.Machine
end

section
/-! SUPPORT. Every command but the causes: it leaves the brake mode, and WATCH but for an entry into MOVING (R123, R124,
R152, R154). -/
namespace Sys2Proof.Machine

/-! ### Commands and exchanges -/

section
variable {s : State} {dt code : Nat} {p : Params} {accepts : Nat → Bool} {own : State → State × Answer} {named : Named}

theorem State.Held.elapse (s : State) (dt : Nat) : s.Held (s.elapse dt) := .same rfl rfl rfl rfl

theorem State.live_roams {f : State → State} (hf : ∀ u : State, u.Roams (f u)) : s.Roams (s.live dt f) := by
  unfold State.live
  split
  · exact (hf _).before (.elapse s dt)
  · exact (State.Held.elapse s dt).roams

theorem State.request_roams (ho : ∀ u : State, u.Roams (own u).1) : s.Roams (s.request code p accepts own named) := by
  have h : s.Held s.clockOut.endBatch.ageDetail := .setPort _
  unfold State.request
  refine .after (.setPort _) ?_
  unfold State.answer
  split
  · exact (ho _).before h
  · exact h.roams

theorem State.gated_roams {x : State × Answer} (h : s.Roams x.1) : s.Roams (s.gated x).1 := by
  unfold State.gated
  split
  · exact h
  · exact .refl s

theorem State.withPosition_roams {i : Nat} {n m : Named} {own : Position → State × Answer}
    (h : ∀ q, s.Roams (own q).1) : s.Roams (s.withPosition i n m own).1 := by
  unfold State.withPosition
  split
  · exact .refl s
  · split
    · exact h _
    · exact .refl s

/-- An event that acts where it is due. -/
theorem State.ite_settle_roams {c : Prop} [Decidable c] {t : State} (h : c → s.Held t) :
    s.Roams (if c then t.settle else s) := by
  split
  · exact (h ‹_›).settle
  · exact .refl s

theorem State.ite_roams {c : Prop} [Decidable c] {t : State} (h : s.Held t) : s.Roams (if c then t else s) :=
  State.Held.roams (.ite (fun _ => h) fun _ => .refl s)

end

/-! ### The rules of the requests -/

section
variable {s : State} {p : Params}

theorem State.setSetpoints_roams : s.Roams (s.setSetpoints p).1 := by
  unfold State.setSetpoints
  refine State.withPosition_roams fun q => ?_
  split
  · exact .refl s
  · exact State.Held.settle (.after (.evaluate q) (.setPosition q _))

theorem State.writeSetpoints_roams : s.Roams (s.writeSetpoints p).1 := by
  unfold State.writeSetpoints
  split
  · exact .refl s
  · dsimp only
    split
    · exact State.Held.settle (.writeValues _ _ _)
    · exact State.Held.settle (.writeValues _ _ _)

theorem State.swapPositions_roams : s.Roams (s.swapPositions p).1 := by
  unfold State.swapPositions
  dsimp only
  split
  · exact .refl s
  · exact .refl s
  · split; · exact .refl s
    split; · exact .refl s
    split; · exact .refl s
    split; · exact .refl s
    split; · exact .refl s
    exact State.Held.settle (.of_onlyTyres (State.swap_onlyTyres _ _))

theorem State.adoptCandidate_roams : s.Roams (s.adoptCandidate p).1 := by
  unfold State.adoptCandidate
  refine State.withPosition_roams fun q => ?_
  split
  · exact .refl s
  · split
    · exact .refl s
    · exact State.Held.settle (.after (.evaluate q) (.after (.setIntake _) (.setPosition q _)))

theorem State.writeTyreParameters_roams : s.Roams (s.writeTyreParameters p).1 := by
  unfold State.writeTyreParameters
  split
  · exact .refl s
  · split
    · exact (State.Held.setSettings _).roams
    · exact .refl s

theorem State.beginLearn_roams : s.Roams (s.beginLearn p).1 := by
  unfold State.beginLearn
  split
  · exact .refl s
  · split; · exact .refl s
    split; · exact .refl s
    split; · exact .refl s
    split; · exact .refl s
    exact State.Held.roams (.after (.setIntake _) (.setPosition _ _))

theorem State.cancelLearn_roams : s.Roams s.cancelLearn.1 := by
  unfold State.cancelLearn
  split
  · exact State.Held.cancelWindow.roams
  · exact .refl s

theorem State.writeAxleLayout_roams : s.Roams (s.writeAxleLayout p).1 := by
  refine State.gated_roams ?_
  split
  · exact .refl s
  · split; · exact .refl s
    split; · exact .refl s
    split; · exact .refl s
    exact State.Held.settle (.writeLayout _ _ _)

theorem State.writeCalibration_roams : s.Roams (s.writeCalibration p).1 := by
  refine State.gated_roams ?_
  split
  · exact .refl s
  · dsimp only
    split
    · exact State.Held.settle (.after (.recalibrate _) (.setSettings _))
    · exact .refl s

theorem State.setLiftMode_roams : s.Roams (s.setLiftMode p).1 := by
  unfold State.setLiftMode
  split
  · split; · exact .refl s
    rename_i hw
    split; · exact .refl s
    split; · exact .refl s
    split
    · exact .refl s
    · exact State.Held.settle (.takeMode hw _ _)
  · exact .refl s

theorem State.postDemand_roams : s.Roams (s.postDemand p).1 := by
  unfold State.postDemand
  split; · exact .refl s
  split; · exact .refl s
  exact State.Held.settle (.postEntry _ _)

theorem State.writeCharacteristic_roams : s.Roams (s.writeCharacteristic p).1 := by
  refine State.gated_roams ?_
  split; · exact .refl s
  split
  · exact .refl s
  · split
    · exact .refl s
    · split
      · exact .refl s
      · exact State.Held.settle (.after (.followThird _) (.setSettings _))

theorem State.writeStability_roams : s.Roams (s.writeStability p).1 := by
  refine State.gated_roams ?_
  split
  · exact .refl s
  · split
    · exact .refl s
    · exact State.Held.settle (.setSettings _)

theorem State.enterWorkshop_roams : s.Roams s.enterWorkshop.1 := by
  unfold State.enterWorkshop
  split; · exact .refl s
  split; · exact .refl s
  split; · exact .refl s
  exact State.Held.settle (.enterWorkshopState rfl)

theorem State.leaveWorkshop_roams : s.Roams s.leaveWorkshop.1 := by
  unfold State.leaveWorkshop
  split
  · exact .refl s
  · exact State.Held.workshopOff.settle

theorem State.stageStep_roams : s.Roams (s.stageStep p).1 := by
  unfold State.stageStep
  split
  · exact .refl s
  · split
    · exact .refl s
    · exact State.Held.roams (.same rfl rfl rfl rfl)

theorem State.runStep_roams : s.Roams s.runStep.1 := by
  unfold State.runStep
  split; · exact .refl s
  split; · exact .refl s
  split
  · exact .refl s
  · split
    · exact .refl s
    · exact (State.Held.runStaged _).settle

theorem State.saveTables_roams : s.Roams s.saveTables.1 := by
  unfold State.saveTables
  split
  · exact .refl s
  · exact (State.Held.setStore _).roams

theorem State.restoreTables_roams : s.Roams s.restoreTables.1 := by
  refine State.gated_roams ?_
  split
  · exact State.Held.settle (.after (.reload _) .cancelWindow)
  · exact .refl s

theorem State.setResetPolicy_roams : s.Roams (s.setResetPolicy p).1 := by
  unfold State.setResetPolicy
  split
  · exact (State.Held.setSettings _).roams
  · exact .refl s

theorem State.readPositions_roams : s.Roams (s.readPositions p).1 := by
  unfold State.readPositions
  dsimp only
  split
  · exact .refl s
  · exact (State.Held.setPort _).roams

theorem State.setBatchSize_roams : s.Roams (s.setBatchSize p).1 := by
  unfold State.setBatchSize
  split
  · exact (State.Held.setPort _).roams
  · exact .refl s

theorem State.continueRead_roams : s.Roams s.continueRead.1 := by
  unfold State.continueRead
  split
  · exact .refl s
  · exact (State.Held.setPort _).roams
  · exact (State.Held.setPort _).roams

theorem State.readBrakeState_roams : s.Roams (s.readBrakeState p).1 := by
  unfold State.readBrakeState
  split <;> exact .refl s

theorem State.readStability_roams : s.Roams (s.readStability p).1 := by
  unfold State.readStability
  split <;> exact .refl s

theorem State.faultDetail_held : s.Held s.faultDetail.1 := by
  unfold State.faultDetail
  split
  · exact .setPort _
  · exact .refl s

theorem State.answer_roams {accepts : Nat → Bool} {own : State → State × Answer} {named : Named}
    (h : s.Roams (own s).1) : s.Roams (s.answer p accepts own named).1 := by
  unfold State.answer
  split
  · exact h
  · exact .refl s

theorem State.replyDetail_held (b : Bool) (a : Answer) : s.Held (s.replyDetail b a) :=
  .ite (fun _ => .setPort _) fun _ => .setPort _

/-! ### The rules of the events -/

theorem State.telegramArrives_roams : s.Roams s.telegramArrives := by
  unfold State.telegramArrives
  split
  · split
    · exact State.Held.settle (.after (.takeTelegram _) (.setIntake _))
    · exact (State.Held.setIntake _).roams
  · exact .refl s

theorem State.confirmDue_roams : s.Roams s.confirmDue := by
  unfold State.confirmDue
  split
  · exact .refl s
  · split
    · exact .refl s
    · exact State.ite_settle_roams fun _ => .confirm _ _

theorem State.expireDue_roams : s.Roams s.expireDue := by
  unfold State.expireDue
  split
  · exact .refl s
  · exact State.ite_roams (.after (.setNotices _) (.after (.setPosition _ _) (.setIntake _)))

theorem State.endSave_roams (b : Bool) : s.Roams (s.endSave b) := by
  unfold State.endSave
  split
  · exact .refl s
  · exact State.ite_roams (.after (.setNotices _) (.setStore _))

theorem State.convert_roams (i : AnalogId) (mv : Nat) : s.Roams (s.convert i mv) := by
  unfold State.convert
  dsimp only
  split
  · exact State.Held.settle (.after (.analogEvent i _) (.setAnalog i _))
  · exact (State.Held.setAnalog i _).roams

theorem State.wheelEvent_roams (w : WheelId) (x : WheelInput) : s.Roams (s.wheelEvent w x) := by
  unfold State.wheelEvent
  dsimp only
  split
  · exact (State.Held.setWheel w x).roams
  · exact State.Held.settle (.after (.judgeWheelFaults w) (.setWheel w x))

theorem State.edge_roams (w : WheelId) : s.Roams (s.edge w) := by
  unfold State.edge
  dsimp only
  split
  · split
    · exact (State.Held.setWheel w _).roams
    · split
      · exact .refl s
      · exact State.wheelEvent_roams w _
  · exact .refl s

theorem State.decay_roams (w : WheelId) : s.Roams (s.decay w) := by
  unfold State.decay
  dsimp only
  split
  · split
    · exact .refl s
    · exact State.wheelEvent_roams w _
  · exact .refl s

theorem State.stopWheel_roams (w : WheelId) : s.Roams (s.stopWheel w) := by
  unfold State.stopWheel
  dsimp only
  split
  · exact State.wheelEvent_roams w _
  · exact .refl s

theorem State.loseWheel_roams (w : WheelId) : s.Roams (s.loseWheel w) := by
  unfold State.loseWheel
  dsimp only
  split
  · exact State.wheelEvent_roams w _
  · exact .refl s

theorem State.regainWheel_roams (w : WheelId) : s.Roams (s.regainWheel w) := by
  unfold State.regainWheel
  dsimp only
  split
  · exact State.wheelEvent_roams w _
  · exact .refl s

/-- R61, R152: the entry into STANDSTILL from ROLLING leaves WATCH as it is. -/
theorem State.standStill_roams : s.Roams s.standStill := by
  refine State.ite_settle_roams fun h => ?_
  have hm : ∀ m : Mode, (if m.power = .awake ∧ m.awaited = true ∧ m.wakeTaken = false then m.runsOn s.now
      else m).power = .watch ↔ m.power = .watch := fun m => by
    split
    · rename_i hc
      exact iff_of_false (by simp [Mode.runsOn]) (by rw [hc.1]; decide)
    · exact Iff.rfl
  rw [State.enterMotion_standstill]
  exact ⟨⟨hm s.mode, iff_of_false (show Motion.standstill ≠ .moving by decide) (by rw [h.1]; decide),
    fun _ => id⟩, rfl, rfl⟩

theorem State.raiseFallsDue_roams (g : GroupId) : s.Roams (s.raiseFallsDue g) := by
  refine State.ite_settle_roams fun h => ?_
  have hw : s.mode.power ≠ .watch := by
    simp only [Bool.and_eq_true, State.raiseRuns] at h
    exact State.decisionsRun_awake h.1.1.1.1.1
  exact .after (.testRaise hw) ⟨⟨Iff.rfl, Iff.rfl, fun hc => absurd hc hw⟩, rfl, rfl⟩

theorem State.lowerGroup_roams (g : GroupId) : s.Roams (s.lowerGroup g) := by
  unfold State.lowerGroup
  dsimp only
  split
  · exact .refl s
  · exact State.Held.settle (.foldl (fun _ a => .lowerAxle a) _)

theorem State.stepRamp_roams : s.Roams s.stepRamp := by
  unfold State.stepRamp
  split
  · dsimp only
    split
    · exact State.Held.stuArmed.settle
    · exact (State.Held.movePressure _).settle
  · exact .refl s

theorem State.endBand_roams : s.Roams s.endBand := by
  unfold State.endBand
  split
  · exact .refl s
  · split
    · exact State.ite_settle_roams fun _ => .stepFaults _
    · exact .refl s
    · exact .refl s

theorem State.endHeld_roams : s.Roams s.endHeld := by
  unfold State.endHeld
  split
  · exact .refl s
  · split
    · exact State.ite_settle_roams fun _ => .stepDone
    · exact .refl s
    · exact .refl s

theorem State.endListen_roams : s.Roams s.endListen := by
  unfold State.endListen
  split
  · exact .refl s
  · split
    · exact State.ite_settle_roams fun _ => .stepFaults _
    · exact .refl s
    · exact .refl s

theorem State.wakeLineMoves_roams (high : Bool) : s.Roams (s.wakeLineMoves high) := by
  unfold State.wakeLineMoves
  split
  · exact .refl s
  · exact State.Held.roams (.same rfl rfl rfl rfl)

end

/-! ### Every command -/

/-- The commands that change the brake mode, enter WATCH, or leave it by another way than an entry into MOVING. -/
def isCause : Instr → Bool
  | .powerOn _ _ _ => true
  | .restart _ _ => true
  | .clearBrakeFault _ _ => true
  | .wakeLineLevel _ => true
  | .runOnExpiry _ => true
  | .inletNoRise _ _ => true
  | .exhaustNoFall _ _ => true
  | .deliveredInvalid _ _ => true
  | .controlInvalid _ => true
  | _ => false

theorem exec_roams {i : Instr} {s t : State} (hi : isCause i = false) (h : exec i s = .next t) : s.Roams t := by
  cases i <;> simp only [isCause, Bool.true_eq_false] at hi <;> cases h
  case frameError | unknownRequest => exact State.live_roams fun u => (State.Held.setPort _).roams
  case faultDetail p =>
    refine State.live_roams fun u => .after (State.replyDetail_held _ _) ?_
    exact (State.answer_roams State.faultDetail_held.roams).before (.setPort _)
  case continueRead p =>
    exact State.live_roams fun u => .after (.setPort _) ((State.answer_roams State.continueRead_roams).before (.setPort _))
  case noOperation | identify => exact State.live_roams fun u => State.request_roams fun v => .refl v
  case setResetPolicy => exact State.live_roams fun u => State.request_roams fun v => State.setResetPolicy_roams
  case fetchNotices => exact State.live_roams fun u => State.request_roams fun v => (State.Held.setNotices _).roams
  case setNoticeEnables => exact State.live_roams fun u => State.request_roams fun v => (State.Held.setSettings _).roams
  case readPosition =>
    exact State.live_roams fun u => State.request_roams fun v => State.withPosition_roams fun q => .refl v
  case findSensor | readAxle | readLoadState =>
    exact State.live_roams fun u => State.request_roams fun v => by split <;> exact .refl v
  case readPositions => exact State.live_roams fun u => State.request_roams fun v => State.readPositions_roams
  case setBatchSize => exact State.live_roams fun u => State.request_roams fun v => State.setBatchSize_roams
  case readCandidates => exact State.live_roams fun u => State.request_roams fun v => (State.Held.setPort _).roams
  case setPositionSetpoints => exact State.live_roams fun u => State.request_roams fun v => State.setSetpoints_roams
  case writeSetpoints => exact State.live_roams fun u => State.request_roams fun v => State.writeSetpoints_roams
  case swapPositions => exact State.live_roams fun u => State.request_roams fun v => State.swapPositions_roams
  case retireSensor =>
    exact State.live_roams fun u => State.request_roams fun v =>
      State.withPosition_roams fun q => (State.Held.retirePosition q).settle
  case adoptCandidate => exact State.live_roams fun u => State.request_roams fun v => State.adoptCandidate_roams
  case writeTyreParameters => exact State.live_roams fun u => State.request_roams fun v => State.writeTyreParameters_roams
  case beginLearn => exact State.live_roams fun u => State.request_roams fun v => State.beginLearn_roams
  case cancelLearn => exact State.live_roams fun u => State.request_roams fun v => State.cancelLearn_roams
  case writeAxleLayout => exact State.live_roams fun u => State.request_roams fun v => State.writeAxleLayout_roams
  case writeGroupCalibration => exact State.live_roams fun u => State.request_roams fun v => State.writeCalibration_roams
  case setLiftMode => exact State.live_roams fun u => State.request_roams fun v => State.setLiftMode_roams
  case postDemand => exact State.live_roams fun u => State.request_roams fun v => State.postDemand_roams
  case readBrakeState => exact State.live_roams fun u => State.request_roams fun v => State.readBrakeState_roams
  case writeBrakeCharacteristic =>
    exact State.live_roams fun u => State.request_roams fun v => State.writeCharacteristic_roams
  case writeStabilityParameters => exact State.live_roams fun u => State.request_roams fun v => State.writeStability_roams
  case readStabilityState => exact State.live_roams fun u => State.request_roams fun v => State.readStability_roams
  case enterWorkshop => exact State.live_roams fun u => State.request_roams fun v => State.enterWorkshop_roams
  case leaveWorkshop => exact State.live_roams fun u => State.request_roams fun v => State.leaveWorkshop_roams
  case stageStep => exact State.live_roams fun u => State.request_roams fun v => State.stageStep_roams
  case runStep => exact State.live_roams fun u => State.request_roams fun v => State.runStep_roams
  case saveTables => exact State.live_roams fun u => State.request_roams fun v => State.saveTables_roams
  case restoreTables => exact State.live_roams fun u => State.request_roams fun v => State.restoreTables_roams
  case saveEnd => exact State.live_roams fun u => State.endSave_roams _
  case telegramArrival => exact State.live_roams fun u => State.telegramArrives_roams
  case learnConfirmation => exact State.live_roams fun u => State.confirmDue_roams
  case learnWindowExpiry => exact State.live_roams fun u => State.expireDue_roams
  case ageCount => exact State.live_roams fun u => State.Held.roams (.same rfl rfl rfl rfl)
  case sensorSilent => exact State.live_roams fun u => (State.Held.fallSilent _).roams
  case candidateExpiry => exact State.live_roams fun u => (State.Held.setIntake _).roams
  case conversion => exact State.live_roams fun u => State.convert_roams _ _
  case wheelEdge => exact State.live_roams fun u => State.edge_roams _
  case speedDecay => exact State.live_roams fun u => State.decay_roams _
  case wheelStop => exact State.live_roams fun u => State.stopWheel_roams _
  case wireStateChange => exact State.live_roams fun u => State.Held.roams (.ite (fun _ => .refl u) fun _ => .setWheel _ _)
  case wheelInputInvalid => exact State.live_roams fun u => State.loseWheel_roams _
  case wheelInputValid => exact State.live_roams fun u => State.regainWheel_roams _
  case standstillMeasurement => exact State.live_roams fun u => State.standStill_roams
  case raiseDue => exact State.live_roams fun u => State.raiseFallsDue_roams _
  case raiseComplete | lowerComplete => exact State.live_roams fun u => State.ite_settle_roams fun _ => .setLift _ _
  case transitionHoldEnd =>
    exact State.live_roams fun u => State.ite_settle_roams fun _ =>
      .after (.of_lifts (.releaseGroup _ _) (.releaseGroup _)) (.setGroup id)
  case loadSubstitution =>
    exact State.live_roams fun u => State.ite_settle_roams fun _ => .after (.boundGroup _) (.setGroup id)
  case autoLower => exact State.live_roams fun u => State.lowerGroup_roams _
  case digitalTimeout =>
    exact State.live_roams fun u => State.ite_settle_roams fun _ => .after (.setNotices _) (.retireEntry _)
  case mismatchTimerExpiry => exact State.live_roams fun u => State.ite_settle_roams fun _ => .setDemands _
  case lockTimeout =>
    exact State.live_roams fun u => State.ite_settle_roams fun _ => .after (.setNotices _) (.setChannel _ _)
  case holdTimerExpiry =>
    exact State.live_roams fun u => State.ite_settle_roams fun _ => .ite (fun _ => .enterRelease _) fun _ => .setChannel _ _
  case probeTimerExpiry =>
    exact State.live_roams fun u => State.ite_settle_roams fun _ => .after (.setStability _) .stuArmed
  case rampStep => exact State.live_roams fun u => State.stepRamp_roams
  case exitMeasurement | latInvalidityMeasurement =>
    exact State.live_roams fun u => State.ite_settle_roams fun _ => .setStability _
  case bandMeasurement => exact State.live_roams fun u => State.endBand_roams
  case holdMeasurement => exact State.live_roams fun u => State.endHeld_roams
  case listenTimeout => exact State.live_roams fun u => State.endListen_roams
  case wakeLineChange => exact State.live_roams fun u => State.wakeLineMoves_roams _
  case characterReception =>
    exact State.live_roams fun u => by
      unfold State.takeCharacter
      exact State.Held.roams (.ite (fun _ => .setIntake _) fun _ => .setIntake _)
  case lossOfSupply => exact State.live_roams fun u => State.Held.roams (.same rfl rfl rfl rfl)

end Sys2Proof.Machine
end

section
/-! SUPPORT. The commands that change the brake mode, and those that enter or leave WATCH by their own (R123, R124, R152 to
R154, R172, R173). -/
namespace Sys2Proof.Machine

section
variable {s t u : State} {dt : Nat}

/-! ### FALLBACK -/

/-- R123: the brake mode goes to FALLBACK with its cause, or stays where it is; the power state is left. -/
structure State.MayFall (s t : State) (c : FallbackCause) : Prop where
  stays : s.Stays t
  brakes : s.SameBrakes t ∨ s.channels.mode = .electronic ∧ t.channels.cause = some c

theorem State.MayFall.before {c : FallbackCause} (k : u.MayFall t c) (h : s.Held u) : s.MayFall t c :=
  ⟨k.stays.before h.poised, k.brakes.imp (fun b => .after b h.brakes) fun b => ⟨h.brakes.mode.symm.trans b.1, b.2⟩⟩

theorem State.Held.stuIdle : s.Held s.stuIdle :=
  .after (.of_lifts (.rollEnds _) .rollEnds) ⟨⟨Iff.rfl, Iff.rfl, fun _ => id⟩, rfl, rfl⟩

theorem State.Held.faultPressureStep : s.Held s.faultPressureStep := by
  unfold State.faultPressureStep
  split
  · exact .refl s
  · split
    · exact .stepFaults _
    · exact .refl s
    · exact .refl s

theorem State.enterFallback_mayFall (c : FallbackCause) : s.MayFall (s.enterFallback c).settle c := by
  unfold State.enterFallback
  split
  · exact ⟨(State.settle_roams s).stays, .inl (State.settle_roams s).brakes⟩
  · rename_i hm
    generalize hx : s.setChannels { s.channels with
      records := s.channels.records.map ChannelRecord.shut, mode := .fallback, cause := some c,
      redundancy := false } = x
    have hp : s.Poised x := by
      rw [← hx]
      exact ⟨Iff.rfl, Iff.rfl, fun _ => id⟩
    have hr : x.Roams x.stuIdle.faultPressureStep.settle := State.Held.settle (.after .faultPressureStep .stuIdle)
    refine ⟨hr.stays.before hp, .inr ⟨hm, hr.brakes.cause.trans ?_⟩⟩
    rw [← hx]
    rfl

theorem State.live_mayFall {f : State → State} {c : FallbackCause} (hf : ∀ u : State, u.MayFall (f u) c) :
    s.MayFall (s.live dt f) c := by
  unfold State.live
  split
  · exact (hf _).before (.elapse s dt)
  · have h := (State.Held.elapse s dt).roams
    exact ⟨h.stays, .inl h.brakes⟩

theorem State.ite_mayFall {c : FallbackCause} {b : Prop} [Decidable b] :
    s.MayFall (if b then (s.enterFallback c).settle else s) c := by
  split
  · exact State.enterFallback_mayFall c
  · exact ⟨(State.Roams.refl s).stays, .inl (.refl s)⟩

theorem exec_causeOf {i : Instr} {c : FallbackCause} (hc : causeOf i = some c) (h : exec i s = .next t) :
    s.MayFall t c := by
  cases i <;> simp only [causeOf, reduceCtorEq, Option.some.injEq] at hc <;> cases h <;> subst hc <;>
    exact State.live_mayFall fun u => State.ite_mayFall

/-! ### Clear Brake Fault -/

/-- R124: the brake mode returns from FALLBACK, or stays where it is; the power state is left. -/
structure State.MayClear (s t : State) : Prop where
  stays : s.Stays t
  brakes : s.SameBrakes t ∨ s.channels.mode = .fallback ∧ t.channels.mode = .electronic

theorem State.Roams.mayClear (h : s.Roams t) : s.MayClear t := ⟨h.stays, .inl h.brakes⟩

theorem State.MayClear.before (k : u.MayClear t) (h : s.Held u) : s.MayClear t :=
  ⟨k.stays.before h.poised, k.brakes.imp (fun b => .after b h.brakes) fun b => ⟨h.brakes.mode.symm.trans b.1, b.2⟩⟩

theorem State.MayClear.after (k : t.Held u) (h : s.MayClear t) : s.MayClear u :=
  ⟨.after k.poised h.stays, h.brakes.imp (.after k.brakes) fun b => ⟨b.1, k.brakes.mode.trans b.2⟩⟩

theorem State.clearFault_mayClear : s.MayClear s.clearFault.settle := by
  unfold State.clearFault
  split
  · have hc : s.Held s.clearSuspensions := ⟨⟨Iff.rfl, Iff.rfl, fun _ => id⟩, rfl, rfl⟩
    exact hc.settle.mayClear
  · rename_i hm
    have hr := State.settle_roams s.clearFallback
    exact ⟨hr.stays.before ⟨Iff.rfl, Iff.rfl, fun _ => id⟩, .inr ⟨hm, hr.brakes.mode⟩⟩

theorem State.clearBrakeFault_mayClear (s : State) : s.MayClear s.clearBrakeFault.1 := by
  unfold State.clearBrakeFault State.gated
  split
  · split
    · exact (State.Roams.refl s).mayClear
    · exact State.clearFault_mayClear
  · exact (State.Roams.refl s).mayClear

theorem State.request_mayClear {code : Nat} {p : Params} {accepts : Nat → Bool} {own : State → State × Answer}
    {named : Named} (ho : ∀ u : State, u.MayClear (own u).1) : s.MayClear (s.request code p accepts own named) := by
  have h : s.Held s.clockOut.endBatch.ageDetail := .setPort _
  unfold State.request
  refine .after (.setPort _) ?_
  unfold State.answer
  split
  · exact (ho _).before h
  · exact h.roams.mayClear

theorem exec_clearBrakeFault {p : Params} (h : exec (.clearBrakeFault dt p) s = .next t) : s.MayClear t := by
  cases h
  unfold State.live
  split
  · exact (State.request_mayClear fun v => v.clearBrakeFault_mayClear).before (.elapse s dt)
  · exact (State.Held.elapse s dt).roams.mayClear

/-! ### The run-on and the wake line -/

theorem State.watched_brakes : s.SameBrakes s.watched := by
  have h : (s.setMode { s.mode with power := .watch, runOnSince := none }).Held s.watched :=
    .after (.of_lifts (.forceLower _) .forceLower) (.after .stuIdle .workshopOff)
  exact ⟨h.brakes.mode, h.brakes.cause⟩

theorem State.shut_brakes : s.SameBrakes s.shut := ⟨rfl, rfl⟩

theorem State.enterWatch_brakes : s.SameBrakes s.enterWatch := by
  have h : s.watched.Held (s.watched.retireEntry .digital).cancelWindow := .after .cancelWindow (.retireEntry _)
  rw [State.enterWatch_eq]
  exact .after State.shut_brakes (.after h.brakes State.watched_brakes)

/-- R152: the run-on expires in RUN-ON alone. -/
theorem exec_runOnExpiry_brakes (h : exec (.runOnExpiry dt) s = .next t) : s.SameBrakes t ∧
    (s.mode.power = .watch → t.mode.power = .watch) := by
  cases h
  unfold State.live
  split
  · dsimp only
    split
    · rename_i hr
      have hb := (State.settle_roams (s.elapse dt).enterWatch).brakes
      exact ⟨.after (.after hb State.enterWatch_brakes) (State.Held.elapse s dt).brakes,
        fun hw => absurd (hw.symm.trans hr.1) (by decide)⟩
    · exact ⟨⟨rfl, rfl⟩, id⟩
  · exact ⟨⟨rfl, rfl⟩, id⟩

theorem Mode.wakes_watch {m : Mode} {b : Bool} {n : Nat} (h : (m.wakes b n).power = .watch) : m.power = .watch := by
  cases hr : m.wakeRaw with
  | true =>
    rw [(Mode.wakes_high hr).1] at h
    cases h
  | false =>
    by_cases ha : m.power = .awake
    · rw [Mode.wakes_low hr ha] at h
      split at h
      · cases h
      · exact h
    · rw [Mode.wakes_low_asleep hr ha] at h
      exact h

/-- R152, R154: the level taken leaves the brake mode and enters no WATCH, and a LOW one leaves the power state. -/
structure State.Wakes (s t : State) : Prop where
  brakes : s.SameBrakes t
  entered : t.mode.power = .watch → s.mode.power = .watch
  woken : s.asleepLaw → s.mode.power = .watch → t.mode.power ≠ .watch →
    t.mode.wakeTaken = true ∨ s.inputs.motion ≠ .moving ∧ t.inputs.motion = .moving

theorem State.Roams.wakes (h : s.Roams t) : s.Wakes t :=
  ⟨h.brakes, h.stays.entered, fun ha hs ht => .inr (h.stays.woken ha hs ht)⟩

theorem State.takeWake_wakes : s.Wakes s.takeWake.settle := by
  have hr := State.settle_roams s.takeWake
  have ho := State.settle_offers s.takeWake
  rw [State.takeWake_eq] at *
  generalize hm : s.mode.wakes (decide (s.inputs.motion = .standstill)) s.now = m at *
  have hin : m.power = .watch → s.mode.power = .watch := fun h => Mode.wakes_watch (by rw [hm]; exact h)
  refine ⟨.after hr.brakes ⟨rfl, rfl⟩, fun ht => hin (hr.stays.entered ht), fun ha hs ht => ?_⟩
  cases hw : s.mode.wakeRaw with
  | true =>
    refine .inl (ho.wakeTaken.trans ?_)
    rw [State.setMode_mode, ← hm, Mode.wakes_wakeTaken.1, hw]
  | false =>
    have hkeep : m.power = .watch := by
      rw [← hm, Mode.wakes_low_asleep hw (by rw [hs]; decide)]
      exact hs
    exact .inr (hr.stays.woken (fun _ => ha hs) hkeep ht)

theorem exec_wakeLineLevel_wakes (h : exec (.wakeLineLevel dt) s = .next t) : s.Wakes t := by
  cases h
  unfold State.live
  split
  · unfold State.wakeLevelDue
    split
    · have k := State.takeWake_wakes (s := s.elapse dt)
      exact ⟨.after k.brakes (State.Held.elapse s dt).brakes, k.entered, k.woken⟩
    · exact (State.Held.elapse s dt).roams.wakes
  · exact (State.Held.elapse s dt).roams.wakes

/-! ### Power-on and Restart -/

/-- R172: a part that starts is awake and ELECTRONIC. -/
theorem State.start_modes (high : Bool) (wires : PerWheel Bool) : (s.start high wires).channels.mode = .electronic ∧
    (s.start high wires).mode.power ≠ .watch := by
  have h := Settles.settle (s.started s.store.startImage s.store.judged.isSome high wires)
  have hp : (if high then Power.awake else .runOn) ≠ .watch := by cases high <;> decide
  exact ⟨h.offers.brakeMode, fun hw => hp (h.watch hw)⟩

theorem exec_powerOn_modes {high : Bool} {wires : PerWheel Bool} (h : exec (.powerOn dt high wires) s = .next t) :
    t.channels.mode = .electronic ∧ t.mode.power ≠ .watch := by
  have ht : (s.elapse dt).start high wires = t := Host.Outcome.next.inj h
  rw [← ht]
  exact State.start_modes high wires

/-- What a Restart keeps: the brake mode, and that WATCH is not entered. -/
structure State.Restarts (s t : State) : Prop where
  brakes : s.SameBrakes t
  entered : t.mode.power = .watch → s.mode.power = .watch

theorem State.Restarts.after (k : t.Restarts u) (h : s.Restarts t) : s.Restarts u :=
  ⟨.after k.brakes h.brakes, h.entered ∘ k.entered⟩

theorem State.Held.restarts (h : s.Held t) : s.Restarts t := ⟨h.brakes, h.poised.watch.1⟩

theorem State.Restarts.of_settles (h : Settles s t) : s.Restarts t := ⟨.of_settles h, h.watch⟩

theorem State.Restarts.wakeIfWatching : s.Restarts s.wakeIfWatching := by
  unfold State.wakeIfWatching
  split
  · exact (State.Held.refl s).restarts
  · exact (State.Held.refl s).restarts
  · exact .of_settles (Steady.wake s).settles

theorem State.Restarts.emptyTable : s.Restarts s.emptyTable := by
  unfold State.emptyTable
  exact .after (.of_settles (.followDemands _)) (State.Held.setDemands _).restarts

theorem State.Held.restartStability : s.Held s.restartStability := .after (.setStability _) .stuIdle

theorem State.Held.restartWorkshop : s.Held s.restartWorkshop := .same rfl rfl rfl rfl

theorem State.Held.restartIntake : s.Held s.restartIntake := .after (.setIntake _) .cancelWindow

theorem State.Restarts.restartLive : s.Restarts s.restartLive := by
  unfold State.restartLive
  refine .after (.of_settles (Steady.followReference _).settles) (.after (.of_settles (LoadChange.followLifts _).settles)
    (.after .wakeIfWatching ?_))
  exact .after State.Held.restartIntake.restarts (.after State.Held.restartWorkshop.restarts
    (.after State.Held.restartStability.restarts .emptyTable))

theorem State.Restarts.restartPolicy : s.Restarts s.restartPolicy := by
  unfold State.restartPolicy
  split
  · exact (State.Held.refl s).restarts
  · split
    · exact (State.Held.reload _).restarts
    · exact (State.Held.setNotices _).restarts

theorem State.Held.recreateEntries : s.Held s.recreateEntries := by
  have h : s.Held (match s.pressureOf .ctl with
      | some v => s.takeControl v
      | none => s) := by
    split
    · exact .takeControl _
    · exact .refl s
  unfold State.recreateEntries
  dsimp only
  split
  · exact .after (.takeSupply _) h
  · exact h

theorem State.Restarts.restart : s.Restarts s.restart := by
  unfold State.restart
  refine .after (.of_settles (.settle _)) (.after State.Held.recreateEntries.restarts (.after .restartPolicy ?_))
  exact .after (State.Held.setNotices _).restarts (.after .restartLive (State.Held.setPort _).restarts)

theorem exec_restart_restarts {p : Params} (h : exec (.restart dt p) s = .next t) : s.Restarts t := by
  cases h
  have he := (State.Held.elapse s dt).restarts
  unfold State.live
  split
  · refine .after ?_ he
    dsimp only
    split
    · exact .after .restart (State.Held.setPort _).restarts
    · have hr := State.request_roams (s := s.elapse dt) (code := 0x04) (p := p) (accepts := exactly 0) (named := unnamed)
        (own := fun s => s.refuse .busy unnamed) fun v => .refl v
      exact ⟨hr.brakes, hr.stays.entered⟩
  · exact he

end

/-! ### The statement -/

section
variable {i : Instr} {s t : State}

theorem State.SameBrakes.claims (h : s.SameBrakes t) :
    (s.channels.mode = .electronic → t.channels.mode = .fallback →
      (causeOf i).isSome = true ∧ t.channels.cause = causeOf i) ∧
    (s.channels.mode = .fallback → t.channels.mode = .fallback → t.channels.cause = s.channels.cause) ∧
    (s.channels.mode = .fallback → t.channels.mode = .electronic → restoresBrakes i = true) := by
  have hno : ∀ {P : Prop} {a b : BrakeMode}, s.channels.mode = a → t.channels.mode = b → a ≠ b → P := fun h1 h2 hab =>
    absurd (h1.symm.trans (h.mode.symm.trans h2)) hab
  exact ⟨fun h1 h2 => hno h1 h2 (by decide), fun _ _ => h.cause, fun h1 h2 => hno h1 h2 (by decide)⟩

/-- What O18 says of a command and the states before and after it. -/
def ModesChange (i : Instr) (s t : State) : Prop :=
  (s.channels.mode = .electronic → t.channels.mode = .fallback →
      (causeOf i).isSome = true ∧ t.channels.cause = causeOf i) ∧
  (s.channels.mode = .fallback → t.channels.mode = .fallback → t.channels.cause = s.channels.cause) ∧
  (s.channels.mode = .fallback → t.channels.mode = .electronic → restoresBrakes i = true) ∧
  (s.mode.power ≠ .watch → t.mode.power = .watch → ∃ dt, i = .runOnExpiry dt) ∧
  (s.asleepLaw → s.mode.power = .watch → t.mode.power ≠ .watch →
    ((∃ dt, i = .wakeLineLevel dt) ∧ t.mode.wakeTaken = true) ∨
    (s.inputs.motion ≠ .moving ∧ t.inputs.motion = .moving) ∨
    (∃ dt p, i = .restart dt p) ∨ ∃ dt high wires, i = .powerOn dt high wires)

theorem State.MayFall.claims {c : FallbackCause} (k : s.MayFall t c) (hc : causeOf i = some c) : ModesChange i s t := by
  have hw : (s.mode.power ≠ .watch → t.mode.power = .watch → ∃ dt, i = .runOnExpiry dt) := fun hs ht =>
    absurd (k.stays.entered ht) hs
  rcases k.brakes with hb | ⟨hm, hcause⟩
  · obtain ⟨b1, b2, b3⟩ := hb.claims (i := i)
    exact ⟨b1, b2, b3, hw, fun ha hs ht => .inr (.inl (k.stays.woken ha hs ht))⟩
  · have hno : ∀ {P : Prop}, s.channels.mode = .fallback → P := fun hf => absurd (hm.symm.trans hf) (by decide)
    exact ⟨fun _ _ => ⟨by rw [hc]; rfl, hcause.trans hc.symm⟩, fun hf => hno hf, fun hf => hno hf, hw,
      fun ha hs ht => .inr (.inl (k.stays.woken ha hs ht))⟩

end

/-- Settles O18: of every command but the causes, that its change before settling moves neither mode and that settling
leaves WATCH by MOVING alone; the causes one by one. -/
theorem modesChangeByTheirCauses : Obligations.ModesChangeByTheirCauses := by
  intro i s t h
  by_cases hi : isCause i = false
  · have k := exec_roams hi h
    obtain ⟨b1, b2, b3⟩ := k.brakes.claims (i := i)
    exact ⟨b1, b2, b3, fun hs ht => absurd (k.stays.entered ht) hs, fun ha hs ht => .inr (.inl (k.stays.woken ha hs ht))⟩
  cases i with
  | powerOn dt high wires =>
    obtain ⟨h1, h2⟩ := exec_powerOn_modes h
    have hno : ∀ {P : Prop}, t.channels.mode = .fallback → P := fun hf => absurd (h1.symm.trans hf) (by decide)
    exact ⟨fun _ hf => hno hf, fun _ hf => hno hf, fun _ _ => rfl, fun _ ht => absurd ht h2,
      fun _ _ _ => .inr (.inr (.inr ⟨dt, high, wires, rfl⟩))⟩
  | restart dt p =>
    have k := exec_restart_restarts h
    obtain ⟨b1, b2, b3⟩ := k.brakes.claims (i := .restart dt p)
    exact ⟨b1, b2, b3, fun hs ht => absurd (k.entered ht) hs, fun _ _ _ => .inr (.inr (.inl ⟨dt, p, rfl⟩))⟩
  | clearBrakeFault dt p =>
    have k := exec_clearBrakeFault h
    refine ⟨fun h1 h2 => ?_, fun h1 h2 => ?_, fun _ _ => rfl, fun hs ht => absurd (k.stays.entered ht) hs,
      fun ha hs ht => .inr (.inl (k.stays.woken ha hs ht))⟩
    · rcases k.brakes with hb | hb
      · exact absurd (h1.symm.trans (hb.mode.symm.trans h2)) (by decide)
      · exact absurd (h1.symm.trans hb.1) (by decide)
    · rcases k.brakes with hb | hb
      · exact hb.cause
      · exact absurd (h2.symm.trans hb.2) (by decide)
  | wakeLineLevel dt =>
    have k := exec_wakeLineLevel_wakes h
    obtain ⟨b1, b2, b3⟩ := k.brakes.claims (i := .wakeLineLevel dt)
    refine ⟨b1, b2, b3, fun hs ht => absurd (k.entered ht) hs, fun ha hs ht => ?_⟩
    exact (k.woken ha hs ht).imp (fun hw => ⟨⟨dt, rfl⟩, hw⟩) .inl
  | runOnExpiry dt =>
    obtain ⟨hb, hw⟩ := exec_runOnExpiry_brakes h
    obtain ⟨b1, b2, b3⟩ := hb.claims (i := .runOnExpiry dt)
    exact ⟨b1, b2, b3, fun _ _ => ⟨dt, rfl⟩, fun _ hs ht => absurd (hw hs) ht⟩
  | inletNoRise dt c => exact (exec_causeOf rfl h).claims rfl
  | exhaustNoFall dt c => exact (exec_causeOf rfl h).claims rfl
  | deliveredInvalid dt c => exact (exec_causeOf rfl h).claims rfl
  | controlInvalid dt => exact (exec_causeOf rfl h).claims rfl
  | _ => exact absurd rfl hi

end Sys2Proof.Machine
end

section
/-! SUPPORT. The laws of the modes one by one, and what keeps each of them through the offers of a change (R76, R82, R93,
R133, R138). -/
namespace Sys2Proof.Machine

/-! ### The laws and the relation -/

/-- The laws of the modes beside `RestLaws`. -/
inductive ModeLaw where
  | entry | ramp | lowered | workshop | pending
  | due (g : GroupId)

/-- What each law says of a state. -/
def State.Obeys (s : State) : ModeLaw → Prop
  | .entry => s.hasEntry .stability = true → s.stuActing = true
  | .ramp => s.stability.ramp.isSome = true → s.stuActing = true
  | .lowered => s.stuActing = true → ∀ a, (s.axle a).lift.lifted = false
  | .workshop => s.mode.workshop ≠ .off → s.stability.state = .idle
  | .pending => s.mode.power = .watch → ∀ a, (s.axle a).raisePending = false
  | .due g => s.mode.power = .watch → (s.group g).raiseDue = false

/-- From `s` to `t` every law of the modes that holds goes on to hold. -/
structure State.Keeps (s t : State) : Prop where
  rest : s.RestLaws → t.RestLaws
  obeys : s.RestLaws → ∀ L, s.Obeys L → t.Obeys L

/-- The laws that a change keeps before it is settled; settling restores the other two. -/
structure State.Poise (s : State) : Prop where
  rest : s.RestLaws
  obeys : ∀ L, L ≠ .workshop → (∀ g, L ≠ .due g) → s.Obeys L

theorem LiftState.lifted_iff {x : LiftState} : x.lifted = true ↔ x = .up ∨ x = .raising := by
  cases x <;> simp [LiftState.lifted]

theorem State.modeLaws_iff {s : State} : s.ModeLaws ↔ s.RestLaws ∧ ∀ L, s.Obeys L := by
  constructor
  · rintro ⟨hr, ha, ⟨he, hm, hl, hw⟩, -⟩
    refine ⟨hr, fun L => ?_⟩
    cases L with
    | entry => exact he
    | ramp => exact hm
    | lowered => exact hl
    | workshop => exact hw
    | pending => exact fun h => (ha h).1
    | due g => exact fun h => (ha h).2 g
  · rintro ⟨hr, ho⟩
    refine ⟨hr, fun h => ⟨ho .pending h, fun g => ho (.due g) h⟩, ⟨ho .entry, ho .ramp, ho .lowered, ho .workshop⟩,
      fun he a _ => ?_⟩
    have hl := ho .lowered (ho .entry he) a
    constructor <;> intro hc <;> rw [hc] at hl <;> cases hl

section
variable {s t u : State}

theorem State.ModeLaws.obeys (h : s.ModeLaws) (L : ModeLaw) : s.Obeys L := (State.modeLaws_iff.1 h).2 L

theorem State.ModeLaws.poise (h : s.ModeLaws) : s.Poise := ⟨h.rest, fun L _ _ => h.obeys L⟩

theorem State.Keeps.refl (s : State) : s.Keeps s := ⟨id, fun _ _ => id⟩

theorem State.Keeps.after (k : t.Keeps u) (h : s.Keeps t) : s.Keeps u :=
  ⟨k.rest ∘ h.rest, fun hs L hL => k.obeys (h.rest hs) L (h.obeys hs L hL)⟩

theorem State.Keeps.ite {c : Prop} [Decidable c] (h : c → s.Keeps t) (k : ¬c → s.Keeps u) :
    s.Keeps (if c then t else u) := by
  split
  · exact h ‹_›
  · exact k ‹_›

theorem State.Keeps.foldl {α : Type} {f : State → α → State} (hf : ∀ (t : State) a, t.Keeps (f t a)) (l : List α) :
    s.Keeps (l.foldl f s) :=
  State.foldl_keeps (P := fun t => s.Keeps t) (fun t a ht => .after (hf t a) ht) l (.refl s)

theorem State.Keeps.lawful (h : s.Keeps t) (hs : s.ModeLaws) : t.ModeLaws :=
  State.modeLaws_iff.2 ⟨h.rest hs.rest, fun L => h.obeys hs.rest L (hs.obeys L)⟩

theorem State.Keeps.poise (h : s.Keeps t) (hs : s.Poise) : t.Poise :=
  ⟨h.rest hs.rest, fun L h1 h2 => h.obeys hs.rest L (hs.obeys L h1 h2)⟩

/-! ### Updates of one unit -/

/-- A change that leaves the STU, the workshop, the power state, the table and the LDU. -/
theorem State.Keeps.of_rest (h : s.RestLaws → t.RestLaws) (hs : t.stability = s.stability) (hm : t.mode = s.mode)
    (hd : t.demands.table = s.demands.table) (hl : t.loads = s.loads) : s.Keeps t := by
  refine ⟨h, fun _ L hL => ?_⟩
  cases L <;> simp only [State.Obeys, State.hasEntry, State.entry, State.stuActing, State.axle, State.group, hs, hm, hd,
    hl] at hL ⊢ <;> exact hL

/-- A change of records that none of the laws reads. -/
theorem State.Keeps.same (hc : t.channels = s.channels) (hs : t.stability = s.stability) (hm : t.mode = s.mode)
    (hd : t.demands.table = s.demands.table) (hi : t.intake = s.intake) (hl : t.loads = s.loads) : s.Keeps t := by
  refine .of_rest (fun h => ?_) hs hm hd hl
  obtain ⟨h1, h2, h3⟩ := h
  constructor
  · simpa only [State.fallbackLaw, State.channel, hc, hs] using h1
  · simpa only [State.workshopLaw, State.hasEntry, State.entry, hm, hd] using h2
  · simpa only [State.watchLaw, State.hasEntry, State.entry, State.channel, hc, hs, hm, hd, hi] using h3

theorem State.Keeps.setNotices (x : Notices) : s.Keeps (s.setNotices x) := .same rfl rfl rfl rfl rfl rfl

theorem State.Keeps.of_onlyTyres (h : s.OnlyTyres t) : s.Keeps t := by
  rw [h]
  exact .same rfl rfl rfl rfl rfl rfl

/-- R74: a record that stays unlifted, or is lifted while the STU does not act, and in which no raise becomes pending in
WATCH. -/
theorem State.Keeps.setAxle {a : AxleId} {r : AxleRecord}
    (hl : r.lift.lifted = true → (s.axle a).lift.lifted = true ∨ s.stuActing = false)
    (hp : r.raisePending = true → (s.axle a).raisePending = true ∨ s.mode.power ≠ .watch) : s.Keeps (s.setAxle a r) := by
  refine ⟨fun h => ⟨h.fallback, h.workshop, h.watch⟩, fun _ L hL => ?_⟩
  cases L with
  | lowered =>
    intro hact b
    rw [State.setAxle_axle]
    split
    · cases hr : r.lift.lifted with
      | false => rfl
      | true =>
        rcases hl hr with h | h
        · rw [hL hact a] at h; cases h
        · rw [show s.stuActing = true from hact] at h; cases h
    · exact hL hact b
  | pending =>
    intro hw b
    rw [State.setAxle_axle]
    split
    · cases hr : r.raisePending with
      | false => rfl
      | true =>
        rcases hp hr with h | h
        · rw [hL hw a] at h; cases h
        · exact absurd hw h
    · exact hL hw b
  | _ => exact hL

/-- A record whose lift state stays, and in which no raise becomes pending. -/
theorem State.Keeps.setAxleSame {a : AxleId} {r : AxleRecord} (hl : r.lift = (s.axle a).lift)
    (hp : r.raisePending = true → (s.axle a).raisePending = true) : s.Keeps (s.setAxle a r) :=
  .setAxle (fun h => .inl (by rw [← hl]; exact h)) fun h => .inl (hp h)

theorem State.Keeps.setGroup {g : GroupId} {r : GroupRecord}
    (hd : r.raiseDue = true → (s.group g).raiseDue = true ∨ s.mode.power ≠ .watch) : s.Keeps (s.setGroup g r) := by
  refine ⟨fun h => ⟨h.fallback, h.workshop, h.watch⟩, fun _ L hL => ?_⟩
  cases L with
  | due k =>
    intro hw
    rw [State.setGroup_group]
    split
    · rename_i hk
      subst hk
      cases hr : r.raiseDue with
      | false => rfl
      | true =>
        rcases hd hr with h | h
        · rw [hL hw] at h; cases h
        · exact absurd hw h
    · exact hL hw
  | _ => exact hL

/-- A record in which the raise does not become due. -/
theorem State.Keeps.setGroupSame {g : GroupId} {r : GroupRecord} (hd : r.raiseDue = (s.group g).raiseDue) :
    s.Keeps (s.setGroup g r) := .setGroup fun h => .inl (hd ▸ h)

/-- An update of the STU's record that leaves its state and starts no ramp outside an action. -/
theorem State.Keeps.setStability {x : Stability} (h : s.RestLaws → (s.setStability x).RestLaws)
    (hs : x.state = s.stability.state) (hr : x.ramp.isSome = true → s.stability.ramp.isSome = true ∨ s.stuActing = true) :
    s.Keeps (s.setStability x) := by
  have ha : (s.setStability x).stuActing = s.stuActing := by simp [State.stuActing, hs]
  refine ⟨h, fun _ L hL => ?_⟩
  cases L with
  | entry => exact fun he => ha.trans (hL he)
  | ramp => exact fun hx => ha.trans ((hr hx).elim hL id)
  | lowered => exact fun hx => hL (ha.symm.trans hx)
  | workshop => exact fun hw => hs.trans (hL hw)
  | pending | due => exact hL

/-- The power state, with the workshop as it was and WATCH not entered. -/
theorem State.Keeps.setPower {m : Mode} (h : s.RestLaws → (s.setMode m).RestLaws) (hw : m.workshop = s.mode.workshop)
    (hp : m.power = .watch → s.mode.power = .watch) : s.Keeps (s.setMode m) := by
  refine ⟨h, fun _ L hL => ?_⟩
  cases L with
  | entry | ramp | lowered => exact hL
  | workshop => exact fun k => hL (hw ▸ k)
  | pending | due => exact fun k => hL (hp k)

/-! ### The workshop -/

theorem State.enterWorkshopState_stability (m : Mode) : (s.enterWorkshopState m).stability = s.stability := by
  unfold State.enterWorkshopState
  split <;> split <;> rfl

theorem State.enterWorkshopState_mode (m : Mode) : (s.enterWorkshopState m).mode = m := by
  unfold State.enterWorkshopState
  split <;> split <;> rfl

theorem State.enterWorkshopState_entry (m : Mode) {x : Source} (hx : x ≠ .test) :
    (s.enterWorkshopState m).entry x = s.entry x := by
  have h : (if s.mode.workshop = .stepRunning then s.retireEntry .test else s).entry x = s.entry x := by
    split
    · exact State.retireEntry_entry_ne s hx
    · rfl
  unfold State.enterWorkshopState
  dsimp only
  split <;> exact h

/-- R144: a new workshop state reaches no law but its own. -/
theorem State.enterWorkshopState_obeys {m : Mode} (hp : m.power = s.mode.power) {L : ModeLaw} (hL : L ≠ .workshop)
    (h : s.Obeys L) : (s.enterWorkshopState m).Obeys L := by
  have hs := s.enterWorkshopState_stability m
  have hm := s.enterWorkshopState_mode m
  have hl := s.enterWorkshopState_loads m
  have he := s.enterWorkshopState_entry m (x := .stability) (by decide)
  cases L <;> simp only [State.Obeys, State.hasEntry, State.stuActing, State.axle, State.group, hs, hm, hl, he, hp] at h ⊢
  case workshop => exact absurd rfl hL
  all_goals exact h

/-- R144: a workshop state that is OFF, or found a workshop state that was not OFF. -/
theorem State.Keeps.enterWorkshopState {m : Mode} (h : s.RestLaws → (s.enterWorkshopState m).RestLaws)
    (hp : m.power = s.mode.power) (hw : s.RestLaws → m.workshop ≠ .off → s.mode.workshop ≠ .off) :
    s.Keeps (s.enterWorkshopState m) := by
  refine ⟨h, fun hR L hL => ?_⟩
  by_cases hc : L = .workshop
  · subst hc
    intro k
    rw [s.enterWorkshopState_mode m] at k
    exact (congrArg Stability.state (s.enterWorkshopState_stability m)).trans (hL (hw hR k))
  · exact State.enterWorkshopState_obeys hp hc hL

/-- R148: a step that runs. -/
theorem State.RestLaws.workshop_of_running (h : s.RestLaws) (hr : s.mode.running ≠ none) : s.mode.workshop ≠ .off :=
  fun hc => hr (h.workshop (by rw [hc]; decide)).1

theorem State.Keeps.stepDone (hr : s.mode.running ≠ none) : s.Keeps s.stepDone :=
  .enterWorkshopState (LoadChange.stepDone s hr).settles.modes rfl fun h _ => h.workshop_of_running hr

theorem State.Keeps.stepFaults (c : StepFault) (hr : s.mode.running ≠ none) : s.Keeps (s.stepFaults c) :=
  .enterWorkshopState (LoadChange.stepFaults s c hr).settles.modes rfl fun h _ => h.workshop_of_running hr

theorem State.Keeps.workshopOff : s.Keeps s.workshopOff := by
  have h := (LoadChange.workshopOff s).settles.modes
  unfold State.workshopOff at h ⊢
  split
  · exact .refl s
  · rename_i hw
    rw [if_neg hw] at h
    split
    · rename_i hr
      rw [if_pos hr] at h
      exact .enterWorkshopState h rfl fun _ k => absurd rfl k
    · rename_i hr
      rw [if_neg hr] at h
      exact .enterWorkshopState h rfl fun _ k => absurd rfl k

theorem State.Keeps.followReadiness : s.Keeps s.followReadiness := by
  have h := (LoadChange.followReadiness s).settles.modes
  unfold State.followReadiness at h ⊢
  split
  · rename_i hc
    rw [if_pos hc] at h
    exact .enterWorkshopState h rfl fun _ _ => by rw [hc.1]; decide
  · exact .refl s

theorem State.Keeps.followBand : s.Keeps s.followBand := by
  unfold State.followBand
  split
  · exact .refl s
  · rename_i hr
    split
    · exact .ite (fun _ => .refl s) fun _ =>
        .setPower (Settles.modes (.setPower s rfl rfl rfl rfl (.inr ⟨rfl, by simp [hr]⟩) id)) rfl id
    · exact .refl s
    · exact .refl s

/-! ### Lift states -/

theorem State.Keeps.evaluate (p : Position) : s.Keeps (s.evaluate p) := .of_onlyTyres (s.evaluate_onlyTyres p)

theorem State.Keeps.evaluateAxle (a : AxleId) : s.Keeps (s.evaluateAxle a) := .foldl (fun _ _ => .evaluate _) _

theorem State.Keeps.reportLift (a : AxleId) (x : LiftState) : s.Keeps (s.reportLift a x) := by
  by_cases hr : s.mode.running = none
  · rw [State.reportLift_idle hr]
    exact .refl s
  · rcases State.reportLift_cases (s := s) (a := a) (x := x) with h | h | h <;> rw [h]
    · exact .refl s
    · exact .stepDone hr
    · exact .stepFaults _ hr

theorem State.Keeps.recount (g : GroupId) : s.Keeps (s.recount g) := .setGroupSame rfl

theorem State.Keeps.followTransition (g : GroupId) : s.Keeps (s.followTransition g) :=
  .ite (fun _ => .setGroupSame (s.group g).entered_raiseDue) fun _ => .ite (fun _ => .setGroupSame rfl) fun _ => .refl s

theorem State.Keeps.noteArrival (a : AxleId) (x : LiftState) : s.Keeps (s.noteArrival a x) := by
  cases x
  · exact .setNotices _
  · exact .refl s
  · exact .setNotices _
  · exact .refl s

/-- R74, R82: an axle that is lifted, or is lifted while the STU does not act. -/
theorem State.Keeps.setLift {a : AxleId} {x : LiftState}
    (h : x.lifted = true → (s.axle a).lift.lifted = true ∨ s.stuActing = false) : s.Keeps (s.setLift a x) := by
  by_cases hx : (s.axle a).lift = x
  · rw [State.setLift_same hx]
    exact .refl s
  · rw [State.setLift_eq hx]
    refine .after (.reportLift a x) (.after (.evaluateAxle a) (.after (.noteArrival a x) ?_))
    unfold State.lifted
    exact .after (.followTransition _) (.after (.followTransition _) (.after (.recount _) (.after (.recount _)
      (.setAxle h .inl))))

theorem State.Keeps.lower (a : AxleId) : s.Keeps (s.setLift a .lowering) := .setLift fun h => by cases h

theorem State.Keeps.lowerAxle (a : AxleId) : s.Keeps (s.lowerAxle a) := .ite (fun _ => .lower a) fun _ => .refl s

theorem State.Keeps.modeToAuto (a : AxleId) : s.Keeps (s.modeToAuto a) :=
  .ite (fun _ => .setAxleSame rfl id) fun _ => .refl s

theorem State.Keeps.lowerToAuto (a : AxleId) : s.Keeps (s.lowerToAuto a) :=
  .ite (fun _ => .after (.lower a) (.modeToAuto a)) fun _ => .refl s

theorem State.Keeps.forceAxle (a : AxleId) : s.Keeps (s.forceAxle a) := by
  unfold State.forceAxle
  refine .after (.lowerAxle a) (.after (.setAxleSame rfl fun h => by cases h) ?_)
  exact .ite (fun _ => .modeToAuto a) fun _ => .refl s

theorem State.Keeps.forceLower : s.Keeps s.forceLower := .foldl (fun _ a => .forceAxle a) _

/-- The raise pending flags of a list of axles dropped. -/
theorem State.Keeps.dropFlags (l : List AxleId) : s.Keeps (l.foldl
    (fun t a => if (t.axle a).mode = .auto then t.setAxle a { t.axle a with raisePending := false } else t) s) :=
  .foldl (f := fun (t : State) a =>
      if (t.axle a).mode = .auto then t.setAxle a { t.axle a with raisePending := false } else t)
    (fun t _ => .ite (fun _ => .setAxleSame rfl fun h => by cases h) fun _ => .refl t) l

theorem State.Keeps.endRaise (g : GroupId) (keep : Bool) : s.Keeps (s.endRaise g keep) := by
  have h : s.Keeps (s.setGroup g { s.group g with raiseSince := none, raiseDue := false }) :=
    .setGroup fun h => by cases h
  exact .ite (fun _ => h) fun _ => .after (.dropFlags _) h

theorem State.Keeps.boundHeldUp (a : AxleId) : s.Keeps (s.boundHeldUp a) := .ite (fun _ => .lowerToAuto a) fun _ => .refl s

theorem State.Keeps.boundGroup (g : GroupId) : s.Keeps (s.boundGroup g) := .foldl (fun _ a => .boundHeldUp a) _

theorem State.Keeps.formLoad (g : GroupId) : s.Keeps (s.formLoad g) := by
  unfold State.formLoad
  split
  · exact .after (.boundGroup g) (.setGroupSame rfl)
  · exact .refl s

theorem State.Keeps.releaseGroup (g : GroupId) : s.Keeps (s.releaseGroup g) := by
  unfold State.releaseGroup
  refine .ite (fun _ => .refl s) fun _ => .ite (fun _ => ?_) fun _ => .refl s
  exact .after (.boundGroup g) (.setGroupSame (GroupRecord.released_raiseDue _ _ _))

theorem State.Keeps.rollArrives : s.Keeps s.rollArrives :=
  .foldl (f := fun (t : State) g => if t.groupInUse g then t.setGroup g { (t.group g).entered with holdRoll := true } else t)
    (fun t g => .ite (fun _ => .setGroupSame (t.group g).entered_raiseDue) fun _ => .refl t) _

theorem State.Keeps.rollEnds : s.Keeps s.rollEnds :=
  .foldl (f := fun (t : State) g =>
      if (t.group g).holdRoll then (t.setGroup g { t.group g with holdRoll := false }).releaseGroup g else t)
    (fun t g => .ite (fun _ => .after (.releaseGroup g) (.setGroupSame rfl)) fun _ => .refl t) _

theorem State.dropFlags_stability (l : List AxleId) : (l.foldl
    (fun t a => if (t.axle a).mode = .auto then t.setAxle a { t.axle a with raisePending := false } else t) s).stability =
      s.stability := (LoadChange.dropFlags s l).stability

theorem State.stuActing_congr (h : t.stability = s.stability) : t.stuActing = s.stuActing := by
  simp only [State.stuActing, h]

/-- R78, R82: a raise is tested outside WATCH, and starts only while the STU does not act. -/
theorem State.Keeps.testRaise {g : GroupId} (hw : s.mode.power ≠ .watch) : s.Keeps (s.testRaise g) := by
  have hset : s.Keeps (s.setGroup g { s.group g with seen := s.startConditions g }) := .setGroupSame rfl
  unfold State.testRaise
  dsimp only
  split
  · exact hset
  · rename_i a _
    split
    · exact .after (.setAxle (fun h => .inl h) fun _ => .inr hw) hset
    · split
      · rename_i hc
        refine .after (.setLift fun _ => .inr ?_) (.after (.dropFlags _) hset)
        rw [State.stuActing_congr (State.dropFlags_stability _)]
        simp only [State.startConditions, Bool.and_eq_true, Bool.not_eq_true'] at hc
        exact hc.2
      · exact .after (.dropFlags _) hset

theorem State.Keeps.dropFlag (a : AxleId) : s.Keeps (s.dropFlag a) :=
  .ite (fun _ => .setAxleSame rfl fun h => by cases h) fun _ => .refl s

theorem State.raiseRuns_awake {g : GroupId} (h : s.raiseRuns g = true) : s.mode.power ≠ .watch := by
  simp only [State.raiseRuns, Bool.and_eq_true] at h
  exact State.decisionsRun_awake h.1.1.1

theorem State.Keeps.followRaise (g : GroupId) : s.Keeps (s.followRaise g) := by
  have hset : s.Keeps (s.setGroup g { s.group g with raiseSince := some ((s.group g).raiseSince.getD s.now) }) :=
    .setGroupSame rfl
  unfold State.followRaise
  refine .ite (fun h => ?_) fun _ => .ite (fun _ => .endRaise g _) fun _ => .refl s
  exact .ite (fun _ => .after (.testRaise (g := g) (State.raiseRuns_awake (s := s) h)) hset) fun _ => hset

theorem State.Keeps.followLower (a : AxleId) : s.Keeps (s.followLower a) :=
  .ite (fun _ => .setAxleSame rfl id) fun _ => .setAxleSame rfl id

theorem State.heldUpMayRise_resting (h : s.heldUpMayRise = true) : s.stuActing = false := by
  simp only [State.heldUpMayRise, Bool.and_eq_true, Bool.not_eq_true'] at h
  exact h.2

theorem State.Keeps.retryHeldUp (a : AxleId) : s.Keeps (s.retryHeldUp a) := by
  refine .ite (fun h => ?_) fun _ => .refl s
  refine .ite (fun _ => .setAxleSame rfl fun h => by cases h) fun _ => ?_
  exact .after (.setLift fun _ => .inr (State.heldUpMayRise_resting h.1)) (.setAxleSame rfl fun h => by cases h)

theorem State.Keeps.followLifts : s.Keeps s.followLifts :=
  .after (.foldl (fun _ a => .followLower a) _) (.after (.foldl (fun _ g => .followRaise g) _)
    (.after (.foldl (fun _ a => .dropFlag a) _) (.foldl (fun _ a => .retryHeldUp a) _)))

theorem State.Keeps.abortRaise (a : AxleId) : s.Keeps (s.abortRaise a) := .ite (fun _ => .lowerToAuto a) fun _ => .refl s

theorem State.Keeps.takeBraking (b : Bool) : s.Keeps (s.takeBraking b) := by
  have h : s.Keeps (s.setDemands { s.demands with braking := b }) := .same rfl rfl rfl rfl rfl rfl
  exact .ite (fun _ => .after (.foldl (fun _ a => .abortRaise a) _) h) fun _ => h

theorem State.Keeps.testTyres (a : AxleId) : s.Keeps (s.testTyres a) := by
  unfold State.testTyres
  refine .ite (fun _ => .ite (fun _ => .ite (fun _ => .ite (fun _ => .refl s) fun _ => ?_) fun _ => ?_) fun _ => ?_)
    fun _ => .refl s
  · exact .after (.setNotices _) (.setAxleSame rfl id)
  · exact .after (.lowerToAuto a) (.setAxleSame rfl id)
  · exact .setAxleSame rfl id

theorem State.Keeps.testAllTyres : s.Keeps s.testAllTyres := .foldl (fun _ a => .testTyres a) _

theorem State.Keeps.judgeLiftFault (a : AxleId) : s.Keeps (s.judgeLiftFault a) := by
  refine .ite (fun _ => ?_) fun _ => .refl s
  refine .after (.lower a) ?_
  have hset : s.Keeps ((s.noteLiftFault a).setAxle a { s.axle a with mode := .heldDown }) :=
    .after (.setAxleSame rfl id) (.setNotices _)
  refine .ite (fun h => .after (.stepFaults _ fun hn => ?_) hset) fun _ => hset
  rw [State.liftStepOn, hn] at h
  cases h

end

end Sys2Proof.Machine
end

section
/-! SUPPORT. The STU's changes of state, the channels, the demands and the power state keep the laws of the modes, and
settling restores those that an event may leave open (R82, R133 to R140, R153). -/
namespace Sys2Proof.Machine

section
variable {s t u : State}

/-! ### The STU -/

theorem StuState.acting_iff : s.stuActing = true ↔ s.stability.state ≠ .idle ∧ s.stability.state ≠ .armed := by
  unfold State.stuActing
  cases s.stability.state <;> simp

/-- R133: an STU that is not IDLE stands beside a workshop record that is OFF. -/
theorem State.Obeys.off (h : s.Obeys .workshop) (hs : s.stability.state ≠ .idle) : s.mode.workshop = .off :=
  Decidable.byContradiction fun hc => hs (h hc)

/-- The orders to the channels reach no law but the valves'. -/
theorem State.Keeps.liftSuppressions : s.Keeps s.liftSuppressions :=
  .of_rest (Steady.liftSuppressions s).settles.modes rfl rfl rfl rfl

theorem State.Keeps.suppress (c : ChannelId) : s.Keeps (s.suppress c) :=
  .of_rest (Steady.suppress s c).settles.modes rfl rfl rfl rfl

/-- R133: the STU at rest, without an entry and without a ramp. -/
theorem State.Keeps.quiet {x : StuState} (hx : x = .idle ∨ x = .armed)
    (hs : x = .armed → s.stability.state ≠ .idle)
    (h : s.RestLaws → ((s.setStability (s.stability.quiet x)).retireStability).RestLaws) :
    s.Keeps ((s.setStability (s.stability.quiet x)).retireStability) := by
  have ha : ((s.setStability (s.stability.quiet x)).retireStability).stuActing = false := by
    rcases hx with rfl | rfl <;> rfl
  have he : ((s.setStability (s.stability.quiet x)).retireStability).hasEntry .stability = false := by
    rw [State.hasEntry_iff, show ((s.setStability (s.stability.quiet x)).retireStability).entry .stability = none from
      State.retireEntry_entry_self _ _]
    rfl
  refine ⟨h, fun _ L hL => ?_⟩
  cases L with
  | entry => exact fun k => absurd (he.symm.trans k) (by decide)
  | ramp => exact fun k => by cases k
  | lowered => exact fun k => absurd (ha.symm.trans k) (by decide)
  | workshop =>
    intro hw
    rcases hx with rfl | rfl
    · rfl
    · exact absurd (hL.off (hs rfl)) hw
  | pending | due => exact hL

theorem State.Keeps.stuIdle : s.Keeps s.stuIdle :=
  .after .rollEnds (.quiet (.inl rfl) (fun h => by cases h)
    (Settles.modes (.after (Steady.retireStability _).settles (.setStability s rfl (.inl rfl) (.inl rfl) (.inl rfl)))))

theorem State.Keeps.stuArmed (hs : s.stability.state ≠ .idle) : s.Keeps s.stuArmed :=
  .after .rollEnds (.quiet (.inr rfl) (fun _ => hs)
    (Settles.modes (.after (Steady.retireStability _).settles
      (.setStability s rfl (.inr fun h => absurd h hs) (.inl rfl) (.inl rfl)))))

/-- R93: a post while the STU acts. -/
theorem State.Keeps.postStability {l : PerChannel Nat} (ha : s.stuActing = true) : s.Keeps (s.postStability l) := by
  have hs := State.postStability_stability (s := s) l
  obtain ⟨k, hk⟩ := s.postEntry_setDemands .stability (.channels l)
  have hi := (StuState.acting_iff.1 ha).1
  refine ⟨(Settles.postStability s hi).modes, fun _ L hL => ?_⟩
  cases L with
  | entry => exact fun _ => (State.stuActing_congr hs).trans ha
  | _ =>
    unfold State.postStability
    rw [hk]
    exact hL

/-- R82, R71: the STU begins to act: every axle is lowered and the groups are held. -/
theorem State.Keeps.act {x : Stability} (hi : s.stability.state ≠ .idle)
    (hx : x.state ≠ .idle ∧ x.state ≠ .armed) (h : s.RestLaws → (s.setStability x).RestLaws) :
    s.Keeps (s.setStability x).forceLower.rollArrives := by
  have ha : (s.setStability x).stuActing = true := StuState.acting_iff.2 hx
  have hk : (s.setStability x).Keeps (s.setStability x).forceLower.rollArrives := .after .rollArrives .forceLower
  have hload := LoadChange.after (.rollArrives _) (LoadChange.forceLower (s.setStability x))
  refine ⟨hk.rest ∘ h, fun hR L hL => ?_⟩
  cases L with
  | lowered =>
    refine fun _ a => ?_
    have hax : ∀ t : State, t.rollArrives.loads.axles = t.loads.axles := fun t =>
      State.foldl_keeps (P := fun u => u.loads.axles = t.loads.axles) (fun u g hu => by split <;> exact hu) _ rfl
    rw [State.axle, hax]
    exact (State.forceLower_lowered a).1
  | entry => exact hk.obeys (h hR) .entry fun _ => ha
  | ramp => exact hk.obeys (h hR) .ramp fun _ => ha
  | workshop => exact hk.obeys (h hR) .workshop fun hw => absurd (hL.off hi) hw
  | pending => exact hk.obeys (h hR) .pending hL
  | due g => exact hk.obeys (h hR) (.due g) hL

/-- The record as it stands after the axles are lowered. -/
theorem State.act_stability (x : Stability) : ((s.setStability x).forceLower.rollArrives).stability = x :=
  (LoadChange.after (.rollArrives _) (LoadChange.forceLower (s.setStability x))).stability

theorem State.Keeps.setActing {x : Stability} (ha : s.stuActing = true) (hs : x.state = s.stability.state)
    (hn : x.lastNegative = s.stability.lastNegative) (hl : x.liveLimit = s.stability.liveLimit)
    (hf : x.frozen = s.stability.frozen) : s.Keeps (s.setStability x) :=
  .setStability (Settles.modes (Steady.setActing s (StuState.acting_iff.1 ha).1 hn hl (.inr (.inl hf))).settles) hs
    fun _ => .inr ha

theorem State.Keeps.enterProbing {a : Int} (hi : s.stability.state ≠ .idle) : s.Keeps (s.enterProbing a) := by
  have hacts : ∀ {t : State} {x : Stability}, t.stability = x → x.state = .probing → t.stuActing = true :=
    fun h hx => StuState.acting_iff.2 (by rw [h, hx]; decide)
  unfold State.enterProbing
  dsimp only
  have hst := State.act_stability (s := s) { s.stability with
    state := .probing, probeSince := some s.now, inner := some (innerChannel a) }
  have h : s.Keeps (s.setStability { s.stability with
      state := .probing, probeSince := some s.now, inner := some (innerChannel a) }).forceLower.rollArrives :=
    .act hi ⟨nofun, nofun⟩ (Settles.modes (Steady.settles (.setActing s hi rfl rfl (.inr (.inl rfl)))))
  generalize (s.setStability { s.stability with
    state := .probing, probeSince := some s.now, inner := some (innerChannel a) }).forceLower.rollArrives = t at *
  have ha := hacts hst rfl
  split
  · refine .after (.suppress _) (.after (.postStability ?_) (.after (.setActing ha rfl rfl rfl rfl) h))
    exact hacts rfl (congrArg Stability.state hst)
  · exact .after (.setActing ha rfl rfl rfl rfl) h

theorem State.Keeps.enterIntervening (hi : s.stability.state ≠ .idle) : s.Keeps s.enterIntervening := by
  unfold State.enterIntervening
  dsimp only
  generalize hx : ({ s.stability with
    state := .intervening, frozen := some s.stability.liveLimit,
    pInt := some (interventionPressure s.stability.lr), inner := none, pulse := none, probeSince := none,
    exitSince := none, latSince := none } : Stability) = x
  have hxs : x.state = .intervening := by rw [← hx]
  have hst := State.act_stability (s := s) x
  have h : s.Keeps (s.setStability x).forceLower.rollArrives := by
    refine .act hi (by rw [hxs]; decide) (Settles.modes (Steady.settles ?_))
    rw [← hx]
    exact Steady.setActing s hi rfl rfl (.inr (.inr rfl))
  generalize (s.setStability x).forceLower.rollArrives = t at *
  have hl : t.liftSuppressions.stability = x := hst
  have hacts : ∀ {v : State}, v.stability.state = .intervening → v.stuActing = true :=
    fun hv => StuState.acting_iff.2 (by rw [hv]; decide)
  have ha : t.liftSuppressions.stuActing = true := hacts (by rw [hl, hxs])
  refine .after (.setNotices _) (.after (.postStability ?_) (.after (.setActing ha rfl rfl rfl rfl)
    (.after .liftSuppressions h)))
  exact hacts (by rw [State.setStability_stability, hl, hxs])

theorem State.Keeps.resumeIntervening (hi : s.stability.state ≠ .idle) : s.Keeps s.resumeIntervening :=
  .act hi ⟨nofun, nofun⟩ (Settles.modes (Steady.settles (.setActing s hi rfl rfl (.inr (.inl rfl)))))

theorem State.Keeps.enterRecovering (hi : s.stability.state = .intervening) : s.Keeps s.enterRecovering := by
  have ha : s.stuActing = true := StuState.acting_iff.2 (by rw [hi]; decide)
  have hb : s.enterRecovering.stuActing = true := rfl
  refine ⟨Settles.modes (Steady.enterRecovering s (by rw [hi]; decide)).settles, fun _ L hL => ?_⟩
  cases L with
  | entry | ramp => exact fun _ => hb
  | lowered => exact fun _ => hL ha
  | workshop => exact fun hw => absurd (hL.off (by rw [hi]; decide)) hw
  | pending | due => exact hL

theorem State.Keeps.compareArmed (a : Int) (hi : s.stability.state ≠ .idle) : s.Keeps (s.compareArmed a) := by
  unfold State.compareArmed
  refine .ite (fun _ => .enterIntervening hi) fun _ => .ite (fun _ => ?_) fun _ => .refl s
  split
  · exact .enterProbing hi
  · exact .ite (fun _ => .enterProbing hi) fun _ => .refl s

theorem State.Keeps.takeWheelLift (c : ChannelId) : s.Keeps (s.takeWheelLift c) :=
  .ite (fun h => .enterIntervening (by rw [h.1]; decide)) fun _ => .refl s

theorem State.Keeps.takeDriverPart (c : ChannelId) : s.Keeps (s.takeDriverPart c) :=
  .ite (fun h => .after .liftSuppressions (.setActing (StuState.acting_iff.2 (by rw [h.1]; decide)) rfl rfl rfl rfl))
    fun _ => .refl s

theorem State.Keeps.takeLateral (a : Int) : s.Keeps (s.takeLateral a) := by
  unfold State.takeLateral
  split
  · exact .refl s
  · rename_i h
    exact .compareArmed a (by rw [h]; decide)
  · rename_i h
    exact .ite (fun _ => .enterIntervening (by rw [h]; decide)) fun _ => .refl s
  · rename_i h
    have ha : s.stuActing = true := StuState.acting_iff.2 (by rw [h]; decide)
    exact .ite (fun _ => .setActing ha rfl rfl rfl rfl) fun _ => .setActing ha rfl rfl rfl rfl
  · rename_i h
    exact .ite (fun _ => .resumeIntervening (by rw [h]; decide)) fun _ => .refl s

theorem State.Keeps.followLateralValidity : s.Keeps s.followLateralValidity := by
  unfold State.followLateralValidity
  refine .ite (fun h => ?_) fun _ => .refl s
  have ha : s.stuActing = true := StuState.acting_iff.2 (by rw [h]; decide)
  split
  · exact .setActing ha rfl rfl rfl rfl
  · exact .setActing ha rfl rfl rfl rfl
  · exact .refl s

/-- R133: a unit that leaves IDLE does so without a workshop record, an entry or a ramp. -/
theorem State.Keeps.arm : s.Keeps s.arm := by
  refine .ite (fun h => ?_) fun _ => .refl s
  have hna : s.stuActing = false := by simp [State.stuActing, h.1]
  have hm := (Steady.arm s).settles.modes
  unfold State.arm at hm
  rw [if_pos h] at hm
  obtain ⟨hs, hi, -, -⟩ := h
  refine ⟨hm, fun _ L hL => ?_⟩
  cases L with
  | entry | ramp => exact fun k => absurd (hna.symm.trans (hL k)) (by decide)
  | lowered => exact fun k => by cases k
  | workshop =>
    intro hw
    simp only [State.idleCondition, Bool.or_eq_false_iff, decide_eq_false_iff_not, ne_eq, Decidable.not_not] at hi
    exact absurd hi.1.1.2 hw
  | pending | due => exact hL

theorem State.Keeps.followStates : s.Keeps s.followStates := by
  unfold State.followStates
  dsimp only
  split
  · exact .refl s
  · exact .ite (fun _ => .stuIdle) fun _ => .refl s
  · exact .ite (fun _ => .stuIdle) fun _ => .refl s
  · rename_i h
    exact .ite (fun _ => .stuIdle) fun _ => .ite (fun _ => .enterRecovering h) fun _ => .followLateralValidity
  · exact .ite (fun _ => .stuIdle) fun _ => .refl s

theorem State.Keeps.takeAccel : s.Keeps s.takeAccel :=
  .setStability (Steady.takeAccel s).settles.modes rfl .inl

theorem State.Keeps.formLimit : s.Keeps s.formLimit := by
  unfold State.formLimit
  dsimp only
  have h : s.Keeps (s.setStability { s.stability with
      lr := s.loadRatioInUse, derate := s.tyreDerate,
      liveLimit := rolloverLimit s.settings.stability s.loadRatioInUse s.tyreDerate }) :=
    .setStability (Settles.modes (Steady.settles (.setSameState s rfl rfl (.inr (rolloverLimit_range _ _ _)) rfl))) rfl .inl
  refine .ite (fun _ => h) fun _ => ?_
  split
  · rename_i hs _
    exact .after (.compareArmed _ (by rw [hs]; decide)) h
  · exact h

theorem State.Keeps.followStability : s.Keeps s.followStability := .after .formLimit (.after .followStates .takeAccel)

/-- R133: the STU follows a workshop record that is not OFF. -/
theorem State.followStates_workshop (h : s.RestLaws) : s.followStates.Obeys .workshop := by
  by_cases hw : s.mode.workshop = .off
  · exact State.Keeps.followStates.obeys h .workshop fun k => absurd hw k
  · have hi : s.idleCondition = true := by simp [State.idleCondition, hw]
    unfold State.followStates
    dsimp only
    rw [hi]
    split
    · exact fun _ => ‹_›
    all_goals exact fun _ => congrArg Stability.state (LoadChange.rollEnds _).stability

/-! ### Channels -/

theorem State.Keeps.setChannel {c : ChannelId} {r : ChannelRecord} (h : s.RestLaws → (s.setChannel c r).RestLaws) :
    s.Keeps (s.setChannel c r) := .of_rest h rfl rfl rfl rfl

/-- A channel record whose valves and delivered-input measurement stay. -/
theorem State.Keeps.setPlain {c : ChannelId} {r : ChannelRecord} (hd : r.deliveredSince = (s.channel c).deliveredSince)
    (hi : r.inlet = (s.channel c).inlet) (he : r.exhaust = (s.channel c).exhaust) : s.Keeps (s.setChannel c r) :=
  .setChannel (Steady.setPlain s hd hi he).settles.modes

theorem State.Keeps.enterRelease (c : ChannelId) : s.Keeps (s.enterRelease c) :=
  .after (.takeWheelLift c) (.setPlain rfl rfl rfl)

theorem State.Keeps.freeChannel (c : ChannelId) : s.Keeps (s.freeChannel c) := .setPlain rfl rfl rfl

theorem State.Keeps.testActivity (c : ChannelId) : s.Keeps (s.testActivity c) :=
  .ite (fun _ => .refl s) fun _ => .freeChannel c

theorem State.Keeps.lockOnSlip (c : ChannelId) : s.Keeps (s.lockOnSlip c) := by
  unfold State.lockOnSlip
  refine .ite (fun _ => ?_) fun _ => .freeChannel c
  dsimp only
  split
  · exact .ite (fun _ => .enterRelease c) fun _ => .refl s
  · exact .ite (fun _ => .setPlain rfl rfl rfl) fun _ => .refl s
  · exact .refl s
  · exact .ite (fun _ => .enterRelease c) fun _ => .refl s

theorem State.Keeps.lockOnTarget (c : ChannelId) : s.Keeps (s.lockOnTarget c) := by
  unfold State.lockOnTarget
  refine .ite (fun _ => ?_) fun _ => .freeChannel c
  split
  · exact .ite (fun _ => .enterRelease c) fun _ => .refl s
  all_goals exact .ite (fun _ => .freeChannel c) fun _ => .refl s

theorem State.Keeps.rampCap (c : ChannelId) : s.Keeps (s.rampCap c) := by
  unfold State.rampCap
  dsimp only
  split
  · exact .ite (fun _ => .after (.freeChannel c) (.setPlain rfl rfl rfl)) fun _ => .setPlain rfl rfl rfl
  all_goals exact .refl s

theorem State.Keeps.followSlip (c : ChannelId) : s.Keeps (s.followSlip c) := by
  unfold State.followSlip
  dsimp only
  have h : s.Keeps (s.setChannel c { s.channel c with
      wheelSpeed := s.formedWheelSpeed c, slip := s.formedSlip c }) := .setPlain rfl rfl rfl
  have h1 := State.Keeps.after (.lockOnSlip c) h
  refine .ite (fun _ => h) fun _ => ?_
  split
  · exact .ite (fun _ => .after (.takeWheelLift c) h1) fun _ => h1
  · exact h1

theorem State.Keeps.followSlips : s.Keeps s.followSlips :=
  .foldl (f := fun (t : State) c => (t.followSlip c).testActivity c) (fun _ c => .after (.testActivity c) (.followSlip c)) _

theorem State.Keeps.followValves (c : ChannelId) : s.Keeps (s.followValves c) :=
  .of_rest (Steady.followValves s c).settles.modes rfl rfl rfl rfl

theorem State.Keeps.followAllValves : s.Keeps s.followAllValves :=
  .after (.of_rest (Steady.followRedundancy _).settles.modes rfl rfl rfl rfl) (.foldl (fun _ c => .followValves c) _)

theorem State.Keeps.takeDelivered (c : ChannelId) (v : Nat) : s.Keeps (s.takeDelivered c v) := by
  rw [State.takeDelivered_eq]
  refine .after (.rampCap c) (.setChannel (Settles.modes (.setChannel s ?_ ?_)))
  · unfold State.deliveredTaken
    split <;> rfl
  · unfold State.deliveredTaken
    split
    · exact .inr (.inr (State.drivesValves_modes ‹_›))
    · exact .inl ⟨rfl, rfl⟩

/-! ### Demands -/

/-- P_d, the mismatch record and the braking condition. -/
theorem State.Keeps.setDemands {x : Demands} (h : x.table = s.demands.table) : s.Keeps (s.setDemands x) :=
  .same rfl rfl rfl h rfl rfl

theorem State.Keeps.followMismatch : s.Keeps s.followMismatch := by
  unfold State.followMismatch
  refine .ite (fun _ => ?_) fun _ => .setDemands rfl
  split
  · exact .ite (fun _ => .setDemands rfl) fun _ => .refl s
  · exact .ite (fun _ => .refl s) fun _ => .setDemands rfl
  · exact .ite (fun _ => .refl s) fun _ => .setDemands rfl
  · exact .ite (fun _ => .setDemands rfl) fun _ => .refl s

theorem State.Keeps.followDriver : s.Keeps s.followDriver := by
  have h : s.Keeps (s.setDemands { s.demands with driver := s.formedDriver }) := .setDemands rfl
  exact .ite (fun _ => h) fun _ => .after (.takeBraking _) h

theorem State.Keeps.followRatio (g : GroupId) : s.Keeps (s.followRatio g) := .setGroupSame rfl

theorem State.Keeps.followTarget (c : ChannelId) : s.Keeps (s.followTarget c) := by
  have h : s.Keeps (s.setChannel c { s.channel c with
      target := s.formedTarget c, driverPart := s.formedDriverPart c }) := .setPlain rfl rfl rfl
  exact .after (.takeDriverPart c) (.ite (fun _ => h) fun _ => .after (.lockOnTarget c) h)

theorem State.Keeps.followDemands : s.Keeps s.followDemands :=
  .after (.followTarget _) (.after (.followTarget _) (.after (.followTarget _) (.after (.followRatio _)
    (.after (.followRatio _) (.after .followDriver .followMismatch)))))

/-! ### Motion and power -/

theorem State.Keeps.setInputs (x : Inputs) : s.Keeps (s.setInputs x) := .same rfl rfl rfl rfl rfl rfl

theorem State.Keeps.enterRunOn : s.Keeps s.enterRunOn :=
  .setPower (Steady.enterRunOn s).settles.modes rfl fun h => by cases h

/-- R152, R154: the part awake. -/
theorem State.Keeps.setAwake {m : Mode} (h1 : m.wakeRaw = s.mode.wakeRaw) (h2 : m.wakeRawSince = s.mode.wakeRawSince)
    (h3 : m.wakeTaken = s.mode.wakeTaken) (h4 : m.workshop = s.mode.workshop) (h5 : m.running = s.mode.running)
    (h6 : m.power = .awake) : s.Keeps (s.setMode m) := by
  have hw : m.power = .watch → s.mode.power = .watch := fun h => by rw [h6] at h; cases h
  exact .setPower (Settles.modes (.setPower s h1 h2 h3 h4 (by rw [h5]; exact running_same _) hw)) h4 hw

theorem State.Keeps.wake : s.Keeps s.wake := by
  have h : s.Keeps (s.setMode { s.mode with power := .awake, awaited := true, runOnSince := none }) :=
    .setAwake rfl rfl rfl rfl rfl rfl
  exact .ite (fun _ => .setAwake rfl rfl rfl rfl rfl rfl) fun _ => .ite (fun _ => .after .enterRunOn h) fun _ => h

theorem State.Keeps.clearSuspensions : s.Keeps s.clearSuspensions :=
  .of_rest (Steady.clearSuspensions s).settles.modes rfl rfl rfl rfl

theorem State.Keeps.enterMotion (m : Motion) : s.Keeps (s.enterMotion m) := by
  have h : s.Keeps (s.setInputs { s.inputs with motion := m }) := .setInputs _
  unfold State.enterMotion
  cases m with
  | standstill =>
    have h1 := State.Keeps.after .clearSuspensions h
    dsimp only
    split
    · exact .ite (fun _ => .after .enterRunOn h1) fun _ => h1
    · exact h1
    · exact h1
  | rolling => exact h
  | moving =>
    dsimp only
    split
    · exact h
    · exact .after (.setAwake rfl rfl rfl rfl rfl rfl) h
    · exact .after .wake h

theorem State.Keeps.takeMotion : s.Keeps s.takeMotion :=
  .ite (fun _ => .setInputs _) fun _ => .after (.enterMotion _) (.setInputs _)

theorem State.Keeps.followReference : s.Keeps s.followReference := by
  have h : s.Keeps (s.setInputs { s.inputs with reference := s.formedReference }) := .setInputs _
  refine .ite (fun _ => h) fun _ => .after (.foldl (fun _ a => .boundHeldUp a) _)
    (.after (.foldl (fun _ a => .judgeLiftFault a) _) (.after .takeMotion ?_))
  exact .ite (fun _ => .after .workshopOff h) fun _ => h

theorem State.Keeps.followSupply : s.Keeps s.followSupply := by
  have h : s.Keeps (s.setInputs { s.inputs with supplyLow := s.supplyBelow }) := .setInputs _
  exact .ite (fun _ => .after .forceLower h) fun _ => h

/-! ### A settled change -/

/-- What stands before the STU in a round. -/
theorem State.Keeps.roundStart : s.Keeps s.followReference.followSupply.testAllTyres.followDemands.followSlips :=
  .after .followSlips (.after .followDemands (.after .testAllTyres (.after .followSupply .followReference)))

theorem State.Keeps.round : s.Keeps s.round :=
  .after .followAllValves (.after .followLifts (.after .followBand (.after .followReadiness (.after .followDemands
    (.after .followStability .roundStart)))))

theorem State.Keeps.close : s.Keeps s.close := .after .arm (.after .followDemands (.after .followDemands .followReference))

theorem State.Keeps.settleEnd : s.Keeps s.round.round.close.followLevels :=
  .after (.setNotices _) (.after .close (.after .round .round))

/-- R76: a group whose raise measurement does not run has no raise due. -/
theorem State.followRaise_notDue {g : GroupId} (h : s.mode.power = .watch) :
    ((s.followRaise g).group g).raiseDue = false := by
  have hr : s.raiseRuns g = false := by
    cases hc : s.raiseRuns g with
    | false => rfl
    | true => exact absurd h (State.raiseRuns_awake hc)
  have hd : s.decisionsRun = false := by simp [State.decisionsRun, h]
  unfold State.followRaise
  rw [hr, if_neg Bool.false_ne_true]
  split
  · simp [State.endRaise, hd]
  · rename_i hc
    simp only [Bool.or_eq_true, not_or, Bool.not_eq_true] at hc
    exact hc.1.2

/-- R76, R82: in WATCH the lift rules leave no raise due. -/
theorem State.followLifts_due (h : s.RestLaws) (g : GroupId) : s.followLifts.Obeys (.due g) := by
  unfold State.followLifts
  dsimp only
  have h1 : s.Keeps (AxleId.list.foldl State.dropFlag (AxleId.list.foldl State.retryHeldUp s)) :=
    .after (.foldl (fun _ a => .dropFlag a) _) (.foldl (fun _ a => .retryHeldUp a) _)
  generalize AxleId.list.foldl State.dropFlag (AxleId.list.foldl State.retryHeldUp s) = t at *
  have h2 : (GroupId.list.foldl State.followRaise t).RestLaws ∧ (GroupId.list.foldl State.followRaise t).Obeys (.due g) :=
    ⟨(State.Keeps.foldl (fun _ k => .followRaise k) _).rest (h1.rest h),
      foldl_reaches (P := State.RestLaws) (Q := fun v => v.Obeys (.due g))
        (fun _ k hv => (State.Keeps.followRaise k).rest hv)
        (fun _ k hv hq => (State.Keeps.followRaise k).obeys hv _ hq)
        (fun v _ hw => State.followRaise_notDue ((LoadChange.followRaise v g).power.symm.trans hw)) g.mem_list (h1.rest h)⟩
  exact (State.Keeps.foldl (fun _ a => .followLower a) _).obeys h2.1 _ h2.2

/-- The first round restores the law of the workshop and that of the raises due. -/
theorem State.Poise.round (h : s.Poise) : s.round.ModeLaws := by
  have h1 := State.Keeps.after .takeAccel .roundStart |>.poise h
  have h2 : s.followReference.followSupply.testAllTyres.followDemands.followSlips.followStability.Poise ∧
      s.followReference.followSupply.testAllTyres.followDemands.followSlips.followStability.Obeys .workshop := by
    have hk := State.Keeps.after .formLimit .followStates |>.poise h1
    have hw := State.Keeps.formLimit.obeys (State.Keeps.followStates.rest h1.rest) .workshop
      (State.followStates_workshop h1.rest)
    exact ⟨hk, hw⟩
  rw [State.round_eq]
  generalize s.followReference.followSupply.testAllTyres.followDemands.followSlips.followStability = t at *
  have h3 : t.Keeps t.followDemands.followReadiness.followBand := .after .followBand (.after .followReadiness .followDemands)
  have hR := h3.rest h2.1.rest
  have h4 := State.Keeps.after .followAllValves (.after .followLifts h3)
  refine State.modeLaws_iff.2 ⟨h4.rest h2.1.rest, fun L => ?_⟩
  cases L with
  | workshop => exact h4.obeys h2.1.rest _ h2.2
  | due g =>
    exact State.Keeps.followAllValves.obeys (State.Keeps.followLifts.rest hR) _ (State.followLifts_due hR g)
  | _ => exact (h4.poise h2.1).obeys _ nofun nofun

/-- R82, R94, R101, R123, R153: a settled change obeys every law of the modes. -/
theorem State.Poise.settle (h : s.Poise) : s.settle.ModeLaws := State.Keeps.settleEnd.lawful h.round

theorem State.Keeps.settle (h : s.Keeps t) (hs : s.ModeLaws) : t.settle.ModeLaws := (h.poise hs.poise).settle

end

end Sys2Proof.Machine
end

section
/-! SUPPORT. The operations of the commands before they settle keep the laws of the modes (R40, R47, R82, R87 to R94, R138,
R153). -/
namespace Sys2Proof.Machine

section
variable {s t u : State}

/-! ### The demand table and the Telegram Intake -/

/-- R94, R101: where an entry of a source may be created, but for the STU's. -/
def State.Permits (s : State) : Source → Prop
  | .digital => s.mode.power ≠ .watch
  | .pneumatic => True
  | .emergency => True
  | .stability => False
  | .test => s.mode.workshop = .stepRunning

/-- A table in which an entry stands only where one stood or is permitted. -/
theorem State.Keeps.entries {x : Demands} (h : ∀ z, (s.setDemands x).hasEntry z = true → s.hasEntry z = true ∨ s.Permits z) :
    s.Keeps (s.setDemands x) := by
  have hno : ∀ z, s.hasEntry z = false → ¬s.Permits z → (s.setDemands x).hasEntry z = false := fun z h1 h2 =>
    Bool.eq_false_iff.2 fun hc => (h z hc).elim (fun h3 => absurd (h1.symm.trans h3) (by decide)) h2
  refine ⟨fun k => ⟨k.fallback, fun hw => ?_, fun hw => ?_⟩, fun _ L hL => ?_⟩
  · obtain ⟨hr, ht⟩ := k.workshop hw
    exact ⟨hr, hno .test ht hw⟩
  · obtain ⟨⟨hd, hs⟩, hrest⟩ := k.watch hw
    exact ⟨⟨hno .digital hd fun hc => hc hw, hno .stability hs id⟩, hrest⟩
  · cases L with
    | entry => exact fun k => hL ((h .stability k).resolve_right id)
    | _ => exact hL

theorem State.Keeps.retireEntry (x : Source) : s.Keeps (s.retireEntry x) := by
  refine .entries fun z hz => .inl ?_
  by_cases hx : z = x
  · subst hx
    rw [State.hasEntry_iff, show (s.setDemands _).entry z = none from State.retireEntry_entry_self s z] at hz
    cases hz
  · rw [State.hasEntry_iff] at hz ⊢
    rwa [← State.retireEntry_entry_ne s hx]

theorem State.Keeps.postEntry {x : Source} (d : Demand) (hx : s.Permits x) : s.Keeps (s.postEntry x d) := by
  have he : ∀ z, (s.postEntry x d).hasEntry z = true → s.hasEntry z = true ∨ s.Permits z := fun z hz => by
    by_cases hzx : z = x
    · exact .inr (hzx ▸ hx)
    · rw [State.hasEntry_iff, State.postEntry_entry_ne s d hzx] at hz
      exact .inl hz
  obtain ⟨k, hk⟩ := s.postEntry_setDemands x d
  rw [hk] at he ⊢
  exact .entries he

theorem State.Keeps.setIntake {x : Intake} (h : s.mode.power = .watch → s.intake.window = none →
    s.intake.candidates = [] → x.window = none ∧ x.candidates = []) : s.Keeps (s.setIntake x) :=
  .of_rest (fun k => ⟨k.fallback, k.workshop, fun hw =>
    have ⟨h1, h2, h3⟩ := k.watch hw
    ⟨h1, h hw h2.1 h2.2, h3⟩⟩) rfl rfl rfl rfl

/-- An intake whose window and candidates stay. -/
theorem State.Keeps.setReception {x : Intake} (hw : x.window = s.intake.window) (hc : x.candidates = s.intake.candidates) :
    s.Keeps (s.setIntake x) := .setIntake fun _ h1 h2 => ⟨hw.trans h1, hc.trans h2⟩

/-! ### The wheel position table -/

theorem State.Keeps.of_pairsOnly (h : s.PairsOnly t) : s.Keeps t := by
  rw [h]
  exact .same rfl rfl rfl rfl rfl rfl

theorem State.Keeps.setPosition (p : Position) (r : PositionRecord) : s.Keeps (s.setPosition p r) :=
  .same rfl rfl rfl rfl rfl rfl

theorem State.Keeps.setSettings (x : Settings) : s.Keeps (s.setSettings x) := .same rfl rfl rfl rfl rfl rfl

theorem State.Keeps.setStore (x : Store) : s.Keeps (s.setStore x) := .same rfl rfl rfl rfl rfl rfl

theorem State.Keeps.setPort (x : Port) : s.Keeps (s.setPort x) := .same rfl rfl rfl rfl rfl rfl

theorem State.Keeps.evaluateOffering (p : Position) : s.Keeps (s.evaluateOffering p) :=
  .ite (fun _ => .evaluate p) fun _ => .after .testAllTyres (.evaluate p)

theorem State.Keeps.cancelWindow : s.Keeps s.cancelWindow := by
  unfold State.cancelWindow
  split
  · exact .refl s
  · exact .after (.setNotices _) (.after (.setPosition _ _) (.setIntake fun _ _ hc => ⟨rfl, hc⟩))

theorem State.Keeps.retirePosition (p : Position) : s.Keeps (s.retirePosition p) := by
  rcases (s.position p).state.cases_bound with h | h | h
  · rw [State.retirePosition_empty h]
    exact .refl s
  · rw [State.retirePosition_learning h]
    exact .cancelWindow
  · rw [State.retirePosition_bound h]
    exact .of_onlyTyres (State.clearBound_spec s p).1

theorem State.Keeps.fallSilent (p : Position) : s.Keeps (s.fallSilent p) :=
  .ite (fun _ => .after (.of_onlyTyres (State.comparePairOf_onlyTyres p)) (.after (.setNotices _) (.setPosition p _)))
    fun _ => .refl s

theorem State.Keeps.reportTelegram (p : Position) : s.Keeps (s.reportTelegram p) := by
  unfold State.reportTelegram
  split
  · rename_i hr
    exact .ite (fun _ => .stepDone (by rw [hr]; nofun)) fun _ => .refl s
  · exact .refl s

theorem State.Keeps.noteDuplicate (t : Telegram) : s.Keeps (s.noteDuplicate t) := by
  rw [s.noteDuplicate_frame t]
  exact .setNotices _

theorem State.Keeps.noteReady (c d : Candidate) : s.Keeps (s.noteReady c d) :=
  .ite (fun _ => .setNotices _) fun _ => .refl s

/-- R40, R45: a candidate is taken outside WATCH. -/
theorem State.Keeps.takeCandidate {k : SensorKind} {t : Telegram} (hw : s.mode.power ≠ .watch) :
    s.Keeps (s.takeCandidate k t) := by
  have hset : ∀ l, s.Keeps (s.setCandidates l) := fun l => .setIntake fun h => absurd h hw
  unfold State.takeCandidate
  split
  · split
    · exact .after (.noteReady _ _) (hset _)
    · exact .refl s
  · exact .after (.noteReady _ _) (hset _)

/-- R36, R40: a trigger is taken while the window is open. -/
theorem State.Keeps.setTrigger {w v : LearnWindow} (x : Option Trigger) (hw : s.intake.window = some v) :
    s.Keeps (s.setTrigger w x) := .setIntake fun _ h => by rw [hw] at h; cases h

theorem State.Keeps.takeTrigger {w : LearnWindow} {k : SensorKind} {t : Telegram} (hw : s.intake.window = some w) :
    s.Keeps (s.takeTrigger w k t) := by
  unfold State.takeTrigger
  split
  · exact .setTrigger _ hw
  · exact .ite (fun _ => .setTrigger _ hw) fun _ => .after (.setNotices _) (.setTrigger _ hw)

theorem State.Keeps.takeBound (p : Position) (t : Telegram) : s.Keeps (s.takeBound p t) :=
  .after (.noteDuplicate t) (.after (.reportTelegram p) (.after (.evaluate p) (.setPosition p _)))

theorem State.Keeps.takeTest (t : Telegram) : s.Keeps (s.takeTest t) := by
  unfold State.takeTest
  refine .ite (fun _ => ?_) fun _ => .refl s
  split
  · exact .after (.reportTelegram _) (.setPosition _ _)
  · exact .refl s

theorem State.Keeps.takeUnbound (k : SensorKind) (t : Telegram) : s.Keeps (s.takeUnbound k t) := by
  unfold State.takeUnbound
  split
  · exact .takeTrigger ‹_›
  all_goals exact .ite (fun _ => .refl s) fun h => .takeCandidate h

theorem State.Keeps.takeTelegram (t : Telegram) : s.Keeps (s.takeTelegram t) := by
  unfold State.takeTelegram
  split
  · exact .refl s
  · exact .takeTest t
  · split
    · exact .takeBound _ t
    · exact .refl s
  · split
    · exact .takeBound _ t
    · exact .takeUnbound _ t

theorem State.Keeps.filterCandidates (f : Candidate → Bool) : s.Keeps (s.setCandidates (s.intake.candidates.filter f)) :=
  .setIntake fun _ h1 h2 => ⟨h1, by rw [h2]; rfl⟩

theorem State.Keeps.confirm {w : LearnWindow} (x : Trigger) (hw : s.intake.window = some w) : s.Keeps (s.confirm w x) := by
  unfold State.confirm
  split
  · exact .after (.setNotices _) (.setTrigger _ hw)
  · exact .after (.reportTelegram _) (.after (.evaluate _) (.after (.setNotices _) (.after (.filterCandidates _)
      (.after (.setIntake fun _ _ hc => ⟨rfl, hc⟩) (.setPosition _ _)))))

theorem State.Keeps.writeValues (l : List Nat) (i k : Nat) : s.Keeps (s.writeValues i k l).1 := by
  induction l generalizing s i k with
  | nil => exact .refl s
  | cons v l ih =>
    unfold State.writeValues
    split
    · exact .refl s
    · split
      · exact .refl s
      · exact .after (ih _ _) (.after (.evaluateOffering _) (.setPosition _ _))

/-! ### The layout and the reload -/

theorem State.Keeps.relaidAxles {f : AxleId → StoredAxle} (l : List AxleId) :
    s.Keeps (l.foldl (fun t a => t.setAxle a ((t.axle a).relaid (f a))) s) :=
  .foldl (f := fun (t : State) a => t.setAxle a ((t.axle a).relaid (f a)))
    (fun _ _ => .setAxleSame rfl fun h => by cases h) l

theorem State.Keeps.groupEnters (g : GroupId) : s.Keeps (s.groupEnters g) := by
  have hset : ∀ r : GroupRecord, r.raiseDue = false → s.Keeps (s.setGroup g r) := fun r hr =>
    .setGroup fun h => by rw [hr] at h; cases h
  unfold State.groupEnters
  dsimp only
  split
  · exact .after (.formLoad g) (hset _ rfl)
  · exact hset _ rfl
  · exact hset _ rfl

theorem State.Keeps.regroup (old : PerAxle AxleRecord) (g : GroupId) : s.Keeps (s.regroup old g) := by
  unfold State.regroup
  refine .after (.followTransition g) (.after (.endRaise g false) (.after (.recount g) ?_))
  exact .ite (fun _ => .ite (fun _ => .refl s) fun _ => .groupEnters g) fun _ => .setGroup fun h => by cases h

theorem State.Keeps.retireByLayout (old : PerAxle AxleRecord) : s.Keeps (s.retireByLayout old) :=
  .foldl (f := State.retireStep old) (fun _ p => .ite
    (fun _ => .ite (fun _ => .refl _) fun _ => .after (.setNotices _) (.retirePosition p)) fun _ => .refl _) _

theorem State.Keeps.followLayout (old : PerAxle AxleRecord) : s.Keeps (s.followLayout old) :=
  .after (.foldl (fun _ g => .regroup old g) _)
    (.after (.of_pairsOnly State.deriveAllPairs_pairsOnly) (.retireByLayout old))

theorem State.Keeps.writeLayout (x : PerAxle StoredAxle) (c n : Nat) : s.Keeps (s.writeLayout x c n) :=
  .after (.followLayout _) (.after (.setSettings _)
    (.relaidAxles (f := fun a => { x.get a with mode := notHeldUp (x.get a).mode }) AxleId.list))

theorem State.Keeps.governReloaded (a : AxleId) : s.Keeps (s.governReloaded a) := by
  unfold State.governReloaded
  dsimp only
  split
  · exact .refl s
  · exact .lowerAxle a
  · exact .ite (fun _ => .refl s) fun _ => .setAxleSame rfl id

theorem State.governReloaded_stability (a : AxleId) : (s.governReloaded a).stability = s.stability := by
  unfold State.governReloaded
  dsimp only
  split
  · rfl
  · exact (LoadChange.lowerAxle s a).stability
  · split <;> rfl

/-- R65: a reload lifts axles, while the STU does not act. -/
theorem State.Keeps.reloadLifts {old : PerAxle AxleRecord} (h : s.stuActing = false) : s.Keeps (s.reloadLifts old) := by
  refine (State.foldl_keeps (P := fun t => t.stability = s.stability ∧ s.Keeps t)
    (f := fun (t : State) a => (t.setLift a (reloadedLift (old.get a) (t.axle a).layout)).governReloaded a)
    (fun t a ht => ⟨?_, ?_⟩) _ ⟨rfl, .refl s⟩).2
  · exact ((State.governReloaded_stability a).trans (LoadChange.setLift t a _).stability).trans ht.1
  · exact .after (.governReloaded a) (.after (.setLift fun _ => .inr ((State.stuActing_congr ht.1).trans h)) ht.2)

theorem State.Keeps.reloadLayout {x : Image} (h : s.stuActing = false) : s.Keeps (s.reloadLayout x) := by
  refine .after (.followLayout _) (.after (.reloadLifts ?_) (.after (.setSettings _) (.relaidAxles AxleId.list)))
  refine (State.stuActing_congr ?_).trans h
  exact State.foldl_keeps (P := fun t => t.stability = s.stability)
    (f := fun t a => t.setAxle a ((t.axle a).relaid (x.axles.get a))) (fun _ _ ht => ht) _ rfl

/-- A channel record whose valves stay. -/
theorem State.Keeps.setValved {c : ChannelId} {r : ChannelRecord} (hi : r.inlet = (s.channel c).inlet)
    (he : r.exhaust = (s.channel c).exhaust) : s.Keeps (s.setChannel c r) := by
  have hc : ∀ d, ((s.setChannel c r).channel d).inlet = (s.channel d).inlet ∧
      ((s.setChannel c r).channel d).exhaust = (s.channel d).exhaust := fun d => by
    rw [State.setChannel_channel]
    split
    · rename_i h
      subst h
      exact ⟨hi, he⟩
    · exact ⟨rfl, rfl⟩
  have hv : (∀ d, (s.channel d).inlet = false ∧ (s.channel d).exhaust = false) → ∀ d,
      ((s.setChannel c r).channel d).inlet = false ∧ ((s.setChannel c r).channel d).exhaust = false := fun h d =>
    ⟨(hc d).1.trans (h d).1, (hc d).2.trans (h d).2⟩
  refine .setChannel fun h => ⟨fun hf => ?_, h.workshop, fun hw => ?_⟩
  · obtain ⟨h1, h2⟩ := h.fallback hf
    exact ⟨hv h1, h2⟩
  · obtain ⟨h1, h2, ⟨h3, h4⟩, h5⟩ := h.watch hw
    exact ⟨h1, h2, ⟨hv h3, h4⟩, h5⟩

theorem State.Keeps.followThird (b : Bool) : s.Keeps (s.followThird b) :=
  .ite (fun _ => .refl s) fun _ => .setValved rfl rfl

theorem State.Keeps.recalibrate (g : GroupId) : s.Keeps (s.recalibrate g) := by
  unfold State.recalibrate
  split
  · exact .formLoad g
  · exact .refl s
  · exact .after (.boundGroup g) (.setGroupSame rfl)

theorem State.Keeps.reload {x : Image} (hs : s.stuActing = false) : s.Keeps (s.reload x) := by
  have h : s.Keeps ((s.reloadLayout x).reloadSettings x.settings) :=
    .after (.recalibrate _) (.after (.recalibrate _) (.after (.followThird _) (.after (.setSettings _) (.reloadLayout hs))))
  rw [State.reload_eq]
  refine .after (.of_pairsOnly State.compareAllPairs_pairsOnly) (.after (.filterCandidates _) (.after ?_ h))
  exact .foldl (fun t p => .of_onlyTyres (t.reloadPosition_onlyTyres p _)) _

/-! ### Lifts and loads -/

theorem State.Keeps.takeMode {a : AxleId} {m : LiftMode} (hw : s.mode.power ≠ .watch) : s.Keeps (s.takeMode a m) := by
  cases m with
  | auto => exact .setAxleSame rfl fun h => by cases h
  | heldDown => exact .after (.lowerAxle a) (.setAxleSame rfl fun h => by cases h)
  | heldUp =>
    have hset : s.Keeps (s.setAxle a { s.axle a with mode := .heldUp }) := .setAxleSame rfl id
    refine .ite (fun _ => .ite (fun h => ?_) fun _ => ?_) fun _ => hset
    · exact .after (.setLift fun _ => .inr (State.heldUpMayRise_resting (s := s) h)) hset
    · exact .after (.setAxle .inl fun _ => .inr hw) hset

theorem State.Keeps.judgeWheelFaults (w : WheelId) : s.Keeps (s.judgeWheelFaults w) := by
  rw [State.judgeWheelFaults_eq]
  exact .foldl (fun _ a => .judgeLiftFault a) _

/-! ### Inputs -/

theorem State.Keeps.setWheel (w : WheelId) (x : WheelInput) : s.Keeps (s.setWheel w x) := .same rfl rfl rfl rfl rfl rfl

theorem State.Keeps.setAnalog (i : AnalogId) (x : AnalogInput) : s.Keeps (s.setAnalog i x) := .same rfl rfl rfl rfl rfl rfl

theorem State.Keeps.setControlSince (x : Option Nat) : s.Keeps (s.setChannels { s.channels with controlSince := x }) :=
  .of_rest (fun h => ⟨h.fallback, h.workshop, h.watch⟩) rfl rfl rfl rfl

/-- The start or the end of the invalid time of a delivered input. -/
theorem State.Keeps.setDeliveredSince (c : ChannelId) (x : Option Nat) :
    s.Keeps (s.setChannel c { s.channel c with deliveredSince := x }) :=
  .setValved rfl rfl

theorem State.Keeps.takeControl (v : Nat) : s.Keeps (s.takeControl v) :=
  .ite (fun _ => .ite (fun _ => .retireEntry _) fun _ => .postEntry _ trivial) fun _ =>
    .ite (fun _ => .postEntry _ trivial) fun _ => .refl s

theorem State.Keeps.takeSupply (v : Nat) : s.Keeps (s.takeSupply v) :=
  .ite (fun _ => .ite (fun _ => .retireEntry _) fun _ => .refl s) fun _ =>
    .ite (fun _ => .after .forceLower (.postEntry _ trivial)) fun _ => .refl s

theorem State.Keeps.bellowsValid (g : GroupId) : s.Keeps (s.bellowsValid g) :=
  .ite (fun _ => .ite (fun _ => .setGroupSame rfl) fun _ => .after (.formLoad g) (.setGroupSame rfl)) fun _ => .refl s

theorem State.Keeps.bellowsInvalid (g : GroupId) (n : Nat) : s.Keeps (s.bellowsInvalid g n) :=
  .ite (fun _ => .setGroupSame (s.group g).entered_raiseDue) fun _ => .refl s

theorem State.Keeps.controlEvent (e : AnalogEvent) : s.Keeps (s.controlEvent e) := by
  cases e with
  | newAverage v => exact .takeControl _
  | becameValid v => exact .after (.takeControl _) (.setControlSince _)
  | becameInvalid n => exact .after (.retireEntry _) (.setControlSince _)
  | silent => exact .refl s

theorem State.Keeps.supplyEvent (e : AnalogEvent) : s.Keeps (s.supplyEvent e) := by
  cases e with
  | newAverage v => exact .takeSupply _
  | becameValid v => exact .takeSupply _
  | becameInvalid n => exact .retireEntry _
  | silent => exact .refl s

theorem State.Keeps.deliveredEvent (c : ChannelId) (e : AnalogEvent) : s.Keeps (s.deliveredEvent c e) := by
  cases e with
  | newAverage v => exact .takeDelivered c _
  | becameValid v => exact .after (.takeDelivered c _) (.setDeliveredSince c _)
  | becameInvalid n => exact .setDeliveredSince c _
  | silent => exact .refl s

theorem State.Keeps.bellowsEvent (g : GroupId) (e : AnalogEvent) : s.Keeps (s.bellowsEvent g e) := by
  cases e with
  | newAverage v => exact .formLoad g
  | becameValid v => exact .bellowsValid g
  | becameInvalid n => exact .bellowsInvalid g n
  | silent => exact .refl s

theorem State.Keeps.lateralEvent (e : AnalogEvent) : s.Keeps (s.lateralEvent e) := by
  cases e with
  | newAverage v => exact .after (.takeLateral v) .followStability
  | becameValid v => exact .after (.takeLateral v) (.after .arm .followStability)
  | becameInvalid n => exact .refl s
  | silent => exact .refl s

theorem State.Keeps.analogEvent (i : AnalogId) (e : AnalogEvent) : s.Keeps (s.analogEvent i e) := by
  cases i with
  | ctl => exact .controlEvent e
  | sup => exact .supplyEvent e
  | lat => exact .lateralEvent e
  | b1 | b2 => exact .bellowsEvent _ e
  | dl | dr | dx => exact .deliveredEvent _ e

/-! ### The STU, the workshop and the brake mode -/

/-- R138: the pressure of a ramp is posted while the STU acts. -/
theorem State.Keeps.movePressure {v : Nat} (ha : s.stuActing = true) : s.Keeps (s.movePressure v) :=
  .ite (fun _ => .refl s) fun _ => .after (.postStability (by exact ha)) (.setActing ha rfl rfl rfl rfl)

/-- R136: the negative end of a probe. -/
theorem State.Keeps.negativeProbe (hi : s.stability.state ≠ .idle) : s.Keeps s.negativeProbe := by
  refine .after (.setStability (fun h => ⟨h.fallback, h.workshop, h.watch⟩) rfl .inl) (.stuArmed hi)

/-- R150: a step begins while STEP RUNNING stands and the STU is at rest. -/
theorem State.Keeps.startStep {x : Step} (hw : s.mode.workshop = .stepRunning) (hr : s.mode.running ≠ none)
    (ha : s.stuActing = false) : s.Keeps (s.startStep x) := by
  cases x with
  | channelPressure c p h => exact .postEntry _ hw
  | lift a raise =>
    exact .ite (fun _ => .ite (fun _ => .stepDone hr) fun _ => .setLift fun _ => .inr ha) fun _ =>
      .ite (fun _ => .stepDone hr) fun _ => .lowerAxle a
  | sensorListen q => exact .ite (fun _ => .refl s) fun _ => .stepFaults _ hr

theorem State.Keeps.faultPressureStep : s.Keeps s.faultPressureStep := by
  unfold State.faultPressureStep
  split
  · exact .refl s
  · rename_i hr
    split
    · exact .stepFaults _ (by rw [hr]; nofun)
    · exact .refl s
    · exact .refl s

theorem State.Keeps.clearFallback : s.Keeps s.clearFallback := by
  have hc : ∀ d, (s.clearFallback.channel d).inlet = (s.channel d).inlet ∧
      (s.clearFallback.channel d).exhaust = (s.channel d).exhaust := fun d => by
    simp [State.clearFallback, State.channel, ChannelRecord.freed]
  refine .of_rest (fun h => ⟨nofun, h.workshop, fun hw => ?_⟩) rfl rfl rfl rfl
  obtain ⟨h1, h2, ⟨h3, h4⟩, h5⟩ := h.watch hw
  exact ⟨h1, h2, ⟨fun d => ⟨(hc d).1.trans (h3 d).1, (hc d).2.trans (h3 d).2⟩, h4⟩, h5⟩

theorem State.Keeps.clearFault : s.Keeps s.clearFault := by
  unfold State.clearFault
  split
  · exact .clearSuspensions
  · exact .clearFallback

end

end Sys2Proof.Machine
end

section
/-! SUPPORT. The commands that leave a law open until they settle: the power state, the workshop, the brake mode, WATCH,
power-on and Restart (R123, R144, R148, R152 to R154, R170 to R173). -/
namespace Sys2Proof.Machine

section
variable {s t u : State}

theorem State.resting_of_idle (h : s.stability.state = .idle) : s.stuActing = false := by simp [State.stuActing, h]

/-! ### The power state -/

/-- The MDU's record with the workshop, the step and WATCH as they were, or with WATCH left. -/
theorem State.Keeps.setModePower {m : Mode} (hw : m.workshop = s.mode.workshop) (hr : m.running = s.mode.running)
    (hp : m.power = .watch → s.mode.power = .watch) : s.Keeps (s.setMode m) := by
  refine .setPower (fun h => ⟨h.fallback, fun k => ?_, fun k => ?_⟩) hw hp
  · obtain ⟨h1, h2⟩ := h.workshop (fun hc => k (hw.trans hc))
    exact ⟨hr.trans h1, h2⟩
  · obtain ⟨h1, h2, h3, h4, h5⟩ := h.watch (hp k)
    exact ⟨h1, h2, h3, h4, hw.trans h5⟩

theorem Mode.wakes_running {m : Mode} {b : Bool} {n : Nat} : (m.wakes b n).running = m.running := by
  unfold Mode.wakes
  cases m.power <;> cases m.wakeRaw <;> cases b <;> rfl

theorem State.Keeps.takeWake : s.Keeps s.takeWake := by
  rw [State.takeWake_eq]
  exact .setModePower Mode.wakes_wakeTaken.2 Mode.wakes_running Mode.wakes_watch

/-! ### The workshop -/

/-- R144: Enter Workshop leaves only the law of the workshop open, which settling restores. -/
theorem State.ModeLaws.enterWorkshop {m : Mode} (hs : s.ModeLaws) (hp : m.power = s.mode.power)
    (hr : m.running = s.mode.running) (hw : s.mode.power ≠ .watch) (ho : s.mode.workshop ≠ .stepRunning)
    (h1 : m.wakeRaw = s.mode.wakeRaw) (h2 : m.wakeRawSince = s.mode.wakeRawSince) (h3 : m.wakeTaken = s.mode.wakeTaken) :
    (s.enterWorkshopState m).Poise :=
  ⟨(LoadChange.enterWorkshopState s h1 h2 h3 hp (.inr ⟨hr, ho⟩) fun _ k => absurd k hw).settles.modes hs.rest,
    fun L hL _ => State.enterWorkshopState_obeys hp hL (hs.obeys L)⟩

theorem State.enterWorkshopState_channels (m : Mode) : (s.enterWorkshopState m).channels = s.channels := by
  unfold State.enterWorkshopState
  split <;> split <;> rfl

/-- R148: a step is taken in READY, where the STU is IDLE. -/
theorem State.Keeps.runStaged {x : Step} (hw : s.mode.workshop = .ready) (hs : s.ModeLaws) : s.Keeps (s.runStaged x) := by
  have hi : s.stability.state = .idle := hs.obeys .workshop (by rw [hw]; decide)
  unfold State.runStaged
  generalize hm : ({ s.mode with
    workshop := .stepRunning, staged := none, result := .none, cause := none
    running := some { step := x, startedAt := s.now, inBand := s.startsInBand x, bandSince := s.now } } : Mode) = m
  have hmw : m.workshop = .stepRunning := by rw [← hm]
  have hmr : m.running ≠ none := by rw [← hm]; nofun
  have hmp : m.power = s.mode.power := by rw [← hm]
  have hst := s.enterWorkshopState_stability m
  have hmo := s.enterWorkshopState_mode m
  refine .after (.startStep (by rw [hmo, hmw]) (by rw [hmo]; exact hmr) ?_) (.enterWorkshopState (fun h => ⟨?_, ?_, ?_⟩) hmp
    fun _ _ => by rw [hw]; decide)
  · exact State.resting_of_idle ((congrArg Stability.state hst).trans hi)
  · intro hf
    simp only [State.channel, State.enterWorkshopState_channels, hst] at hf ⊢
    exact h.fallback hf
  · exact fun k => absurd (by rw [hmo, hmw]) k
  · intro k
    rw [hmo, hmp] at k
    have hoff := (h.watch k).2.2.2.2
    rw [hw] at hoff
    cases hoff

/-! ### FALLBACK -/

/-- R123: FALLBACK entered by an IDLE STU. -/
theorem State.Keeps.setFallback {x : Channels} (hi : s.stability.state = .idle) (hr : x.redundancy = false)
    (hv : ∀ c, (x.records.get c).inlet = false ∧ (x.records.get c).exhaust = false) : s.Keeps (s.setChannels x) :=
  .of_rest (fun h => ⟨fun _ => ⟨hv, hr, hi⟩, h.workshop, fun hw =>
    have ⟨h1, h2, _, h4⟩ := h.watch hw
    ⟨h1, h2, ⟨hv, hr⟩, h4⟩⟩) rfl rfl rfl rfl

theorem State.Keeps.enterFallback (c : FallbackCause) : s.Keeps (s.enterFallback c) := by
  unfold State.enterFallback
  split
  · exact .refl s
  · have hq : s.Keeps ((s.setStability (s.stability.quiet .idle)).retireStability) :=
      .quiet (.inl rfl) (fun h => by cases h)
        (Settles.modes (.after (Steady.retireStability _).settles (.setStability s rfl (.inl rfl) (.inl rfl) (.inl rfl))))
    generalize hx : s.setChannels { s.channels with
      records := s.channels.records.map ChannelRecord.shut, mode := .fallback, cause := some c, redundancy := false } = x
    have hc : (x.setStability (x.stability.quiet .idle)).retireStability =
        ((s.setStability (s.stability.quiet .idle)).retireStability).setChannels
          ((x.setStability (x.stability.quiet .idle)).retireStability).channels := by
      rw [← hx]
      rfl
    refine .after .faultPressureStep (.after .rollEnds ?_)
    rw [hc]
    refine .after (.setFallback rfl ?_ fun d => ?_) hq
    · rw [← hx]
      rfl
    · rw [← hx]
      cases d <;> exact ⟨rfl, rfl⟩

/-! ### WATCH -/

theorem State.cancelWindow_stability : s.cancelWindow.stability = s.stability := by rw [State.cancelWindow_frame]; rfl

theorem State.cancelWindow_mode : s.cancelWindow.mode = s.mode := by rw [State.cancelWindow_frame]; rfl

theorem State.shut_stability : s.shut.stability = s.stability := rfl

theorem State.shut_mode : s.shut.mode = s.mode := rfl

theorem State.watched_ramp : s.watched.stability.ramp = none := by
  unfold State.watched State.stuIdle
  rw [(LoadChange.forceLower _).stability, (LoadChange.rollEnds _).stability]
  rfl

theorem State.enterWatch_ramp : s.enterWatch.stability.ramp = none := by
  rw [State.enterWatch_eq, State.shut_stability, State.cancelWindow_stability]
  exact State.watched_ramp

theorem State.enterWatch_running (h : s.workshopLaw) : s.enterWatch.mode.running = none := by
  rw [State.enterWatch_eq, State.shut_mode, State.cancelWindow_mode]
  exact (State.watched_quieted h).idle.running

/-- R153: WATCH entered leaves only the raises due, which settling drops. -/
theorem State.ModeLaws.enterWatch (hs : s.ModeLaws) : s.enterWatch.Poise := by
  have h := State.enterWatch_inWatch hs.rest.workshop
  have hna : s.enterWatch.stuActing = false := State.resting_of_idle h.stability
  have hno : ∀ {P : Prop}, s.enterWatch.stuActing = true → P := fun hc => absurd (hna.symm.trans hc) (by decide)
  refine ⟨⟨fun _ => ⟨h.valves, h.redundancy, h.stability⟩, fun _ => ⟨State.enterWatch_running hs.rest.workshop, h.noTest⟩,
    fun _ => ⟨⟨h.noDigital, h.noStability⟩, ⟨h.window, h.candidates⟩, ⟨h.valves, h.redundancy⟩, h.stability, h.workshop⟩⟩,
    fun L h1 h2 => ?_⟩
  cases L with
  | entry => exact fun hc => absurd (h.noStability.symm.trans hc) (by decide)
  | ramp =>
    intro hc
    rw [State.enterWatch_ramp] at hc
    cases hc
  | lowered => exact fun hc => hno hc
  | workshop => exact absurd rfl h1
  | pending => exact fun _ a => (h.lowered a).2.2
  | due g => exact absurd rfl (h2 g)

/-! ### Power-on and Restart -/

/-- R172: a part that starts obeys every law of the modes. -/
theorem State.started_poise (x : Image) (valid high : Bool) (wires : PerWheel Bool) :
    (s.started x valid high wires).Poise := by
  have hw : (s.started x valid high wires).mode.power ≠ .watch := by cases high <;> nofun
  refine ⟨⟨nofun, fun _ => ⟨rfl, rfl⟩, fun hc => absurd hc hw⟩, fun L h1 h2 => ?_⟩
  cases L with
  | entry | ramp | lowered => exact nofun
  | workshop => exact absurd rfl h1
  | pending => exact fun hc => absurd hc hw
  | due g => exact absurd rfl (h2 g)

theorem State.Keeps.emptyTable : s.Keeps s.emptyTable := by
  unfold State.emptyTable
  refine .after .followDemands (.entries fun z hz => ?_)
  simp [State.hasEntry, State.entry] at hz

theorem State.Keeps.restartStability : s.Keeps s.restartStability :=
  .after (.setStability (fun h => ⟨h.fallback, h.workshop, h.watch⟩) rfl .inl) .stuIdle

/-- R173: the workshop record afresh, with no TEST entry left. -/
theorem State.Keeps.restartWorkshop (ht : s.hasEntry .test = false) : s.Keeps s.restartWorkshop := by
  refine ⟨fun h => ⟨h.fallback, fun _ => ⟨rfl, ht⟩, fun hw => ?_⟩, fun _ L hL => ?_⟩
  · obtain ⟨h1, h2, h3, h4, -⟩ := h.watch hw
    exact ⟨h1, h2, h3, h4, rfl⟩
  · cases L with
    | workshop => exact fun hc => absurd rfl hc
    | _ => exact hL

theorem State.Keeps.restartIntake : s.Keeps s.restartIntake :=
  .after (.setIntake fun _ h1 _ => ⟨h1, rfl⟩) .cancelWindow

theorem State.Keeps.wakeIfWatching : s.Keeps s.wakeIfWatching := by
  unfold State.wakeIfWatching
  split
  · exact .refl s
  · exact .refl s
  · exact .wake

theorem State.restartWorkshop_hasEntry (x : Source) : s.restartWorkshop.hasEntry x = s.hasEntry x := rfl

theorem State.Keeps.restartLive : s.Keeps s.restartLive := by
  have ht : s.emptyTable.restartStability.hasEntry .test = false := by
    obtain ⟨-, -, hr, -⟩ := State.calmed_spec (s := s)
    rw [← State.restartWorkshop_hasEntry]
    exact State.hasEntry_of_empty hr.table .test
  have h : s.Keeps s.emptyTable.restartStability := .after .restartStability .emptyTable
  unfold State.restartLive
  generalize s.emptyTable.restartStability = t at *
  exact .after .followReference (.after .followLifts (.after .wakeIfWatching (.after .restartIntake
    (.after (.restartWorkshop ht) h))))

theorem State.Keeps.restartPolicy (h : s.stuActing = false) : s.Keeps s.restartPolicy := by
  rcases s.restartPolicy_cases with ⟨-, hw⟩ | ⟨-, -, hw⟩ | ⟨x, -, -, -, hw⟩ <;> rw [hw]
  · exact .refl s
  · exact .setNotices _
  · exact .reload h

theorem State.Keeps.recreateEntries : s.Keeps s.recreateEntries := by
  have h : s.Keeps (match s.pressureOf .ctl with
      | some v => s.takeControl v
      | none => s) := by
    split
    · exact .takeControl _
    · exact .refl s
  unfold State.recreateEntries
  dsimp only
  split
  · exact .after (.takeSupply _) h
  · exact h

theorem State.Keeps.restarted : s.Keeps s.restarted := by
  refine .after .recreateEntries (.after (.restartPolicy ?_) (.after (.setNotices _) .restartLive))
  exact State.resting_of_idle (s := s.restartCleared) State.restartCleared_rested.idle

end

end Sys2Proof.Machine
end

section
/-! SUPPORT. Every command keeps the laws of the modes (R76, R82, R94, R101, R123, R133, R153). -/
namespace Sys2Proof.Machine

/-- The laws of the modes, where they hold in the first state, hold in the second. -/
def State.Abides (s t : State) : Prop := s.ModeLaws → t.ModeLaws

/-! ### Commands and exchanges -/

section
variable {s t u : State} {dt code : Nat} {p : Params} {accepts : Nat → Bool} {own : State → State × Answer} {named : Named}

theorem State.Abides.refl (s : State) : s.Abides s := id

theorem State.Abides.after (k : t.Abides u) (h : s.Abides t) : s.Abides u := k ∘ h

theorem State.Keeps.abides (h : s.Keeps t) : s.Abides t := h.lawful

theorem State.Keeps.settled (h : s.Keeps t) : s.Abides t.settle := h.settle

theorem State.Abides.ite {c : Prop} [Decidable c] (h : c → s.Abides t) (k : ¬c → s.Abides u) :
    s.Abides (if c then t else u) := by
  split
  · exact h ‹_›
  · exact k ‹_›

/-- An event that acts where it is due, and is settled. -/
theorem State.Abides.due {c : Prop} [Decidable c] (h : c → s.Keeps t) : s.Abides (if c then t.settle else s) :=
  .ite (fun hc => (h hc).settled) fun _ => .refl s

theorem State.Keeps.elapse (s : State) (dt : Nat) : s.Keeps (s.elapse dt) := .same rfl rfl rfl rfl rfl rfl

theorem State.Abides.live {f : State → State} (hf : ∀ u : State, u.Abides (f u)) : s.Abides (s.live dt f) :=
  .ite (fun _ => .after (hf _) (State.Keeps.elapse s dt).abides) fun _ => (State.Keeps.elapse s dt).abides

theorem State.Abides.answer (h : s.Abides (own s).1) : s.Abides (s.answer p accepts own named).1 := by
  unfold State.answer
  split
  · exact h
  · exact .refl s

theorem State.Abides.request (ho : ∀ u : State, u.Abides (own u).1) : s.Abides (s.request code p accepts own named) :=
  .after (State.Keeps.setPort _).abides (.after (.answer (ho _)) (State.Keeps.setPort _).abides)

theorem State.Abides.gated {x : State × Answer} (h : s.mode.workshop = .ready → s.Abides x.1) :
    s.Abides (s.gated x).1 := by
  unfold State.gated
  split
  · exact h ‹_›
  · exact .refl s

theorem State.Abides.withPosition {i : Nat} {n m : Named} {own : Position → State × Answer}
    (h : ∀ q, s.Abides (own q).1) : s.Abides (s.withPosition i n m own).1 := by
  unfold State.withPosition
  split
  · exact .refl s
  · split
    · exact h _
    · exact .refl s

end

/-! ### The rules of the requests -/

section
variable {s : State} {p : Params}

theorem State.Abides.setSetpoints : s.Abides (s.setSetpoints p).1 := by
  unfold State.setSetpoints
  refine .withPosition fun q => ?_
  split
  · exact .refl s
  · exact State.Keeps.settled (.after (.evaluate q) (.setPosition q _))

theorem State.Abides.writeSetpoints : s.Abides (s.writeSetpoints p).1 := by
  unfold State.writeSetpoints
  split
  · exact .refl s
  · dsimp only
    split
    · exact State.Keeps.settled (.writeValues _ _ _)
    · exact State.Keeps.settled (.writeValues _ _ _)

theorem State.Abides.swapPositions : s.Abides (s.swapPositions p).1 := by
  unfold State.swapPositions
  dsimp only
  split
  · exact .refl s
  · exact .refl s
  · split; · exact .refl s
    split; · exact .refl s
    split; · exact .refl s
    split; · exact .refl s
    split; · exact .refl s
    exact State.Keeps.settled (.of_onlyTyres (State.swap_onlyTyres _ _))

theorem State.Abides.adoptCandidate : s.Abides (s.adoptCandidate p).1 := by
  unfold State.adoptCandidate
  refine .withPosition fun q => ?_
  split
  · exact .refl s
  · split
    · exact .refl s
    · exact State.Keeps.settled (.after (.evaluate q) (.after (.filterCandidates _) (.setPosition q _)))

theorem State.Abides.writeTyreParameters : s.Abides (s.writeTyreParameters p).1 := by
  unfold State.writeTyreParameters
  split
  · exact .refl s
  · split
    · exact (State.Keeps.setSettings _).abides
    · exact .refl s

/-- R36, R153: the window is opened outside WATCH. -/
theorem State.Abides.beginLearn : s.Abides (s.beginLearn p).1 := by
  unfold State.beginLearn
  split
  · exact .refl s
  · split; · exact .refl s
    rename_i hw
    split; · exact .refl s
    split; · exact .refl s
    split; · exact .refl s
    exact State.Keeps.abides (.after (.setIntake fun h => absurd h hw) (.setPosition _ _))

theorem State.Abides.cancelLearn : s.Abides s.cancelLearn.1 := by
  unfold State.cancelLearn
  split
  · exact State.Keeps.cancelWindow.abides
  · exact .refl s

theorem State.Abides.writeAxleLayout : s.Abides (s.writeAxleLayout p).1 := by
  refine .gated fun _ => ?_
  split
  · exact .refl s
  · split; · exact .refl s
    split; · exact .refl s
    split; · exact .refl s
    exact State.Keeps.settled (.writeLayout _ _ _)

theorem State.Abides.writeCalibration : s.Abides (s.writeCalibration p).1 := by
  refine .gated fun _ => ?_
  split
  · exact .refl s
  · dsimp only
    split
    · exact State.Keeps.settled (.after (.recalibrate _) (.setSettings _))
    · exact .refl s

theorem State.Abides.setLiftMode : s.Abides (s.setLiftMode p).1 := by
  unfold State.setLiftMode
  split
  · split; · exact .refl s
    rename_i hw
    split; · exact .refl s
    split; · exact .refl s
    split
    · exact .refl s
    · exact State.Keeps.settled (.takeMode hw)
  · exact .refl s

theorem State.Abides.postDemand : s.Abides (s.postDemand p).1 := by
  unfold State.postDemand
  split; · exact .refl s
  rename_i hw
  split; · exact .refl s
  exact State.Keeps.settled (.postEntry _ hw)

theorem State.Abides.writeCharacteristic : s.Abides (s.writeCharacteristic p).1 := by
  refine .gated fun _ => ?_
  split; · exact .refl s
  split
  · exact .refl s
  · split
    · exact .refl s
    · split
      · exact .refl s
      · exact State.Keeps.settled (.after (.followThird _) (.setSettings _))

theorem State.Abides.writeStability : s.Abides (s.writeStability p).1 := by
  refine .gated fun _ => ?_
  split
  · exact .refl s
  · split
    · exact .refl s
    · exact State.Keeps.settled (.setSettings _)

theorem State.Abides.enterWorkshop : s.Abides s.enterWorkshop.1 := by
  unfold State.enterWorkshop
  split; · exact .refl s
  rename_i hw
  split; · exact .refl s
  rename_i ho
  split; · exact .refl s
  refine fun hs => State.Poise.settle (hs.enterWorkshop rfl rfl hw (fun hc => ho ?_) rfl rfl rfl)
  rw [hc]
  decide

theorem State.Abides.leaveWorkshop : s.Abides s.leaveWorkshop.1 := by
  unfold State.leaveWorkshop
  split
  · exact .refl s
  · exact State.Keeps.workshopOff.settled

theorem State.Abides.stageStep : s.Abides (s.stageStep p).1 := by
  unfold State.stageStep
  split
  · exact .refl s
  · split
    · exact .refl s
    · exact State.Keeps.abides (.setModePower rfl rfl id)

theorem State.Abides.runStep : s.Abides s.runStep.1 := by
  unfold State.runStep
  split; · exact .refl s
  split; · exact .refl s
  rename_i hw
  rw [ne_eq, Decidable.not_not] at hw
  split
  · exact .refl s
  · split
    · exact .refl s
    · exact fun hs => (State.Keeps.runStaged hw hs).settle hs

theorem State.Abides.clearBrakeFault : s.Abides s.clearBrakeFault.1 := by
  refine .gated fun _ => ?_
  split
  · exact .refl s
  · exact State.Keeps.clearFault.settled

theorem State.Abides.saveTables : s.Abides s.saveTables.1 := by
  unfold State.saveTables
  split
  · exact .refl s
  · exact (State.Keeps.setStore _).abides

/-- R171, R145: a reload lifts axles in READY, where the STU is IDLE. -/
theorem State.Abides.restoreTables : s.Abides s.restoreTables.1 := by
  refine .gated fun hw => ?_
  split
  · refine fun hs => (State.Keeps.after (.reload ?_) .cancelWindow).settle hs
    refine (State.stuActing_congr State.cancelWindow_stability).trans (State.resting_of_idle ?_)
    exact hs.obeys .workshop (by rw [hw]; decide)
  · exact .refl s

theorem State.Abides.setResetPolicy : s.Abides (s.setResetPolicy p).1 := by
  unfold State.setResetPolicy
  split
  · exact (State.Keeps.setSettings _).abides
  · exact .refl s

theorem State.Abides.readPositions : s.Abides (s.readPositions p).1 := by
  unfold State.readPositions
  dsimp only
  split
  · exact .refl s
  · exact (State.Keeps.setPort _).abides

theorem State.Abides.setBatchSize : s.Abides (s.setBatchSize p).1 := by
  unfold State.setBatchSize
  split
  · exact (State.Keeps.setPort _).abides
  · exact .refl s

theorem State.Abides.continueRead : s.Abides s.continueRead.1 := by
  unfold State.continueRead
  split
  · exact .refl s
  · exact (State.Keeps.setPort _).abides
  · exact (State.Keeps.setPort _).abides

theorem State.Abides.readBrakeState : s.Abides (s.readBrakeState p).1 := by
  unfold State.readBrakeState
  split <;> exact .refl s

theorem State.Abides.readStability : s.Abides (s.readStability p).1 := by
  unfold State.readStability
  split <;> exact .refl s

theorem State.Keeps.faultDetail : s.Keeps s.faultDetail.1 := by
  unfold State.faultDetail
  split
  · exact .setPort _
  · exact .refl s

theorem State.Keeps.replyDetail (b : Bool) (a : Answer) : s.Keeps (s.replyDetail b a) :=
  .ite (fun _ => .setPort _) fun _ => .setPort _

/-! ### The rules of the events -/

theorem State.Keeps.countAges : s.Keeps s.countAges := by
  have h : s.Keeps (s.setTyres { s.tyres with
      positions := s.tyres.positions.map fun (r : PositionRecord) => r.aged s.silenceTimeout }) :=
    .same rfl rfl rfl rfl rfl rfl
  unfold State.countAges
  refine .after (.setIntake fun _ h1 h2 => ⟨h1, ?_⟩) h
  rw [show s.intake.candidates = [] from h2]
  rfl

theorem State.Abides.telegramArrives : s.Abides s.telegramArrives := by
  have hc : s.Keeps s.closeSequence := .setReception rfl rfl
  unfold State.telegramArrives
  split
  · split
    · exact State.Keeps.settled (.after (.takeTelegram _) hc)
    · exact hc.abides
  · exact .refl s

theorem State.Abides.confirmDue : s.Abides s.confirmDue := by
  unfold State.confirmDue
  split
  · exact .refl s
  · rename_i hw
    split
    · exact .refl s
    · exact .due fun _ => .confirm _ hw

theorem State.Abides.expireDue : s.Abides s.expireDue := by
  unfold State.expireDue
  split
  · exact .refl s
  · refine .ite (fun _ => State.Keeps.abides ?_) fun _ => .refl s
    exact .after (.setNotices _) (.after (.setPosition _ _) (.setIntake fun _ _ hc => ⟨rfl, hc⟩))

theorem State.Abides.endSave (b : Bool) : s.Abides (s.endSave b) := by
  unfold State.endSave
  split
  · exact .refl s
  · exact .ite (fun _ => State.Keeps.abides (.after (.setNotices _) (.setStore _))) fun _ => .refl s

theorem State.Abides.convert (i : AnalogId) (mv : Nat) : s.Abides (s.convert i mv) := by
  unfold State.convert
  exact .ite (fun _ => State.Keeps.settled (.after (.analogEvent i _) (.setAnalog i _))) fun _ =>
    (State.Keeps.setAnalog i _).abides

theorem State.Abides.wheelEvent (w : WheelId) (x : WheelInput) : s.Abides (s.wheelEvent w x) := by
  unfold State.wheelEvent
  exact .ite (fun _ => (State.Keeps.setWheel w x).abides) fun _ =>
    State.Keeps.settled (.after (.judgeWheelFaults w) (.setWheel w x))

theorem State.Abides.edge (w : WheelId) : s.Abides (s.edge w) := by
  unfold State.edge
  refine .ite (fun _ => ?_) fun _ => .refl s
  split
  · exact (State.Keeps.setWheel w _).abides
  · exact .ite (fun _ => .refl s) fun _ => .wheelEvent w _

theorem State.Abides.decay (w : WheelId) : s.Abides (s.decay w) := by
  unfold State.decay
  dsimp only
  split
  · split
    · exact .refl s
    · exact .wheelEvent w _
  · exact .refl s

theorem State.Abides.stopWheel (w : WheelId) : s.Abides (s.stopWheel w) := by
  unfold State.stopWheel
  dsimp only
  split
  · exact .wheelEvent w _
  · exact .refl s

theorem State.Abides.loseWheel (w : WheelId) : s.Abides (s.loseWheel w) := by
  unfold State.loseWheel
  dsimp only
  split
  · exact .wheelEvent w _
  · exact .refl s

theorem State.Abides.regainWheel (w : WheelId) : s.Abides (s.regainWheel w) := by
  unfold State.regainWheel
  dsimp only
  split
  · exact .wheelEvent w _
  · exact .refl s

theorem State.Abides.raiseFallsDue (g : GroupId) : s.Abides (s.raiseFallsDue g) := by
  refine .due fun h => ?_
  have hw : s.mode.power ≠ .watch := by
    simp only [Bool.and_eq_true] at h
    exact State.raiseRuns_awake h.1.1
  exact .after (.testRaise hw) (.setGroup fun _ => .inr hw)

/-- R74: an axle that arrives at UP was RAISING. -/
theorem State.Abides.raiseArrives (a : AxleId) :
    s.Abides (if s.transitionOver a .raising then (s.setLift a .up).settle else s) := by
  refine .due fun h => .setLift fun _ => .inl ?_
  simp only [State.transitionOver, Bool.and_eq_true, decide_eq_true_eq] at h
  rw [h.1]
  rfl

theorem State.Abides.lowerGroup (g : GroupId) : s.Abides (s.lowerGroup g) := by
  unfold State.lowerGroup
  exact .ite (fun _ => .refl s) fun _ => State.Keeps.settled (.foldl (fun _ a => .lowerAxle a) _)

/-- R138: a ramp runs while the STU acts. -/
theorem State.Abides.stepRamp : s.Abides s.stepRamp := by
  unfold State.stepRamp
  split
  · rename_i hr _
    refine .ite (fun h => State.Keeps.settled (.stuArmed ?_)) fun _ hs => ?_
    · rw [h.1]
      decide
    · exact (State.Keeps.movePressure (hs.obeys .ramp (by rw [hr]; rfl))).settle hs
  · exact .refl s

theorem State.Abides.endBand : s.Abides s.endBand := by
  unfold State.endBand
  split
  · exact .refl s
  · rename_i hr
    split
    · exact .due fun _ => .stepFaults _ (by rw [hr]; nofun)
    · exact .refl s
    · exact .refl s

theorem State.Abides.endHeld : s.Abides s.endHeld := by
  unfold State.endHeld
  split
  · exact .refl s
  · rename_i hr
    split
    · exact .due fun _ => .stepDone (by rw [hr]; nofun)
    · exact .refl s
    · exact .refl s

theorem State.Abides.endListen : s.Abides s.endListen := by
  unfold State.endListen
  split
  · exact .refl s
  · rename_i hr
    split
    · exact .due fun _ => .stepFaults _ (by rw [hr]; nofun)
    · exact .refl s
    · exact .refl s

theorem State.Abides.restart : s.Abides s.restart :=
  .after State.Keeps.restarted.settled (State.Keeps.setPort _).abides

end

/-! ### Every command -/

theorem State.start_lawful (s : State) (high : Bool) (wires : PerWheel Bool) : (s.start high wires).ModeLaws :=
  State.Poise.settle (State.started_poise s.store.startImage s.store.judged.isSome high wires)

theorem Demands.expired_table {x : Demands} : x.expired.table = x.table := by
  unfold Demands.expired
  split <;> rfl

/-- R40, R76, R82, R94, R101, R115, R123, R133, R144, R146, R153. -/
theorem exec_abides {i : Instr} {s t : State} (h : exec i s = .next t) : s.Abides t := by
  cases i
  case powerOn dt high wires =>
    rw [← (Host.Outcome.next.inj h : (s.elapse dt).start high wires = t)]
    exact fun _ => (s.elapse dt).start_lawful high wires
  all_goals cases h
  case restart p =>
    refine .live fun u => .ite (fun _ => ?_) fun _ => .request fun v => .refl v
    exact .after .restart (State.Keeps.setPort _).abides
  case frameError | unknownRequest => exact .live fun u => (State.Keeps.setPort _).abides
  case faultDetail p =>
    refine .live fun u => .after (State.Keeps.replyDetail _ _).abides ?_
    exact .after (.answer State.Keeps.faultDetail.abides) (State.Keeps.setPort _).abides
  case continueRead p =>
    exact .live fun u => .after (State.Keeps.setPort _).abides
      (.after (.answer .continueRead) (State.Keeps.setPort _).abides)
  case noOperation | identify => exact .live fun u => .request fun v => .refl v
  case setResetPolicy => exact .live fun u => .request fun v => .setResetPolicy
  case fetchNotices => exact .live fun u => .request fun v => (State.Keeps.setNotices _).abides
  case setNoticeEnables => exact .live fun u => .request fun v => (State.Keeps.setSettings _).abides
  case readPosition => exact .live fun u => .request fun v => .withPosition fun q => .refl v
  case findSensor | readAxle | readLoadState => exact .live fun u => .request fun v => by split <;> exact .refl v
  case readPositions => exact .live fun u => .request fun v => .readPositions
  case setBatchSize => exact .live fun u => .request fun v => .setBatchSize
  case readCandidates => exact .live fun u => .request fun v => (State.Keeps.setPort _).abides
  case setPositionSetpoints => exact .live fun u => .request fun v => .setSetpoints
  case writeSetpoints => exact .live fun u => .request fun v => .writeSetpoints
  case swapPositions => exact .live fun u => .request fun v => .swapPositions
  case retireSensor =>
    exact .live fun u => .request fun v => .withPosition fun q => (State.Keeps.retirePosition q).settled
  case adoptCandidate => exact .live fun u => .request fun v => .adoptCandidate
  case writeTyreParameters => exact .live fun u => .request fun v => .writeTyreParameters
  case beginLearn => exact .live fun u => .request fun v => .beginLearn
  case cancelLearn => exact .live fun u => .request fun v => .cancelLearn
  case writeAxleLayout => exact .live fun u => .request fun v => .writeAxleLayout
  case writeGroupCalibration => exact .live fun u => .request fun v => .writeCalibration
  case setLiftMode => exact .live fun u => .request fun v => .setLiftMode
  case postDemand => exact .live fun u => .request fun v => .postDemand
  case readBrakeState => exact .live fun u => .request fun v => .readBrakeState
  case writeBrakeCharacteristic => exact .live fun u => .request fun v => .writeCharacteristic
  case writeStabilityParameters => exact .live fun u => .request fun v => .writeStability
  case readStabilityState => exact .live fun u => .request fun v => .readStability
  case enterWorkshop => exact .live fun u => .request fun v => .enterWorkshop
  case leaveWorkshop => exact .live fun u => .request fun v => .leaveWorkshop
  case stageStep => exact .live fun u => .request fun v => .stageStep
  case runStep => exact .live fun u => .request fun v => .runStep
  case clearBrakeFault => exact .live fun u => .request fun v => .clearBrakeFault
  case saveTables => exact .live fun u => .request fun v => .saveTables
  case restoreTables => exact .live fun u => .request fun v => .restoreTables
  case saveEnd => exact .live fun u => .endSave _
  case telegramArrival => exact .live fun u => .telegramArrives
  case learnConfirmation => exact .live fun u => .confirmDue
  case learnWindowExpiry => exact .live fun u => .expireDue
  case ageCount => exact .live fun u => State.Keeps.countAges.abides
  case sensorSilent => exact .live fun u => (State.Keeps.fallSilent _).abides
  case candidateExpiry => exact .live fun u => (State.Keeps.filterCandidates _).abides
  case conversion => exact .live fun u => .convert _ _
  case wheelEdge => exact .live fun u => .edge _
  case speedDecay => exact .live fun u => .decay _
  case wheelStop => exact .live fun u => .stopWheel _
  case wireStateChange =>
    exact .live fun u => .ite (fun _ => .refl u) fun _ => (State.Keeps.setWheel _ _).abides
  case wheelInputInvalid => exact .live fun u => .loseWheel _
  case wheelInputValid => exact .live fun u => .regainWheel _
  case standstillMeasurement => exact .live fun u => .due fun _ => .after (.enterMotion _) (.setInputs _)
  case wakeLineLevel => exact .live fun u => .due fun _ => .takeWake
  case runOnExpiry => exact .live fun u => .ite (fun _ hu => hu.enterWatch.settle) fun _ => .refl u
  case raiseDue => exact .live fun u => .raiseFallsDue _
  case raiseComplete => exact .live fun u => .raiseArrives _
  case lowerComplete => exact .live fun u => .due fun _ => .setLift fun h => by cases h
  case transitionHoldEnd => exact .live fun u => .due fun _ => .after (.releaseGroup _) (.setGroupSame rfl)
  case loadSubstitution => exact .live fun u => .due fun _ => .after (.boundGroup _) (.setGroupSame rfl)
  case autoLower => exact .live fun u => .lowerGroup _
  case digitalTimeout => exact .live fun u => .due fun _ => .after (.setNotices _) (.retireEntry _)
  case mismatchTimerExpiry => exact .live fun u => .due fun _ => .setDemands Demands.expired_table
  case lockTimeout => exact .live fun u => .due fun _ => .after (.setNotices _) (.setValved rfl rfl)
  case holdTimerExpiry =>
    exact .live fun u => .due fun _ => .ite (fun _ => .enterRelease _) fun _ => .setValved rfl rfl
  case inletNoRise | exhaustNoFall | deliveredInvalid | controlInvalid =>
    exact .live fun u => .due fun _ => .enterFallback _
  case probeTimerExpiry => exact .live fun u => .due fun h => .negativeProbe (by rw [h.1]; decide)
  case rampStep => exact .live fun u => .stepRamp
  case exitMeasurement | latInvalidityMeasurement => exact .live fun u => .due fun h => .enterRecovering h.1
  case bandMeasurement => exact .live fun u => .endBand
  case holdMeasurement => exact .live fun u => .endHeld
  case listenTimeout => exact .live fun u => .endListen
  case wakeLineChange =>
    exact .live fun u => .ite (fun _ => .refl u) fun _ => State.Keeps.abides (.setModePower rfl rfl id)
  case characterReception =>
    exact .live fun u => .ite (fun _ => State.Keeps.abides (.setReception rfl rfl)) fun _ =>
      State.Keeps.abides (.setReception rfl rfl)
  case lossOfSupply => exact .live fun u => State.Keeps.abides (.same rfl rfl rfl rfl rfl rfl)

theorem State.ModeLaws.setPending {s : State} (h : s.ModeLaws) (l : List Instr) : (s.setPending l).ModeLaws :=
  (State.Keeps.same (s := s) (t := s.setPending l) rfl rfl rfl rfl rfl rfl).lawful h

/-- Settles O9, by the commands one by one: what a change does before it settles keeps each law that settling does not
restore, and settling restores the others and keeps them all. -/
theorem modesStayLawful : Obligations.ModesStayLawful := by
  intro s t hs h
  unfold step at h
  split at h
  · cases h
    exact hs
  · exact exec_abides h (hs.setPending _)

end Sys2Proof.Machine
end

section
/-! SUPPORT. The load, the load ratio and the brake ratio (R68, R106). -/
namespace Sys2Proof.Machine

/-! ### Clamped values -/

theorem clampInt_eq_max_min {lo hi v : Int} (h : lo ≤ hi) : clampInt lo hi v = max lo (min hi v) := by
  unfold clampInt
  split
  · omega
  · split <;> omega

/-- A value of R68, clamped to a range from 0. -/
theorem toNat_clampInt {hi v : Int} (h : 0 ≤ hi) : (((clampInt 0 hi v).toNat : Nat) : Int) = max 0 (min hi v) := by
  rw [clampInt_eq_max_min h]
  omega

theorem clampInt_mono {hi v v' : Int} (h : 0 ≤ hi) (hv : v ≤ v') : (clampInt 0 hi v).toNat ≤ (clampInt 0 hi v').toNat := by
  rw [clampInt_eq_max_min h, clampInt_eq_max_min h]
  omega

section
variable {c : Calibration} {p p' : Int} {w w' : Nat}

/-! ### Load and load ratio -/

theorem loadW_eq : ((loadW c p : Nat) : Int) =
    max 0 (min 3000 ((c.we : Int) + Int.tdiv ((p - c.pe) * ((c.wl : Int) - c.we)) ((c.pl : Int) - c.pe))) :=
  toNat_clampInt (by decide)

theorem loadL_eq : ((loadL c w : Nat) : Int) =
    max 0 (min 1000 (Int.tdiv (1000 * ((w : Int) - c.we)) ((c.wl : Int) - c.we))) :=
  toNat_clampInt (by decide)

theorem loadW_mono (hp : c.pe < c.pl) (hw : c.we < c.wl) (h : p ≤ p') : loadW c p ≤ loadW c p' := by
  refine clampInt_mono (by decide) (Int.add_le_add_left (Int.tdiv_le_tdiv (by omega) ?_) _)
  exact Int.mul_le_mul_of_nonneg_right (by omega) (by omega)

theorem loadL_mono (hw : c.we < c.wl) (h : w ≤ w') : loadL c w ≤ loadL c w' :=
  clampInt_mono (by decide) (Int.tdiv_le_tdiv (by omega) (by omega))

/-- R68: at the empty pressure the load is the empty load. -/
theorem loadW_empty (hw : c.we < c.wl) (hl : c.wl ≤ 3000) : loadW c c.pe = c.we := by
  have h := loadW_eq (c := c) (p := c.pe)
  rw [Int.sub_self, Int.zero_mul, Int.zero_tdiv] at h
  omega

/-- R68: at the laden pressure the load is the laden load. -/
theorem loadW_laden (hp : c.pe < c.pl) (hl : c.wl ≤ 3000) : loadW c c.pl = c.wl := by
  have h := loadW_eq (c := c) (p := c.pl)
  rw [Int.mul_tdiv_cancel_left _ (by omega)] at h
  omega

theorem loadL_empty : loadL c c.we = 0 := by
  have h := loadL_eq (c := c) (w := c.we)
  rw [Int.sub_self, Int.mul_zero, Int.zero_tdiv] at h
  omega

theorem loadL_laden (hw : c.we < c.wl) : loadL c c.wl = 1000 := by
  have h := loadL_eq (c := c) (w := c.wl)
  rw [Int.mul_tdiv_cancel _ (by omega)] at h
  omega

/-! ### Brake ratio -/

theorem brakeRatio_mono {re l l' : Nat} (h : l ≤ l') : brakeRatio re l ≤ brakeRatio re l' :=
  Nat.add_le_add_left (Nat.div_le_div_right (Nat.mul_le_mul_left _ h)) _

theorem brakeRatio_laden {re : Nat} (h : re ≤ 1000) : brakeRatio re 1000 = 1000 := by
  rw [brakeRatio, Nat.mul_div_cancel _ (by decide)]
  omega

end

/-- Settles O25, by the growth of the truncated quotients and of the clamps. -/
theorem loadsAndRatiosAreFormed : Obligations.LoadsAndRatiosAreFormed := by
  refine ⟨fun c p p' hp hw hl => ?_, fun re l l' hre hl => ?_⟩
  · have hW := loadW_eq (c := c) (p := p)
    refine ⟨hW, loadL_eq, by omega, loadL_le _ _, loadW_empty hw hl, ?_, loadW_laden hp hl, ?_, fun h => ?_⟩
    · rw [loadW_empty hw hl, loadL_empty]
    · rw [loadW_laden hp hl, loadL_laden hw]
    · exact ⟨loadW_mono hp hw h, loadL_mono hw (loadW_mono hp hw h)⟩
  · refine ⟨rfl, Nat.le_add_right _ _, ?_, by simp [brakeRatio], brakeRatio_laden hre, brakeRatio_mono⟩
    calc brakeRatio re l ≤ brakeRatio re 1000 := brakeRatio_mono hl
      _ = 1000 := brakeRatio_laden hre

end Sys2Proof.Machine
end

section
/-! SUPPORT. The end of a transition hold and the substitution of the laden load (R69, R70, R72). -/
namespace Sys2Proof.Machine

section
variable {s t : State} {a : AxleId} {g k : GroupId} {x : LiftState}

/-! ### A substituted group -/

/-- R69: the group has taken the laden load. -/
def State.Substituted (s : State) (g : GroupId) : Prop := (s.group g).status = .substituted

theorem State.Substituted.of_groups (h : t.loads.groups = s.loads.groups) (hs : s.Substituted g) : t.Substituted g := by
  unfold State.Substituted State.group
  rw [h]
  exact hs

theorem State.Substituted.setGroup {r : GroupRecord} (hr : (s.group k).status = .substituted → r.status = .substituted)
    (hs : s.Substituted g) : (s.setGroup k r).Substituted g := by
  unfold State.Substituted
  rw [State.setGroup_group]
  split
  · rename_i hk
    exact hr (hk ▸ hs)
  · exact hs

theorem GroupRecord.entered_substituted {r : GroupRecord} (h : r.status = .substituted) : r.entered.status = .substituted := by
  simp [GroupRecord.entered, h]

theorem State.Substituted.followTransition (hs : s.Substituted g) : (s.followTransition k).Substituted g := by
  unfold State.followTransition
  split
  · exact hs.setGroup fun h => GroupRecord.entered_substituted h
  · split
    · exact hs.setGroup id
    · exact hs

/-- R69: no transition of an axle ends the substitution. -/
theorem State.Substituted.setLift (hs : s.Substituted g) : (s.setLift a x).Substituted g := by
  by_cases h : (s.axle a).lift = x
  · rw [State.setLift_same h]
    exact hs
  · rw [State.setLift_eq h]
    refine .of_groups (s := s.lifted a x) ?_ ?_
    · rw [State.reportLift_loads, State.evaluateAxle_loads, State.noteArrival_loads]
    · unfold State.lifted
      exact .followTransition (.followTransition (.setGroup id (.setGroup id (.of_groups rfl hs))))

theorem State.Substituted.boundHeldUp (hs : s.Substituted g) : (s.boundHeldUp a).Substituted g := by
  unfold State.boundHeldUp State.lowerToAuto State.modeToAuto
  dsimp only
  split
  · split
    · exact .setLift (.of_groups (by split <;> rfl) hs)
    · exact hs
  · exact hs

theorem State.Substituted.boundGroup (hs : s.Substituted g) : (s.boundGroup k).Substituted g :=
  State.foldl_keeps (P := fun t => t.Substituted g) (fun _ _ ht => ht.boundHeldUp) _ hs

/-! ### The release of a group -/

theorem State.releaseGroup_held (h : (s.group g).anyHold = true) : s.releaseGroup g = s := by
  unfold State.releaseGroup
  split
  · rfl
  · rename_i hv
    have hr : (s.group g).released (s.calibration g) (s.offered g.bellows) = s.group g := if_pos h
    rw [hr]
    exact if_neg hv

/-- R69: a group without a cause takes the load of its bellows input. -/
theorem State.releaseGroup_free {pb : Int} (h : (s.group g).anyHold = false) (hv : (s.group g).status ≠ .valid)
    (ho : s.offered g.bellows = some pb) : s.releaseGroup g =
      (s.setGroup g (({ s.group g with status := .valid } : GroupRecord).loaded (s.calibration g) pb)).boundGroup g := by
  have hr : (s.group g).released (s.calibration g) (s.offered g.bellows) =
      ({ s.group g with status := .valid } : GroupRecord).loaded (s.calibration g) pb := by
    rw [ho]
    exact if_neg (by rw [h]; decide)
  unfold State.releaseGroup
  rw [if_neg hv, hr]
  exact if_pos rfl

/-- R70: the state in which the transition hold of a group is over. -/
def State.holdEnded (s : State) (g : GroupId) : State :=
  s.setGroup g { s.group g with holdTransition := false, transitionEndSince := none }

theorem State.holdEnded_group : (s.holdEnded g).group g =
    { s.group g with holdTransition := false, transitionEndSince := none } := State.setGroup_group_self _ _ _

theorem State.holdEnded_held (h : (s.group g).holdStart = true ∨ (s.group g).holdRoll = true ∨
    (s.group g).holdSensor = true) : (s.holdEnded g).releaseGroup g = s.holdEnded g := by
  refine State.releaseGroup_held ?_
  rw [State.holdEnded_group]
  rcases h with h | h | h <;> simp [GroupRecord.anyHold, h]

/-- What a group holds once its last cause has ended. -/
structure State.Freed (s u : State) (g : GroupId) (pb : Int) : Prop where
  w : (u.group g).w = loadW (s.calibration g) pb
  l : (u.group g).l = loadL (s.calibration g) (u.group g).w
  valid : (∀ a, (s.axle a).mode ≠ .heldUp) →
    (u.group g).status = .valid ∧ (u.group g).holdTransition = false ∧ u.loads.axles = s.loads.axles

theorem State.holdEnded_freed {pb : Int} (h1 : (s.group g).holdStart = false) (h2 : (s.group g).holdRoll = false)
    (h3 : (s.group g).holdSensor = false) (hv : (s.group g).status ≠ .valid) (ho : s.offered g.bellows = some pb) :
    s.Freed ((s.holdEnded g).releaseGroup g) g pb := by
  have hg := s.holdEnded_group (g := g)
  rw [State.releaseGroup_free (s := s.holdEnded g) (pb := pb) (by rw [hg]; simp [GroupRecord.anyHold, h1, h2, h3])
    (by rw [hg]; exact hv) ho]
  generalize hr : ({ (s.holdEnded g).group g with status := .valid } : GroupRecord).loaded
    ((s.holdEnded g).calibration g) pb = r
  have hrg : ((s.holdEnded g).setGroup g r).group g = r := State.setGroup_group_self _ _ _
  have hb := ((s.holdEnded g).setGroup g r).boundGroup_sameHolds g g
  rw [hrg] at hb
  refine ⟨by rw [hb.w, ← hr]; rfl, by rw [hb.l, hb.w, ← hr]; rfl, fun hm => ?_⟩
  rw [State.boundGroup_none (by exact hm), hrg, ← hr, hg]
  exact ⟨rfl, rfl, rfl⟩

/-! ### The substitution -/

/-- R72: the state in which a group takes the laden load. -/
def State.laden (s : State) (g : GroupId) : State :=
  s.setGroup g { s.group g with status := .substituted, w := (s.calibration g).wl, l := 1000 }

/-- What a substituted group holds. -/
structure State.Laden (s u : State) (g : GroupId) : Prop where
  status : (u.group g).status = .substituted
  w : (u.group g).w = (s.calibration g).wl
  l : (u.group g).l = 1000
  holdSensor : (u.group g).holdSensor = (s.group g).holdSensor
  axles : (∀ a, (s.axle a).mode ≠ .heldUp) → u.loads.axles = s.loads.axles

theorem State.laden_bound : s.Laden ((s.laden g).boundGroup g) g := by
  have hg : (s.laden g).group g = { s.group g with status := .substituted, w := (s.calibration g).wl, l := 1000 } :=
    State.setGroup_group_self _ _ _
  have hb := (s.laden g).boundGroup_sameHolds g g
  rw [hg] at hb
  refine ⟨State.Substituted.boundGroup (by rw [State.Substituted, hg]), hb.w, hb.l, hb.holdSensor, fun hm => ?_⟩
  rw [State.boundGroup_none (by exact hm)]
  rfl

end

/-- A measurement that does not run, or has not reached its time. -/
theorem not_due_of_false {a b : Bool} (h : a = false ∨ b = false) : ¬((a && b) = true) := by
  rcases h with h | h <;> simp [h]

/-- Settles O47, by the causes that are left as the hold ends, and by the group's record through the lowering of HELD UP
axles. -/
theorem loadHoldsEnd : Obligations.LoadHoldsEnd := by
  rintro dt s g r hp rfl
  have hend : exec (.transitionHoldEnd dt g) s = .next ((s.elapse dt).endTransition g) :=
    congrArg _ (State.live_on hp dt _)
  have hsub : exec (.loadSubstitution dt g) s = .next ((s.elapse dt).substitute g) := congrArg _ (State.live_on hp dt _)
  refine ⟨fun since ht hs hd => ?_, fun hno => ?_, fun since ht hs hd => ?_, fun hno => ?_⟩
  · refine ⟨((s.elapse dt).holdEnded g).releaseGroup g, ?_, State.holdEnded_held (s := s.elapse dt), fun pb h1 h2 h3 hv ho => ?_⟩
    · rw [hend]
      exact congrArg _ (if_pos (Bool.and_eq_true_iff.2 ⟨ht, by rw [State.elapse_group, hs]; exact State.reached_some hd⟩))
    · have k := State.holdEnded_freed (s := s.elapse dt) h1 h2 h3 hv ho
      exact ⟨k.w, k.l, k.valid⟩
  · rw [hend]
    exact congrArg _ (if_neg (not_due_of_false hno))
  · have k := (s.elapse dt).laden_bound (g := g)
    refine ⟨((s.elapse dt).laden g).boundGroup g, ?_, k.status, k.w, k.l, k.holdSensor.trans ht, k.axles⟩
    rw [hsub]
    exact congrArg _ (if_pos (Bool.and_eq_true_iff.2 ⟨ht, by rw [State.elapse_group, hs]; exact State.reached_some hd⟩))
  · rw [hsub]
    exact congrArg _ (if_neg (not_due_of_false hno))

end Sys2Proof.Machine
end

section
/-! SUPPORT. The ends of a workshop step (R85, R94, R144, R148 to R151). -/
namespace Sys2Proof.Machine

section
variable {s : State} {r : RunningStep} {a : AxleId} {x : LiftState} {dt : Nat}

/-! ### Bands -/

theorem State.channelInBand_iff {y : Nat} {d : ChannelId} : s.channelInBand y d = true ↔
    ∃ pm, s.pressureOf d.delivered = some pm ∧ y ≤ pm + 15 ∧ pm ≤ y + 15 := by
  unfold State.channelInBand
  cases s.pressureOf d.delivered <;> simp

/-- R149: the judged channels. -/
theorem State.mem_judgedChannels {c : Option ChannelId} {d : ChannelId} : d ∈ s.judgedChannels c ↔
    c = some d ∨ c = none ∧ (d ≠ .chX ∨ s.settings.third = true) := by
  cases c with
  | some e =>
    simp only [State.judgedChannels, List.mem_singleton, Option.some.injEq, reduceCtorEq, false_and, or_false]
    exact eq_comm
  | none => cases h : s.settings.third <;> cases d <;> simp [State.judgedChannels, h]

theorem State.stepInBand_iff {c : Option ChannelId} {y : Nat} : s.stepInBand c y = true ↔
    ∀ d, (c = some d ∨ (c = none ∧ (d ≠ .chX ∨ s.settings.third = true))) →
      ∃ pm, s.pressureOf d.delivered = some pm ∧ y ≤ pm + 15 ∧ pm ≤ y + 15 := by
  simp only [State.stepInBand, List.all_eq_true, State.mem_judgedChannels, State.channelInBand_iff]

theorem State.followBand_eq {c : Option ChannelId} {y z : Nat} (hr : s.mode.running = some r)
    (hx : r.step = .channelPressure c y z) : s.followBand = if s.stepInBand c y = r.inBand then s else
      s.setMode { s.mode with running := some { r with inBand := !r.inBand, bandSince := s.now } } := by
  unfold State.followBand
  rw [hr]
  dsimp only
  rw [hx]

/-! ### The end of a step -/

/-- What the end of a running step makes of the table and the notices. -/
structure State.StepEnded (s t : State) (m : Mode) : Prop where
  mode : t.mode = m
  noTest : t.hasEntry .test = false
  entries : ∀ z, z ≠ .test → t.entry z = s.entry z
  notice : t.port.notices.workshopChange = some ⟨m.workshop, m.result, m.cause⟩

theorem State.enterWorkshopState_ended {m : Mode} (h : s.mode.workshop = .stepRunning) (hm : m.workshop ≠ .stepRunning) :
    s.StepEnded (s.enterWorkshopState m) m := by
  refine ⟨s.enterWorkshopState_mode m, ?_, fun z hz => s.enterWorkshopState_entry m hz, ?_⟩ <;>
    unfold State.enterWorkshopState <;> dsimp only <;> rw [if_pos h, if_neg (h ▸ hm.symm)]
  · rw [State.hasEntry_iff]
    show ((s.retireEntry .test).entry .test).isSome = false
    rw [State.retireEntry_entry_self]
    rfl
  · rfl

/-! ### A LIFT step -/

/-- A lift state that the axle has taken, before it is reported to the workshop. -/
def State.arrived (s : State) (a : AxleId) (x : LiftState) : State := ((s.lifted a x).noteArrival a x).evaluateAxle a

theorem State.arrived_mode : (s.arrived a x).mode = s.mode :=
  (((State.lifted_quiet (a := a) (x := x)).apart.trans State.noteArrival_apart).trans
    (State.Quiet.evaluateAxle a).apart).mode

/-- R85: what the workshop record makes of a lift state that an axle takes. -/
def Mode.reported (m : Mode) (a : AxleId) (x : LiftState) : Mode :=
  match m.running.map RunningStep.step, x with
  | some (.lift b true), .up =>
    if b = a then { m with workshop := .ready, running := none, result := .done, cause := none } else m
  | some (.lift b true), .lowering =>
    if b = a then { m with workshop := .stepFault, running := none, result := .fault, cause := some .liftInterrupted }
    else m
  | some (.lift b false), .down =>
    if b = a then { m with workshop := .ready, running := none, result := .done, cause := none } else m
  | _, _ => m

theorem State.reportLift_mode : (s.reportLift a x).mode = s.mode.reported a x := by
  unfold State.reportLift Mode.reported
  cases hr : s.mode.running with
  | none => rfl
  | some r =>
    dsimp only [Option.map_some]
    cases hs : r.step with
    | channelPressure c y z => rfl
    | sensorListen q => rfl
    | lift b up =>
      by_cases hb : b = a
      · subst hb
        cases up <;> cases x <;> simp [State.stepDone, State.stepFaults, State.enterWorkshopState_mode]
      · cases up <;> cases x <;> simp [hb]

theorem State.setLift_mode (h : (s.axle a).lift ≠ x) : (s.setLift a x).mode = s.mode.reported a x := by
  rw [State.setLift_eq h, State.reportLift_mode]
  exact congrArg (Mode.reported · a x) State.arrived_mode

theorem Mode.reported_other {m : Mode} (hr : m.running = some r) (h : (r.step ≠ .lift a true ∧ r.step ≠ .lift a false) ∨
    x = .raising ∨ (r.step = .lift a true ∧ x = .down) ∨ (r.step = .lift a false ∧ x ≠ .down)) : m.reported a x = m := by
  unfold Mode.reported
  rw [hr, Option.map_some]
  rcases h with ⟨h1, h2⟩ | rfl | ⟨h, rfl⟩ | ⟨h, hx⟩
  · cases hs : r.step with
    | channelPressure c y z => rfl
    | sensorListen q => rfl
    | lift b up =>
      have hb : b ≠ a := by
        rintro rfl
        cases up
        · exact h2 hs
        · exact h1 hs
      cases up <;> cases x <;> simp [hb]
  · cases r.step with
    | lift b up => cases up <;> rfl
    | _ => rfl
  · rw [h]
  · rw [h]
    cases x with
    | down => exact absurd rfl hx
    | _ => rfl

/-! ### The measurements -/

section
variable {c : Option ChannelId} {y z : Nat} {q : Position}

theorem State.endBand_pressure (hr : s.mode.running = some r) (hx : r.step = .channelPressure c y z) : s.endBand =
    if !r.inBand && decide (r.bandSince + seconds 2 ≤ s.now) then (s.stepFaults .outOfBand).settle else s := by
  unfold State.endBand
  rw [hr]
  dsimp only
  rw [hx]

theorem State.endHeld_pressure (hr : s.mode.running = some r) (hx : r.step = .channelPressure c y z) : s.endHeld =
    if r.inBand && decide (r.bandSince + seconds z ≤ s.now) then s.stepDone.settle else s := by
  unfold State.endHeld
  rw [hr]
  dsimp only
  rw [hx]

theorem State.endListen_listen (hr : s.mode.running = some r) (hx : r.step = .sensorListen q) : s.endListen =
    if r.startedAt + seconds 60 ≤ s.now then (s.stepFaults .noTelegram).settle else s := by
  unfold State.endListen
  rw [hr]
  dsimp only
  rw [hx]

/-- R149, R151: a measurement is of its own kind of step. -/
theorem State.endListen_pressure (hr : s.mode.running = some r) (hx : r.step = .channelPressure c y z) :
    s.endListen = s := by
  unfold State.endListen
  rw [hr]
  dsimp only
  rw [hx]

theorem State.endBand_listen (hr : s.mode.running = some r) (hx : r.step = .sensorListen q) : s.endBand = s := by
  unfold State.endBand
  rw [hr]
  dsimp only
  rw [hx]

theorem State.endHeld_listen (hr : s.mode.running = some r) (hx : r.step = .sensorListen q) : s.endHeld = s := by
  unfold State.endHeld
  rw [hr]
  dsimp only
  rw [hx]

end

end

/-- Settles O55, by the band of the judged channels, the report of a lift state to the workshop, and the measurements. -/
theorem stepMeasurementsEnd : Obligations.StepMeasurementsEnd := by
  refine ⟨fun s r c y z hr hx => ?_, fun s r a x hr hne => ?_, fun dt s hp hw r hr => ⟨?_, ?_, ?_, ?_⟩⟩
  · have hb := State.followBand_eq hr hx
    refine ⟨State.stepInBand_iff, fun h => hb.trans (if_pos h), fun h => ?_⟩
    rw [hb, if_neg h, Bool.eq_not_of_ne h]
  · have hm := State.setLift_mode hne
    refine ⟨fun h => ⟨fun hx => ?_, fun hx => ?_⟩, fun h hx => ?_, fun h => hm.trans (Mode.reported_other hr h),
      ((s.setLift_fields a).2.2).trans (if_pos rfl)⟩ <;>
      subst hx <;> simp only [hm, Mode.reported, hr, Option.map_some, h, if_pos]
  · intro c y z hx
    have hband : exec (.bandMeasurement dt) s = .next (s.elapse dt).endBand := congrArg _ (State.live_on hp dt _)
    have hheld : exec (.holdMeasurement dt) s = .next (s.elapse dt).endHeld := congrArg _ (State.live_on hp dt _)
    have hlisten : exec (.listenTimeout dt) s = .next (s.elapse dt).endListen := congrArg _ (State.live_on hp dt _)
    rw [hband, hheld, hlisten, State.endBand_pressure (s := s.elapse dt) hr hx,
      State.endHeld_pressure (s := s.elapse dt) hr hx, State.endListen_pressure (s := s.elapse dt) hr hx]
    refine ⟨fun h1 h2 => ?_, fun h => ?_, fun h1 h2 => ?_, fun h => ?_, rfl⟩
    · exact congrArg _ (if_pos (Bool.and_eq_true_iff.2 ⟨by rw [h1]; rfl, decide_eq_true h2⟩))
    · exact congrArg _ (if_neg (not_due_of_false (h.imp (fun h => by rw [h]; rfl) fun h => decide_eq_false (Nat.not_le.2 h))))
    · exact congrArg _ (if_pos (Bool.and_eq_true_iff.2 ⟨h1, decide_eq_true h2⟩))
    · exact congrArg _ (if_neg (not_due_of_false (h.imp id fun h => decide_eq_false (Nat.not_le.2 h))))
  · intro q hx
    have hband : exec (.bandMeasurement dt) s = .next (s.elapse dt).endBand := congrArg _ (State.live_on hp dt _)
    have hheld : exec (.holdMeasurement dt) s = .next (s.elapse dt).endHeld := congrArg _ (State.live_on hp dt _)
    have hlisten : exec (.listenTimeout dt) s = .next (s.elapse dt).endListen := congrArg _ (State.live_on hp dt _)
    rw [hband, hheld, hlisten, State.endBand_listen (s := s.elapse dt) hr hx, State.endHeld_listen (s := s.elapse dt) hr hx,
      State.endListen_listen (s := s.elapse dt) hr hx]
    exact ⟨fun h => congrArg _ (if_pos h), fun h => congrArg _ (if_neg (Nat.not_le.2 h)), rfl, rfl⟩
  · have h := State.enterWorkshopState_ended (m := { s.mode with
      workshop := .ready, running := none, result := .done, cause := none }) hw nofun
    exact ⟨h.mode, h.noTest, h.entries, h.notice⟩
  · intro f
    have h := State.enterWorkshopState_ended (m := { s.mode with
      workshop := .stepFault, running := none, result := .fault, cause := some f }) hw nofun
    exact ⟨h.mode, h.noTest, h.entries, h.notice⟩

end Sys2Proof.Machine
end

section
/-! SUPPORT. The gated parameter writes: the stability parameters, the calibration of a group and the brake characteristic
(R67, R105, R129). -/
namespace Sys2Proof.Machine

/-! ### Ranges -/

theorem rangeRefusal_none {offset lo hi v : Nat} : rangeRefusal offset lo hi v = none ↔ lo ≤ v ∧ v ≤ hi := by
  unfold rangeRefusal
  split
  · exact iff_of_false nofun (by omega)
  · split
    · exact iff_of_false nofun (by omega)
    · exact iff_of_true rfl (by omega)

theorem ratioRefusal_none {offset re : Nat} : ratioRefusal offset re = none ↔ 200 ≤ re ∧ re ≤ 1000 :=
  rangeRefusal_none (lo := 200) (hi := 1000)

theorem ratioRefusal_out {offset re : Nat} (h : ¬(200 ≤ re ∧ re ≤ 1000)) :
    ratioRefusal offset re = some (limitedAt offset (if re < 200 then 200 else 1000)) := by
  unfold ratioRefusal
  by_cases h1 : re < 200
  · rw [if_pos h1, if_pos h1]
  · rw [if_neg h1, if_neg h1, if_pos (by omega)]

theorem Option.orElse_eq_none_iff {α : Type} {x : Option α} {f : Unit → Option α} :
    x.orElse f = none ↔ x = none ∧ f () = none := by
  cases x <;> simp

theorem rangeRefusal_orElse {offset lo hi v : Nat} {f : Unit → Option Named} :
    (rangeRefusal offset lo hi v).orElse f =
      if v < lo then some (limitedAt offset lo) else if hi < v then some (limitedAt offset hi) else f () := by
  unfold rangeRefusal
  split
  · rfl
  · split <;> rfl

theorem stabilityRefusal_none {p : Params} : stabilityRefusal p = none ↔
    (800 ≤ wordAt p 0 ∧ wordAt p 0 ≤ 1100) ∧ (1000 ≤ wordAt p 2 ∧ wordAt p 2 ≤ 2500) ∧
      (wordAt p 2 ≤ wordAt p 4 ∧ wordAt p 4 ≤ 2800) ∧ (500 ≤ wordAt p 6 ∧ wordAt p 6 ≤ 900) := by
  unfold stabilityRefusal
  rw [Option.orElse_eq_none_iff, Option.orElse_eq_none_iff, Option.orElse_eq_none_iff, rangeRefusal_none,
    rangeRefusal_none, rangeRefusal_none, rangeRefusal_none]

/-- R129: the first value out of range, and the end of the range that it passes. -/
theorem stabilityRefusal_some {p : Params} {n : Named} (h : stabilityRefusal p = some n) : n =
    if wordAt p 0 < 800 then limitedAt 0 800
    else if 1100 < wordAt p 0 then limitedAt 0 1100
    else if wordAt p 2 < 1000 then limitedAt 2 1000
    else if 2500 < wordAt p 2 then limitedAt 2 2500
    else if wordAt p 4 < wordAt p 2 then limitedAt 4 (wordAt p 2)
    else if 2800 < wordAt p 4 then limitedAt 4 2800
    else if wordAt p 6 < 500 then limitedAt 6 500
    else limitedAt 6 900 := by
  rw [stabilityRefusal, rangeRefusal_orElse, rangeRefusal_orElse, rangeRefusal_orElse, rangeRefusal] at h
  grind

theorem enableOf_none {n : Nat} (h : 1 < n) : enableOf n = none := by
  obtain ⟨k, rfl⟩ : ∃ k, n = k + 2 := ⟨n - 2, by omega⟩
  rfl

theorem enableOf_some {n : Nat} (h : n ≤ 1) : enableOf n = some (decide (n = 1)) := by
  obtain rfl | rfl : n = 0 ∨ n = 1 := by omega
  · rfl
  · rfl

section
variable {s : State} {p : Params} {dt : Nat} {g : GroupId}

theorem State.gated_ready {own : State × Answer} (h : s.mode.workshop = .ready) : s.gated own = own := if_pos h

/-! ### Stability parameters -/

theorem State.writeStability_refused {n : Named} (hw : s.mode.workshop = .ready) (h : stabilityRefusal p = some n) :
    s.writeStability p = s.refuse .badParameter n := by
  rw [State.writeStability, State.gated_ready hw, h]

theorem State.writeStability_enable (hw : s.mode.workshop = .ready) (h : stabilityRefusal p = none)
    (hb : 1 < byteAt p 8) : s.writeStability p = s.refuse .badParameter (namedAt 8) := by
  rw [State.writeStability, State.gated_ready hw, h, enableOf_none hb]

theorem State.writeStability_done (hw : s.mode.workshop = .ready) (h : stabilityRefusal p = none) (hb : byteAt p 8 ≤ 1) :
    s.writeStability p = (s.setSettings { s.settings with
      stability := ⟨wordAt p 0, wordAt p 2, wordAt p 4, wordAt p 6, decide (byteAt p 8 = 1)⟩ }).carry noData := by
  rw [State.writeStability, State.gated_ready hw, h, enableOf_some hb]

/-! ### Calibration -/

theorem Calibration.sound_iff {c : Calibration} :
    c.sound = true ↔ c.pe < c.pl ∧ c.pl ≤ 1000 ∧ c.we < c.wl ∧ c.wl ≤ 3000 := by
  simp [Calibration.sound, and_assoc]

theorem State.writeCalibration_noGroup (hw : s.mode.workshop = .ready) (h : GroupId.ofNumber (byteAt p 0) = none) :
    s.writeCalibration p = s.refuse .badParameter unnamed := by
  rw [State.writeCalibration, State.gated_ready hw, h]

theorem State.writeCalibration_unsound (hw : s.mode.workshop = .ready) (h : GroupId.ofNumber (byteAt p 0) = some g)
    (hc : ¬(calibrationAt p (s.calibration g).re).sound = true) :
    s.writeCalibration p = s.refuse .badParameter unnamed := by
  rw [State.writeCalibration, State.gated_ready hw, h]
  exact if_neg hc

/-- R67: the settings with a written calibration. -/
def State.calibrated (s : State) (g : GroupId) (c : Calibration) : State :=
  s.setSettings { s.settings with groups := s.settings.groups.set g c }

theorem State.calibrated_calibration (c : Calibration) : (s.calibrated g c).calibration g = c :=
  by
  cases g <;> rfl

theorem State.writeCalibration_done (hw : s.mode.workshop = .ready) (h : GroupId.ofNumber (byteAt p 0) = some g)
    (hc : (calibrationAt p (s.calibration g).re).sound = true) : s.writeCalibration p =
      ((s.calibrated g (calibrationAt p (s.calibration g).re)).recalibrate g).carry noData := by
  rw [State.writeCalibration, State.gated_ready hw, h]
  exact if_pos hc

theorem State.recalibrate_settings : (s.recalibrate g).settings = s.settings :=
  State.settings_of_setup (State.setup_of_view (s.recalibrate_view g))

/-- R67: what a new calibration makes of the load of its group. -/
theorem State.recalibrate_held (h : (s.group g).status = .held) : s.recalibrate g = s := by
  rw [State.recalibrate, h]

theorem State.recalibrate_valid {pb : Int} (h : (s.group g).status = .valid) (ho : s.offered g.bellows = some pb) :
    ((s.recalibrate g).group g).w = loadW (s.calibration g) pb ∧
      ((s.recalibrate g).group g).l = loadL (s.calibration g) (loadW (s.calibration g) pb) := by
  have hl := State.formLoad_load h ho
  rw [State.recalibrate, h]
  exact ⟨hl.w, hl.l⟩

theorem State.recalibrate_substituted (h : (s.group g).status = .substituted) :
    ((s.recalibrate g).group g).w = (s.calibration g).wl ∧ ((s.recalibrate g).group g).l = (s.group g).l := by
  have hb := (s.setGroup g { s.group g with w := (s.calibration g).wl }).boundGroup_sameHolds g g
  rw [State.setGroup_group_self] at hb
  rw [State.recalibrate, h]
  exact ⟨hb.w, hb.l⟩

/-! ### Brake characteristic -/

theorem State.writeCharacteristic_knee (hw : s.mode.workshop = .ready) (h : 150 < wordAt p 0) :
    s.writeCharacteristic p = s.refuse .badParameter (limitedAt 0 150) := by
  rw [State.writeCharacteristic, State.gated_ready hw, if_pos h]

theorem State.writeCharacteristic_ratio {n : Named} (hw : s.mode.workshop = .ready) (h : wordAt p 0 ≤ 150)
    (hn : ((ratioRefusal 2 (wordAt p 2)).orElse fun _ => ratioRefusal 4 (wordAt p 4)) = some n) :
    s.writeCharacteristic p = s.refuse .badParameter n := by
  rw [State.writeCharacteristic, State.gated_ready hw, if_neg (by omega), hn]

/-- R105: the values of a characteristic that are in range. -/
structure CharacteristicInRange (p : Params) : Prop where
  knee : wordAt p 0 ≤ 150
  first : 200 ≤ wordAt p 2 ∧ wordAt p 2 ≤ 1000
  second : 200 ≤ wordAt p 4 ∧ wordAt p 4 ≤ 1000

theorem State.writeCharacteristic_enable (hw : s.mode.workshop = .ready) (h : CharacteristicInRange p)
    (hb : 1 < byteAt p 6) : s.writeCharacteristic p = s.refuse .badParameter (namedAt 6) := by
  have hk := h.knee
  rw [State.writeCharacteristic, State.gated_ready hw, if_neg (by omega), ratioRefusal_none.2 h.first,
    Option.orElse_none, ratioRefusal_none.2 h.second, enableOf_none hb]

theorem State.writeCharacteristic_conflict {a : AxleId} {rest : List AxleId} (hw : s.mode.workshop = .ready)
    (h : CharacteristicInRange p) (hb : byteAt p 6 = 0) (hs : s.servingAxles .chX = a :: rest) :
    s.writeCharacteristic p = s.refuse .conflict (namedAxle a) := by
  have hk := h.knee
  rw [State.writeCharacteristic, State.gated_ready hw, if_neg (by omega), ratioRefusal_none.2 h.first,
    Option.orElse_none, ratioRefusal_none.2 h.second, enableOf_some (by omega), hb, hs]
  rfl

/-- R105: the state in which a written characteristic stands. -/
def State.characterised (s : State) (p : Params) : State :=
  (s.setSettings (s.settings.withCharacteristic (wordAt p 0) (wordAt p 2) (wordAt p 4)
    (decide (byteAt p 6 = 1)))).followThird s.settings.third

theorem State.writeCharacteristic_done (hw : s.mode.workshop = .ready) (h : CharacteristicInRange p)
    (hb : byteAt p 6 = 1 ∨ (byteAt p 6 = 0 ∧ s.servingAxles .chX = [])) :
    s.writeCharacteristic p = (s.characterised p).carry noData := by
  have hk := h.knee
  rw [State.writeCharacteristic, State.gated_ready hw, if_neg (by omega), ratioRefusal_none.2 h.first,
    Option.orElse_none, ratioRefusal_none.2 h.second, enableOf_some (by omega), State.characterised]
  rcases hb with hb | ⟨hb, hs⟩
  · rw [hb]
    rfl
  · rw [hb, hs]
    rfl

theorem State.followThird_channels (b : Bool) : s.followThird b = s.setChannels (s.followThird b).channels ∧
    ∀ c, c ≠ .chX → (s.followThird b).channel c = s.channel c := by
  unfold State.followThird
  split
  · exact ⟨rfl, fun _ _ => rfl⟩
  · exact ⟨rfl, fun c hc => (State.setChannel_channel _ _ _ _).trans (if_neg hc)⟩

end

/-- Settles O43, write by write: each refusal in the order of its checks, and what the accepted values reach. -/
theorem gatedParametersAreWritten : Obligations.GatedParametersAreWritten := by
  intro dt p s hp hw
  have hstab : exec (.writeStabilityParameters dt p) s =
      .next ((s.elapse dt).request 0x58 p (exactly 9) (State.writeStability p)) := congrArg _ (State.live_on hp dt _)
  have hcal : exec (.writeGroupCalibration dt p) s =
      .next ((s.elapse dt).request 0x42 p (exactly 9) (State.writeCalibration p)) := congrArg _ (State.live_on hp dt _)
  have hchar : exec (.writeBrakeCharacteristic dt p) s =
      .next ((s.elapse dt).request 0x43 p (exactly 7) (State.writeCharacteristic p)) := congrArg _ (State.live_on hp dt _)
  have hw' : (s.taken dt).mode.workshop = .ready := hw
  rw [hstab, hcal, hchar]
  refine ⟨fun hc => ⟨stabilityRefusal_none, fun n => stabilityRefusal_some, fun n hn => ?_, fun hn hb => ?_,
    fun hn hb => ?_⟩, fun hc hg => ?_, ?_, fun hc => ⟨fun h => ?_, fun h1 h2 => ?_, fun h1 h2 h3 => ?_,
      fun h1 h2 h3 => ⟨fun hb => ?_, fun a rest hb hs => ?_, fun hb => ?_⟩⟩⟩
  · exact congrArg _ (State.request_refuse hc (by decide) (State.writeStability_refused hw' hn))
  · exact congrArg _ (State.request_refuse hc (by decide) (State.writeStability_enable hw' hn hb))
  · exact congrArg _ (State.request_done (by omega) (exactly_eq_true.2 hc) (State.writeStability_done hw' hn hb))
  · exact congrArg _ (State.request_refuse hc (by decide) (State.writeCalibration_noGroup hw' hg))
  · rintro g c hc hg rfl
    refine ⟨fun hn => ?_, fun hs => ?_⟩
    · exact congrArg _ (State.request_refuse hc (by decide) (State.writeCalibration_unsound hw' hg
        fun h => hn (Calibration.sound_iff.1 h)))
    · generalize hu : (s.taken dt).calibrated g ⟨wordAt p 1, wordAt p 3, wordAt p 5, wordAt p 7, (s.calibration g).re⟩ = u
      have hcu : u.calibration g = ⟨wordAt p 1, wordAt p 3, wordAt p 5, wordAt p 7, (s.calibration g).re⟩ := by
        rw [← hu, State.calibrated_calibration]
      have hgu : u.group g = s.group g := by rw [← hu]; rfl
      have hou : u.offered g.bellows = s.offered g.bellows := by rw [← hu]; cases g <;> rfl
      refine ⟨u.recalibrate g, ?_, ?_, fun h => ?_, fun pb h ho => ?_, fun h => ?_⟩
      · rw [← hu]
        exact congrArg _ (State.request_done (by omega) (exactly_eq_true.2 hc)
          (State.writeCalibration_done hw' hg (Calibration.sound_iff.2 hs)))
      · rw [State.recalibrate_settings, ← hu]
        rfl
      · rw [State.recalibrate_held (by rw [hgu, h]), ← hu]
        rfl
      · rw [← hcu]
        exact State.recalibrate_valid (by rw [hgu, h]) (by rw [hou, ho])
      · obtain ⟨h1, h2⟩ := State.recalibrate_substituted (s := u) (g := g) (by rw [hgu, h])
        exact ⟨by rw [h1, hcu], by rw [h2, hgu]⟩
  · exact congrArg _ (State.request_refuse hc (by decide) (State.writeCharacteristic_knee hw' h))
  · refine congrArg _ (State.request_refuse hc (by decide) (State.writeCharacteristic_ratio hw' h1 ?_))
    rw [ratioRefusal_out h2]
    rfl
  · refine congrArg _ (State.request_refuse hc (by decide) (State.writeCharacteristic_ratio hw' h1 ?_))
    rw [ratioRefusal_none.2 h2, ratioRefusal_out h3]
    rfl
  · exact congrArg _ (State.request_refuse hc (by decide) (State.writeCharacteristic_enable hw' ⟨h1, h2, h3⟩ hb))
  · exact congrArg _ (State.request_refuse hc (by decide)
      (State.writeCharacteristic_conflict hw' ⟨h1, h2, h3⟩ hb (rest := rest) hs))
  · have hf := State.followThird_channels (s := (s.taken dt).setSettings (s.settings.withCharacteristic (wordAt p 0)
      (wordAt p 2) (wordAt p 4) (decide (byteAt p 6 = 1)))) s.settings.third
    exact ⟨(s.taken dt).characterised p, congrArg _ (State.request_done (by omega) (exactly_eq_true.2 hc)
      (State.writeCharacteristic_done hw' ⟨h1, h2, h3⟩ hb)), hf.1, hf.2⟩

end Sys2Proof.Machine
end

section
/-! SUPPORT. What lowering and raising an axle make of its record, and leave of the others; Set Lift Mode and the bounds of a
HELD UP axle (R74, R75, R79, R81, R82). -/
namespace Sys2Proof.Machine

/-! ### The record of one axle -/

/-- R74: an axle that begins LOWERING. -/
def AxleRecord.lowers (r : AxleRecord) (now : Nat) : AxleRecord := { r with lift := .lowering, liftSince := now }

/-- R81: a HELD UP axle that is lowered is AUTO. -/
def AxleRecord.toAuto (r : AxleRecord) : AxleRecord := { r with mode := if r.mode = .heldUp then .auto else r.mode }

section
variable {s t u : State} {a b : AxleId} {x : LiftState}

theorem State.setLift_others (hb : b ≠ a) : (s.setLift a x).axle b = s.axle b := by
  by_cases h : (s.axle a).lift = x
  · rw [State.setLift_same h]
  · rw [State.setLift_axle h, if_neg hb]

theorem State.setLift_now : (s.setLift a x).now = s.now := (LoadChange.setLift s a x).settles.offers.now

theorem LiftState.lifted_ne_lowering (h : x.lifted = true) : x ≠ .lowering := by
  rintro rfl
  cases h

theorem State.setLift_lowers (h : (s.axle a).lift ≠ .lowering) : (s.setLift a .lowering).axle a = (s.axle a).lowers s.now := by
  rw [State.setLift_axle h, if_pos rfl]
  rfl

theorem State.lowerAxle_lifted (h : (s.axle a).lift.lifted = true) : (s.lowerAxle a).axle a = (s.axle a).lowers s.now := by
  rw [State.lowerAxle, if_pos h, State.setLift_lowers (LiftState.lifted_ne_lowering h)]

theorem State.lowerAxle_unlifted (h : (s.axle a).lift.lifted = false) : s.lowerAxle a = s := by
  rw [State.lowerAxle, h]
  rfl

theorem State.lowerAxle_others (hb : b ≠ a) : (s.lowerAxle a).axle b = s.axle b := by
  unfold State.lowerAxle
  split
  · exact State.setLift_others hb
  · rfl

theorem State.modeToAuto_axle : (s.modeToAuto a).axle b = if b = a then (s.axle a).toAuto else s.axle b := by
  unfold State.modeToAuto AxleRecord.toAuto
  split
  · rw [State.setAxle_axle]
  · split
    · rename_i hb
      rw [hb]
    · rfl

theorem State.modeToAuto_now : (s.modeToAuto a).now = s.now := by
  unfold State.modeToAuto
  split <;> rfl

theorem State.lowerToAuto_lifted (h : (s.axle a).lift.lifted = true) :
    (s.lowerToAuto a).axle a = (s.axle a).toAuto.lowers s.now := by
  have hm : (s.modeToAuto a).axle a = (s.axle a).toAuto := by rw [State.modeToAuto_axle, if_pos rfl]
  have hl : ((s.modeToAuto a).axle a).lift ≠ .lowering := by
    rw [hm]
    exact LiftState.lifted_ne_lowering h
  rw [State.lowerToAuto, if_pos h, State.setLift_lowers hl, hm, State.modeToAuto_now]

theorem State.lowerToAuto_unlifted (h : (s.axle a).lift.lifted = false) : s.lowerToAuto a = s := by
  rw [State.lowerToAuto, h]
  rfl

theorem State.lowerToAuto_others (hb : b ≠ a) : (s.lowerToAuto a).axle b = s.axle b := by
  unfold State.lowerToAuto
  split
  · rw [State.setLift_others hb, State.modeToAuto_axle, if_neg hb]
  · rfl

/-! ### The bounds and the refusal of HELD UP -/

theorem LiftState.lifted_false_iff : x.lifted = false ↔ x = .down ∨ x = .lowering := by
  cases x <;> simp [LiftState.lifted]

theorem State.boundHeldUp_lowers (hm : (s.axle a).mode = .heldUp) (hl : (s.axle a).lift.lifted = true)
    (hb : s.heldUpBound (s.axle a).layout.group < (s.group (s.axle a).layout.group).w ∨ 300 ≤ s.inputs.reference) :
    (s.boundHeldUp a).axle a = (s.axle a).toAuto.lowers s.now := by
  unfold State.boundHeldUp
  rw [if_pos ⟨hm, hb⟩, State.lowerToAuto_lifted hl]

theorem State.boundHeldUp_within (h : (s.axle a).mode ≠ .heldUp ∨
    ((s.group (s.axle a).layout.group).w ≤ s.heldUpBound (s.axle a).layout.group ∧ s.inputs.reference < 300) ∨
    (s.axle a).lift.lifted = false) : s.boundHeldUp a = s := by
  unfold State.boundHeldUp
  rcases h with h | ⟨h1, h2⟩ | h
  · exact if_neg fun hc => h hc.1
  · exact if_neg fun hc => by omega
  · dsimp only
    split
    · exact State.lowerToAuto_unlifted h
    · rfl

theorem State.supplyRefuses_iff : s.supplyRefuses = true ↔ (s.analog .sup).validity = .invalid ∨ s.supplyBelow = true := by
  simp [State.supplyRefuses]

theorem State.heldUpRefusal_eq : s.heldUpRefusal a =
    if (s.axle a).lift = .lowering ∨ (s.analog .sup).validity = .invalid ∨ s.supplyBelow = true ∨
        s.otherTyre a isAlarm = true then some ⟨none, none, none⟩
    else if 300 ≤ s.inputs.reference then some ⟨none, none, some 300⟩
    else if s.heldUpBound (s.axle a).layout.group < s.projectionOf a then
      some ⟨none, none, some (s.heldUpBound (s.axle a).layout.group)⟩
    else none := by
  unfold State.heldUpRefusal
  simp only [State.supplyRefuses_iff, or_assoc]

theorem State.heldUpRefusal_none : s.heldUpRefusal a = none ↔ (s.axle a).lift ≠ .lowering ∧
    (s.analog .sup).validity ≠ .invalid ∧ s.supplyBelow = false ∧ s.otherTyre a isAlarm = false ∧
    s.inputs.reference < 300 ∧ s.projectionOf a ≤ s.heldUpBound (s.axle a).layout.group := by
  rw [State.heldUpRefusal_eq]
  grind

/-! ### A pending raise is tried again -/

theorem StuState.resting_iff : s.stuActing = false ↔ s.stability.state = .idle ∨ s.stability.state = .armed := by
  unfold State.stuActing
  cases s.stability.state <;> simp

theorem State.heldUpMayRise_iff : s.heldUpMayRise = true ↔
    s.demands.braking = false ∧ (s.stability.state = .idle ∨ s.stability.state = .armed) := by
  rw [← StuState.resting_iff]
  simp [State.heldUpMayRise]

theorem State.retryHeldUp_waits (h : s.demands.braking = true ∨ s.stability.state ≠ .idle ∧ s.stability.state ≠ .armed) :
    s.retryHeldUp a = s := by
  unfold State.retryHeldUp
  refine if_neg fun hc => ?_
  obtain ⟨h1, h2⟩ := State.heldUpMayRise_iff.1 hc.1
  rcases h with h | ⟨h3, h4⟩
  · rw [h1] at h
    cases h
  · exact h2.elim h3 h4

/-- R81: what a pending raise becomes once it may rise. -/
theorem State.retryHeldUp_tries (hm : (s.axle a).mode = .heldUp) (hp : (s.axle a).raisePending = true)
    (hl : (s.axle a).lift = .down) (hr : s.heldUpMayRise = true) : s.retryHeldUp a =
      if (s.heldUpRefusal a).isSome then s.setAxle a { s.axle a with mode := .auto, raisePending := false }
      else (s.setAxle a { s.axle a with raisePending := false }).setLift a .raising := by
  unfold State.retryHeldUp
  exact if_pos ⟨hr, hm, hp, hl⟩

/-! ### The beginning of braking -/

theorem State.abortRaise_others (hb : b ≠ a) : (s.abortRaise a).axle b = s.axle b := by
  unfold State.abortRaise
  split
  · exact State.lowerToAuto_others hb
  · rfl

theorem State.abortRaise_axle : (s.abortRaise a).axle a =
    if (s.axle a).lift = .raising then (s.axle a).toAuto.lowers s.now else s.axle a := by
  unfold State.abortRaise
  split
  · rename_i h
    exact State.lowerToAuto_lifted (by rw [h]; rfl)
  · rfl

theorem State.abortRaise_now : (s.abortRaise a).now = s.now := (LoadChange.abortRaise s a).settles.offers.now

/-- R79: each axle that is RAISING as braking begins. -/
theorem State.takeBraking_axle : (s.takeBraking true).axle a =
    if (s.axle a).lift = .raising then (s.axle a).toAuto.lowers s.now else s.axle a := by
  obtain ⟨u, hu, ha, hf⟩ := foldl_read (P := fun t => t.now = s.now) (f := State.abortRaise) (read := State.axle)
    (fun _ _ _ _ hq => State.abortRaise_others hq) (fun _ _ ht => State.abortRaise_now.trans ht) AxleId.list_nodup
    a.mem_list (s := s.setDemands { s.demands with braking := true }) rfl
  have hs : u.axle a = s.axle a := ha
  refine hf.trans ?_
  rw [State.abortRaise_axle, hs, hu]

/-! ### Set Lift Mode -/

section
variable {p : Params} {m : LiftMode}

theorem liftModeOf_eq {n : Nat} : (2 < n → liftModeOf n = none) ∧ (n = 0 → liftModeOf n = some .auto) ∧
    (n = 1 → liftModeOf n = some .heldDown) ∧ (n = 2 → liftModeOf n = some .heldUp) := by
  refine ⟨fun h => ?_, ?_, ?_, ?_⟩
  · obtain ⟨k, rfl⟩ : ∃ k, n = k + 3 := ⟨n - 3, by omega⟩
    rfl
  all_goals
    rintro rfl
    rfl

theorem State.setLiftMode_bad (h : AxleId.ofNumber (byteAt p 0) = none ∨ 2 < byteAt p 1) :
    s.setLiftMode p = s.refuse .badParameter unnamed := by
  unfold State.setLiftMode
  rcases h with h | h
  · rw [h]
  · rw [liftModeOf_eq.1 h]
    cases AxleId.ofNumber (byteAt p 0) <;> rfl

/-- R75: a request that names an axle and a mode, outside WATCH. -/
structure State.AsksMode (s : State) (p : Params) (a : AxleId) (m : LiftMode) : Prop where
  axle : AxleId.ofNumber (byteAt p 0) = some a
  mode : liftModeOf (byteAt p 1) = some m
  awake : s.mode.power ≠ .watch

/-- R75, R81: a mode that an axle can have, with the refusal of HELD UP. -/
def State.answerMode (s : State) (a : AxleId) (m : LiftMode) : State × Answer :=
  match m, s.heldUpRefusal a with
  | .heldUp, some n => s.refuse .conflict n
  | _, _ => (s.takeMode a m).carry noData

/-- R75: the checks of Set Lift Mode in their order. -/
theorem State.AsksMode.answer (h : s.AsksMode p a m) : s.setLiftMode p =
    if !(s.axle a).layout.present then s.refuse .noSuchRecord unnamed
    else if !(s.axle a).layout.liftable && decide (m ≠ .heldDown) then s.refuse .conflict unnamed
    else s.answerMode a m := by
  rw [State.setLiftMode, h.axle, h.mode]
  exact if_neg h.awake

theorem State.AsksMode.absent (h : s.AsksMode p a m) (hp : (s.axle a).layout.present = false) :
    s.setLiftMode p = s.refuse .noSuchRecord unnamed := by
  rw [h.answer, hp]
  rfl

theorem State.AsksMode.fixed (h : s.AsksMode p a m) (hp : (s.axle a).layout.present = true)
    (hl : (s.axle a).layout.liftable = false) (hm : m ≠ .heldDown) : s.setLiftMode p = s.refuse .conflict unnamed := by
  rw [h.answer, hp, hl]
  exact if_pos (decide_eq_true hm)

theorem State.AsksMode.refused {n : Named} (h : s.AsksMode p a .heldUp) (hp : (s.axle a).layout.present = true)
    (hl : (s.axle a).layout.liftable = true) (hr : s.heldUpRefusal a = some n) :
    s.setLiftMode p = s.refuse .conflict n := by
  have ha : s.answerMode a .heldUp = s.refuse .conflict n := by
    unfold State.answerMode
    rw [hr]
  rw [h.answer, hp, hl, ha]
  simp

theorem State.AsksMode.taken (h : s.AsksMode p a m) (hp : (s.axle a).layout.present = true)
    (hl : (s.axle a).layout.liftable = true ∨ m = .heldDown) (hr : m = .heldUp → s.heldUpRefusal a = none) :
    s.setLiftMode p = (s.takeMode a m).carry noData := by
  have hc : (!(s.axle a).layout.liftable && decide (m ≠ .heldDown)) = false := by
    rcases hl with hl | hl <;> simp [hl]
  have ha : s.answerMode a m = (s.takeMode a m).carry noData := by
    unfold State.answerMode
    cases m with
    | heldUp => rw [hr rfl]
    | auto => rfl
    | heldDown => rfl
  rw [h.answer, hp, hc, ha]
  simp

end

/-- R75: HELD DOWN clears the pending raise and lowers a lifted axle. -/
structure State.HeldDown (s u : State) (a : AxleId) : Prop where
  mode : (u.axle a).mode = .heldDown
  raisePending : (u.axle a).raisePending = false
  lift : (u.axle a).lift = if (s.axle a).lift = .raising ∨ (s.axle a).lift = .up then .lowering else (s.axle a).lift
  others : ∀ b, b ≠ a → u.axle b = s.axle b

theorem State.takeMode_heldDown : s.HeldDown (s.takeMode a .heldDown) a := by
  show s.HeldDown (s.holdDown a) a
  unfold State.holdDown
  have hs : ∀ b, (s.setAxle a { s.axle a with mode := .heldDown, raisePending := false }).axle b =
      if b = a then { s.axle a with mode := .heldDown, raisePending := false } else s.axle b := fun b =>
    State.setAxle_axle _ _ _ _
  generalize s.setAxle a { s.axle a with mode := .heldDown, raisePending := false } = t at *
  have ha := (hs a).trans (if_pos rfl)
  have ho : ∀ b, b ≠ a → (t.lowerAxle a).axle b = s.axle b := fun b hb =>
    (State.lowerAxle_others hb).trans ((hs b).trans (if_neg hb))
  cases hl : (s.axle a).lift.lifted with
  | true =>
    have hr := State.lowerAxle_lifted (s := t) (a := a) (by rw [ha]; exact hl)
    rw [ha] at hr
    have hc : (s.axle a).lift = .raising ∨ (s.axle a).lift = .up := (LiftState.lifted_iff.1 hl).symm
    exact ⟨by rw [hr]; rfl, by rw [hr]; rfl, by rw [hr, if_pos hc]; rfl, ho⟩
  | false =>
    have hr := State.lowerAxle_unlifted (s := t) (a := a) (by rw [ha]; exact hl)
    have hc : ¬((s.axle a).lift = .raising ∨ (s.axle a).lift = .up) := by
      rcases LiftState.lifted_false_iff.1 hl with h | h <;> simp [h]
    rw [hr] at ho ⊢
    exact ⟨by rw [ha], by rw [ha], by rw [ha, if_neg hc], ho⟩

/-- R81: HELD UP raises a DOWN axle, or leaves its raise pending. -/
structure State.HeldUp (s u : State) (a : AxleId) : Prop where
  mode : (u.axle a).mode = .heldUp
  pending : (s.axle a).lift = .down → s.heldUpMayRise = false → (u.axle a).lift = .down ∧ (u.axle a).raisePending = true
  raising : (s.axle a).lift = .down → s.heldUpMayRise = true → (u.axle a).lift = .raising
  lift : (s.axle a).lift ≠ .down → (u.axle a).lift = (s.axle a).lift
  others : ∀ b, b ≠ a → u.axle b = s.axle b

theorem State.takeMode_heldUp : s.HeldUp (s.takeMode a .heldUp) a := by
  show s.HeldUp (s.holdUp a) a
  unfold State.holdUp
  have hs : ∀ b, (s.setAxle a { s.axle a with mode := .heldUp }).axle b =
      if b = a then { s.axle a with mode := .heldUp } else s.axle b := fun b => State.setAxle_axle _ _ _ _
  generalize s.setAxle a { s.axle a with mode := .heldUp } = t at *
  have ha := (hs a).trans (if_pos rfl)
  have ho : ∀ b, b ≠ a → t.axle b = s.axle b := fun b hb => (hs b).trans (if_neg hb)
  dsimp only
  split
  · rename_i hl
    split
    · rename_i hr
      obtain ⟨-, h2, h3⟩ := State.setLift_fields (s := t) (a := a) (x := .raising) a
      exact ⟨by rw [h2, ha], fun _ hc => absurd (hc.symm.trans hr) (by decide), fun _ _ => by rw [h3, if_pos rfl],
        fun hc => absurd hl hc, fun b hb => (State.setLift_others hb).trans (ho b hb)⟩
    · rename_i hr
      have hp : ∀ b, (t.setAxle a { t.axle a with raisePending := true }).axle b =
          if b = a then { t.axle a with raisePending := true } else t.axle b := fun b => State.setAxle_axle _ _ _ _
      have hpa := (hp a).trans (if_pos rfl)
      exact ⟨by rw [hpa, ha], fun _ _ => ⟨by rw [hpa, ha]; exact hl, by rw [hpa]⟩, fun _ hc => absurd hc hr,
        fun hc => absurd hl hc, fun b hb => (hp b).trans ((if_neg hb).trans (ho b hb))⟩
  · rename_i hl
    exact ⟨by rw [ha], fun hc => absurd hc hl, fun hc => absurd hc hl, fun _ => by rw [ha], ho⟩

end

end Sys2Proof.Machine
end

section
/-! SUPPORT. A pending raise tried again, and the request of Set Lift Mode with its refusals (R75, R81). -/
namespace Sys2Proof.Machine

section
variable {s : State} {a : AxleId}

theorem AxleRecord.toAuto_lowers_mode {r : AxleRecord} (n : Nat) :
    (r.toAuto.lowers n).mode = if r.mode = .heldUp then .auto else r.mode := rfl

theorem State.retryHeldUp_refused (hm : (s.axle a).mode = .heldUp) (hp : (s.axle a).raisePending = true)
    (hl : (s.axle a).lift = .down) (hr : s.heldUpMayRise = true) (h : (s.heldUpRefusal a).isSome = true) :
    s.retryHeldUp a = s.setAxle a { s.axle a with mode := .auto, raisePending := false } := by
  rw [State.retryHeldUp_tries hm hp hl hr, if_pos h]

theorem State.retryHeldUp_rises (hm : (s.axle a).mode = .heldUp) (hp : (s.axle a).raisePending = true)
    (hl : (s.axle a).lift = .down) (hr : s.heldUpMayRise = true) (h : s.heldUpRefusal a = none) :
    ((s.retryHeldUp a).axle a).lift = .raising ∧ ((s.retryHeldUp a).axle a).raisePending = false ∧
      ((s.retryHeldUp a).axle a).mode = .heldUp := by
  have hs : (s.setAxle a { s.axle a with raisePending := false }).axle a = { s.axle a with raisePending := false } :=
    (State.setAxle_axle _ _ _ _).trans (if_pos rfl)
  obtain ⟨h1, h2, h3⟩ := State.setLift_fields (s := s.setAxle a { s.axle a with raisePending := false }) (a := a)
    (x := .raising) a
  rw [State.retryHeldUp_tries hm hp hl hr, if_neg (by rw [h]; decide), h1, h2, h3, hs]
  exact ⟨if_pos rfl, rfl, hm⟩

end

/-- Settles O45, by what each rule makes of the record of its axle, and the checks of the request in their order. -/
theorem liftModesAreSet : Obligations.LiftModesAreSet := by
  refine ⟨?_, fun dt p s hp hc => ?_⟩
  · rintro s a _ _ rfl rfl
    refine ⟨rfl, State.heldUpRefusal_eq, fun hm hpe hl => ⟨State.retryHeldUp_waits, fun hb hs => ?_⟩,
      fun hm hl hb => ?_, fun h => State.boundHeldUp_within (h.imp id (.imp id LiftState.lifted_false_iff.2)),
      fun hl => ?_, fun hl => State.takeBraking_axle.trans (if_neg hl), rfl⟩
    · have hr : s.heldUpMayRise = true := State.heldUpMayRise_iff.2 ⟨hb, hs⟩
      exact ⟨State.retryHeldUp_refused hm hpe hl hr, State.retryHeldUp_rises hm hpe hl hr⟩
    · rw [State.boundHeldUp_lowers hm (LiftState.lifted_iff.2 hl.symm) hb, AxleRecord.toAuto_lowers_mode, if_pos hm]
      exact ⟨rfl, rfl⟩
    · rw [State.takeBraking_axle, if_pos hl]
      exact ⟨rfl, rfl⟩
  · have hexec : exec (.setLiftMode dt p) s = .next ((s.elapse dt).request 0x44 p (exactly 2) (State.setLiftMode p)) :=
      congrArg _ (State.live_on hp dt _)
    rw [hexec]
    refine ⟨fun h => congrArg _ (State.request_refuse hc (by decide) (State.setLiftMode_bad h)), fun a ha hw => ?_⟩
    obtain ⟨-, hauto, hdown, hup⟩ := liftModeOf_eq (n := byteAt p 1)
    have asks : ∀ {m}, liftModeOf (byteAt p 1) = some m → (s.taken dt).AsksMode p a m := fun hm => ⟨ha, hm, hw⟩
    have done : ∀ {u : State}, (s.taken dt).setLiftMode p = u.carry noData →
        (s.elapse dt).request 0x44 p (exactly 2) (State.setLiftMode p) = u.settle.answered 0x44 [] := fun h =>
      State.request_done (by omega) (exactly_eq_true.2 hc) h
    have refused : ∀ {c n}, (s.taken dt).setLiftMode p = (s.taken dt).refuse c n →
        (s.elapse dt).request 0x44 p (exactly 2) (State.setLiftMode p) = (s.taken dt).turnedAway 0x44 c n := fun h =>
      State.request_refuse hc (by decide) h
    refine ⟨fun hb hno => ?_, fun hpr => ⟨fun hb hl => ?_, fun hb hl => ?_, fun hb => ?_, fun hb hl =>
      ⟨fun n hn => ?_, State.heldUpRefusal_none, fun hn => ?_⟩⟩⟩
    · obtain ⟨m, hm⟩ : ∃ m, liftModeOf (byteAt p 1) = some m := by
        obtain h | h | h : byteAt p 1 = 0 ∨ byteAt p 1 = 1 ∨ byteAt p 1 = 2 := by omega
        · exact ⟨_, hauto h⟩
        · exact ⟨_, hdown h⟩
        · exact ⟨_, hup h⟩
      exact congrArg _ (refused ((asks hm).absent hno))
    · rcases hb with hb | hb
      · exact congrArg _ (refused ((asks (hauto hb)).fixed hpr hl (by decide)))
      · exact congrArg _ (refused ((asks (hup hb)).fixed hpr hl (by decide)))
    · exact congrArg _ (done ((asks (hauto hb)).taken hpr (.inl hl) nofun))
    · have k := (s.taken dt).takeMode_heldDown (a := a)
      exact ⟨_, congrArg _ (done ((asks (hdown hb)).taken hpr (.inr rfl) nofun)), k.mode, k.raisePending, k.lift, k.others⟩
    · exact congrArg _ (refused ((asks (hup hb)).refused hpr hl hn))
    · have k := (s.taken dt).takeMode_heldUp (a := a)
      refine ⟨_, congrArg _ (done ((asks (hup hb)).taken hpr (.inl hl) fun _ => hn)), k.mode, fun h1 h2 => ?_,
        fun h1 h2 h3 => k.raising h1 (State.heldUpMayRise_iff.2 ⟨h2, h3⟩), k.lift, k.others⟩
      refine k.pending h1 (Bool.eq_false_iff.2 fun hr => ?_)
      obtain ⟨hb', hs⟩ := State.heldUpMayRise_iff.1 hr
      rcases h2 with h2 | ⟨h3, h4⟩
      · exact absurd (h2.symm.trans hb') (by decide)
      · exact hs.elim h3 h4

end Sys2Proof.Machine
end

section
/-! SUPPORT. What a reload makes of the axles, the candidates and the ages: the axles take their lift states one by one, and
nothing after that touches them but the bounds of HELD UP axles (R65, R81, R171). -/
namespace Sys2Proof.Machine

section
variable {s t u : State} {a b : AxleId} {g : GroupId} {p : Position}

/-! ### Changes beside the axles -/

/-- A change that leaves the axles, the clock, the intake and the LIFT CHANGE notice. -/
structure State.BesideAxles (s t : State) : Prop where
  axles : t.loads.axles = s.loads.axles
  now : t.now = s.now
  intake : t.intake = s.intake
  liftChange : t.port.notices.liftChange = s.port.notices.liftChange

theorem State.BesideAxles.refl (s : State) : s.BesideAxles s := ⟨rfl, rfl, rfl, rfl⟩

theorem State.BesideAxles.trans (h : s.BesideAxles t) (k : t.BesideAxles u) : s.BesideAxles u :=
  ⟨k.axles.trans h.axles, k.now.trans h.now, k.intake.trans h.intake, k.liftChange.trans h.liftChange⟩

theorem State.BesideAxles.foldl {α : Type} {f : State → α → State} (hf : ∀ (t : State) a, t.BesideAxles (f t a))
    (l : List α) : s.BesideAxles (l.foldl f s) :=
  State.foldl_keeps (P := fun t => s.BesideAxles t) (fun t a ht => ht.trans (hf t a)) l (.refl s)

theorem State.BesideAxles.setPosition (r : PositionRecord) : s.BesideAxles (s.setPosition p r) := ⟨rfl, rfl, rfl, rfl⟩

theorem State.BesideAxles.setGroup (r : GroupRecord) : s.BesideAxles (s.setGroup g r) := ⟨rfl, rfl, rfl, rfl⟩

theorem State.BesideAxles.noteLevels (r : PositionRecord) : s.BesideAxles (s.noteLevels p r) := by
  unfold State.noteLevels
  split <;> exact ⟨rfl, rfl, rfl, rfl⟩

theorem State.BesideAxles.clearBound : s.BesideAxles (s.clearBound p) := by
  have hc : ∀ t : State, t.BesideAxles (t.comparePairOf p) := fun t => by
    obtain ⟨pairs, m, h⟩ := comparePairOf_frame t p
    rw [h]
    exact ⟨rfl, rfl, rfl, rfl⟩
  exact (State.BesideAxles.trans (.setPosition _) (.noteLevels _)).trans (hc _)

theorem State.BesideAxles.of_pairsOnly (h : s.PairsOnly t) : s.BesideAxles t := by
  rw [h]
  exact ⟨rfl, rfl, rfl, rfl⟩

theorem State.BesideAxles.reloadPosition (x : StoredPosition) : s.BesideAxles (s.reloadPosition p x) := by
  have h : s.BesideAxles (s.setPosition p { s.position p with pl := x.pl, pe := x.pe }) := .setPosition _
  unfold State.reloadPosition
  dsimp only
  split
  · split
    · exact (h.trans (.setPosition _)).trans (.noteLevels _)
    · split
      · exact h.trans .clearBound
      · exact h
  · exact h

theorem State.BesideAxles.followThird (c : Bool) : s.BesideAxles (s.followThird c) := by
  unfold State.followThird
  split <;> exact ⟨rfl, rfl, rfl, rfl⟩

theorem State.BesideAxles.followTransition : s.BesideAxles (s.followTransition g) := by
  unfold State.followTransition
  split
  · exact .setGroup _
  · split
    · exact .setGroup _
    · exact .refl s

/-- R17: with no learn window open, a position that exists no more loses at most its sensor. -/
theorem State.BesideAxles.retireByLayout (old : PerAxle AxleRecord) (hw : s.intake.window = none) :
    s.BesideAxles (s.retireByLayout old) := by
  refine State.foldl_keeps (P := fun t => s.BesideAxles t) (f := State.retireStep old) (fun t p ht => ht.trans ?_) _ (.refl s)
  have hn : ∀ v : State, v.BesideAxles (v.notePositionRetired p) := fun _ => ⟨rfl, rfl, rfl, rfl⟩
  by_cases hr : t.retires old p
  · rw [State.retireStep_of_retires hr]
    refine State.BesideAxles.trans ?_ (hn _)
    rcases (t.position p).state.cases_bound with h | h | h
    · exact absurd h hr.2.2
    · rw [State.retirePosition_learning h, State.cancelWindow_none (by rw [ht.intake, hw])]
      exact .refl t
    · rw [State.retirePosition_bound h]
      exact .clearBound
  · rw [State.retireStep_of_not_retires hr]
    exact .refl t

/-! ### The bounds of HELD UP axles -/

/-- R81: a record that stays, or is lowered from HELD UP. -/
def AxleRecord.Bounded (r : AxleRecord) (now : Nat) (x : AxleRecord) : Prop :=
  x = r ∨ r.mode = .heldUp ∧ r.lift.lifted = true ∧ x = r.toAuto.lowers now

theorem AxleRecord.toAuto_mode_ne (r : AxleRecord) (n : Nat) : (r.toAuto.lowers n).mode ≠ .heldUp := by
  rw [AxleRecord.toAuto_lowers_mode]
  split
  · decide
  · assumption

theorem AxleRecord.Bounded.trans {r x y : AxleRecord} {n : Nat} (h : r.Bounded n x) (k : x.Bounded n y) : r.Bounded n y := by
  rcases h with rfl | ⟨h1, h2, rfl⟩
  · exact k
  · rcases k with rfl | ⟨k, -⟩
    · exact .inr ⟨h1, h2, rfl⟩
    · exact absurd k (r.toAuto_mode_ne n)

/-- A change that, with no raise pending, reaches the axles by the bounds of HELD UP alone. -/
structure State.BoundsOnly (s t : State) : Prop where
  now : t.now = s.now
  intake : t.intake = s.intake
  liftChange : ∀ m, s.port.notices.liftChange &&& m = m → t.port.notices.liftChange &&& m = m
  axle : (∀ b, (s.axle b).raisePending = false) → ∀ a, (s.axle a).Bounded s.now (t.axle a)

theorem State.BesideAxles.bounds (h : s.BesideAxles t) : s.BoundsOnly t :=
  ⟨h.now, h.intake, fun m hm => by rw [h.liftChange, hm], fun _ a => .inl (by unfold State.axle; rw [h.axles])⟩

theorem State.BoundsOnly.refl (s : State) : s.BoundsOnly s := (State.BesideAxles.refl s).bounds

theorem State.BoundsOnly.noPending (h : s.BoundsOnly t) (hs : ∀ b, (s.axle b).raisePending = false) (b : AxleId) :
    (t.axle b).raisePending = false := by
  rcases h.axle hs b with k | ⟨-, -, k⟩ <;> rw [k]
  · exact hs b
  · exact hs b

theorem State.BoundsOnly.trans (h : s.BoundsOnly t) (k : t.BoundsOnly u) : s.BoundsOnly u :=
  ⟨k.now.trans h.now, k.intake.trans h.intake, fun m hm => k.liftChange m (h.liftChange m hm),
    fun hs a => (h.axle hs a).trans (h.now ▸ k.axle (h.noPending hs) a)⟩

theorem State.BoundsOnly.foldl {α : Type} {f : State → α → State} (hf : ∀ (t : State) a, t.BoundsOnly (f t a))
    (l : List α) : s.BoundsOnly (l.foldl f s) :=
  State.foldl_keeps (P := fun t => s.BoundsOnly t) (fun t a ht => ht.trans (hf t a)) l (.refl s)

theorem State.BoundsOnly.of_load (h : LoadChange s t)
    (ha : (∀ b, (s.axle b).raisePending = false) → ∀ a, (s.axle a).Bounded s.now (t.axle a)) : s.BoundsOnly t :=
  ⟨h.settles.offers.now, h.settles.offers.intake, fun _ hm => mask_grown h.settles.offers.notices.liftChange hm, ha⟩

theorem State.BoundsOnly.boundHeldUp : s.BoundsOnly (s.boundHeldUp a) := by
  refine .of_load (.boundHeldUp s a) fun _ b => ?_
  by_cases hc : (s.axle a).mode = .heldUp ∧
    (s.heldUpBound (s.axle a).layout.group < (s.group (s.axle a).layout.group).w ∨ 300 ≤ s.inputs.reference)
  · have hs : s.boundHeldUp a = s.lowerToAuto a := if_pos hc
    rw [hs]
    cases hl : (s.axle a).lift.lifted with
    | false =>
      rw [State.lowerToAuto_unlifted hl]
      exact .inl rfl
    | true =>
      by_cases hb : b = a
      · subst hb
        exact .inr ⟨hc.1, hl, State.lowerToAuto_lifted hl⟩
      · exact .inl (State.lowerToAuto_others hb)
  · rw [show s.boundHeldUp a = s from if_neg hc]
    exact .inl rfl

theorem State.BoundsOnly.boundGroup : s.BoundsOnly (s.boundGroup g) := .foldl (fun _ _ => .boundHeldUp) _

theorem State.BoundsOnly.formLoad : s.BoundsOnly (s.formLoad g) := by
  unfold State.formLoad
  split
  · exact State.BoundsOnly.trans (State.BesideAxles.setGroup _).bounds .boundGroup
  · exact .refl s

theorem State.BoundsOnly.dropFlag : s.BoundsOnly
    (if (s.axle a).mode = .auto then s.setAxle a { s.axle a with raisePending := false } else s) := by
  refine .of_load (.ite (fun _ => .setAxle s rfl) fun _ => .refl s) fun hs b => .inl ?_
  split
  · rw [State.setAxle_axle]
    split
    · rename_i hb
      rw [hb, ← hs a]
    · rfl
  · rfl

theorem State.BoundsOnly.endRaise (keep : Bool) : s.BoundsOnly (s.endRaise g keep) := by
  have h : s.BoundsOnly (s.setGroup g { s.group g with raiseSince := none, raiseDue := false }) :=
    (State.BesideAxles.setGroup _).bounds
  unfold State.endRaise
  dsimp only
  split
  · exact h
  · exact h.trans (.foldl (f := fun (t : State) a =>
      if (t.axle a).mode = .auto then t.setAxle a { t.axle a with raisePending := false } else t)
      (fun _ _ => .dropFlag) _)

theorem State.BoundsOnly.groupEnters : s.BoundsOnly (s.groupEnters g) := by
  unfold State.groupEnters
  dsimp only
  split
  · exact State.BoundsOnly.trans (State.BesideAxles.setGroup _).bounds .formLoad
  · exact (State.BesideAxles.setGroup _).bounds
  · exact (State.BesideAxles.setGroup _).bounds

theorem State.BoundsOnly.regroup (old : PerAxle AxleRecord) : s.BoundsOnly (s.regroup old g) := by
  unfold State.regroup
  refine .trans (.trans (.trans ?_ (State.BesideAxles.setGroup _).bounds) (.endRaise false))
    State.BesideAxles.followTransition.bounds
  split
  · split
    · exact .refl s
    · exact .groupEnters
  · exact (State.BesideAxles.setGroup _).bounds

theorem State.BoundsOnly.followLayout (old : PerAxle AxleRecord) (hw : s.intake.window = none) :
    s.BoundsOnly (s.followLayout old) :=
  .trans ((State.BesideAxles.retireByLayout old hw).trans (.of_pairsOnly State.deriveAllPairs_pairsOnly)).bounds
    (.foldl (fun _ _ => .regroup old) _)

theorem State.BoundsOnly.recalibrate : s.BoundsOnly (s.recalibrate g) := by
  unfold State.recalibrate
  split
  · exact .formLoad
  · exact .refl s
  · exact State.BoundsOnly.trans (State.BesideAxles.setGroup _).bounds .boundGroup

theorem State.BoundsOnly.reloadSettings (x : Settings) : s.BoundsOnly (s.reloadSettings x) := by
  have h : s.BesideAxles (s.setSettings x) := ⟨rfl, rfl, rfl, rfl⟩
  exact ((h.trans (.followThird _)).bounds.trans .recalibrate).trans .recalibrate

theorem State.BesideAxles.reloadPositions (x : Image) : s.BesideAxles (s.reloadPositions x) :=
  .foldl (fun _ _ => .reloadPosition _) _

end

end Sys2Proof.Machine
end

section
/-! SUPPORT. The record of each axle after a reload, the candidates and the ages it leaves, and the image that is saved and
restored (R65, R168 to R171). -/
namespace Sys2Proof.Machine

/-! ### The record of an axle -/

/-- R74: a record that takes a lift state. -/
def AxleRecord.takes (r : AxleRecord) (x : LiftState) (now : Nat) : AxleRecord :=
  if r.lift = x then r
  else { r with lift := x, liftSince := now, conflict := if x = .down then false else r.conflict }

/-- R65: a record that the lift mode of an image governs. -/
def AxleRecord.governed (r : AxleRecord) (now : Nat) : AxleRecord :=
  match r.mode with
  | .auto => r
  | .heldDown => if r.lift.lifted then r.lowers now else r
  | .heldUp => if r.lift = .up then r else { r with mode := .auto }

/-- R65: what a reload makes of a record, before any bound of HELD UP. -/
def AxleRecord.reloaded (old : AxleRecord) (new : StoredAxle) (now : Nat) : AxleRecord :=
  ((old.relaid new).takes (reloadedLift old new.layout) now).governed now

section
variable {old x : AxleRecord} {new : StoredAxle} {now : Nat}

theorem AxleRecord.reloaded_eq : old.reloaded new now =
    { layout := new.layout
      mode := if new.mode = .heldUp ∧ reloadedLift old new.layout ≠ .up then .auto else new.mode
      lift := if new.mode = .heldDown ∧ (reloadedLift old new.layout).lifted then .lowering
        else reloadedLift old new.layout
      raisePending := false
      conflict := false
      liftSince := if reloadedLift old new.layout = old.lift ∧
        ¬(new.mode = .heldDown ∧ (reloadedLift old new.layout).lifted) then old.liftSince else now
      lowerSince := none } := by
  have ht : (old.relaid new).takes (reloadedLift old new.layout) now =
      { old.relaid new with
        lift := reloadedLift old new.layout
        liftSince := if reloadedLift old new.layout = old.lift then old.liftSince else now } := by
    unfold AxleRecord.takes AxleRecord.relaid
    dsimp only
    split
    · rename_i h
      rw [← h, if_pos rfl]
    · rename_i h
      rw [if_neg (Ne.symm h)]
      simp
  unfold AxleRecord.reloaded
  rw [ht]
  unfold AxleRecord.governed AxleRecord.relaid
  dsimp only
  cases new.mode with
  | auto => simp
  | heldDown => cases h : (reloadedLift old new.layout).lifted <;> simp [AxleRecord.lowers]
  | heldUp => by_cases h : reloadedLift old new.layout = .up <;> simp [h]

theorem reloadedLift_gone (h : new.layout.present = false ∨ new.layout.liftable = false) :
    reloadedLift old new.layout = .down := by
  unfold reloadedLift
  rcases h with h | h <;> simp [h]

theorem reloadedLift_same (hp : new.layout.present = true) (hl : new.layout.liftable = true)
    (h : new.layout.valve2 = old.layout.valve2) : reloadedLift old new.layout = old.lift := by
  simp [reloadedLift, hp, hl, h]

theorem reloadedLift_moved (hp : new.layout.present = true) (hl : new.layout.liftable = true)
    (h : new.layout.valve2 ≠ old.layout.valve2) :
    reloadedLift old new.layout = if old.lift = .down then .down else .lowering := by
  unfold reloadedLift
  cases old.lift <;> simp [hp, hl, h]

/-- R65: the lift state and the lift mode of an axle after a reload. -/
structure AxleRecord.AsReloaded (old : AxleRecord) (new : StoredAxle) (now : Nat) (x : AxleRecord) : Prop where
  raisePending : x.raisePending = false
  conflict : x.conflict = false
  mode : new.mode ≠ .heldUp → x.mode = new.mode
  heldUp : new.mode = .heldUp → (x.mode = .heldUp ↔ x.lift = .up) ∧ (x.mode = .auto ↔ x.lift ≠ .up)
  gone : new.layout.present = false ∨ new.layout.liftable = false → x.lift = .down
  down : new.layout.present = true → new.layout.liftable = true → old.lift = .down → x.lift = .down
  lowering : new.layout.present = true → new.layout.liftable = true → old.lift = .lowering →
    x.lift = .lowering ∧ x.liftSince = old.liftSince
  lowered : new.layout.present = true → new.layout.liftable = true → old.lift = .raising ∨ old.lift = .up →
    new.layout.valve2 ≠ old.layout.valve2 ∨ new.mode = .heldDown → x.lift = .lowering ∧ x.liftSince = now
  kept : new.layout.present = true → new.layout.liftable = true → old.lift = .raising ∨ old.lift = .up →
    new.layout.valve2 = old.layout.valve2 → new.mode = .auto ∨ (new.mode = .heldUp ∧ old.lift = .raising) →
    x.lift = old.lift ∧ x.liftSince = old.liftSince
  up : new.layout.present = true → new.layout.liftable = true → new.layout.valve2 = old.layout.valve2 →
    new.mode = .heldUp → old.lift = .up → x.lift = .up ∨ x.lift = .lowering

theorem AxleRecord.reloaded_asReloaded : old.AsReloaded new now (old.reloaded new now) := by
  rw [AxleRecord.reloaded_eq]
  refine ⟨rfl, rfl, fun h => if_neg fun hc => h hc.1, fun h => ?_, fun h => ?_, fun hp hl h => ?_, fun hp hl h => ?_,
    fun hp hl h hv => ?_, fun hp hl h hv hm => ?_, fun hp hl hv hm h => ?_⟩
  · by_cases hu : reloadedLift old new.layout = .up <;> simp [h, hu]
  · simp [reloadedLift_gone h, LiftState.lifted]
  · by_cases hv : new.layout.valve2 = old.layout.valve2
    · simp [reloadedLift_same hp hl hv, h, LiftState.lifted]
    · simp [reloadedLift_moved hp hl hv, h, LiftState.lifted]
  · by_cases hv : new.layout.valve2 = old.layout.valve2
    · simp [reloadedLift_same hp hl hv, h, LiftState.lifted]
    · simp [reloadedLift_moved hp hl hv, h, LiftState.lifted]
  · by_cases hs : new.layout.valve2 = old.layout.valve2
    · have hm : new.mode = .heldDown := hv.resolve_left fun hc => hc hs
      rcases h with h | h <;> simp [reloadedLift_same hp hl hs, h, hm, LiftState.lifted]
    · rcases h with h | h <;> simp [reloadedLift_moved hp hl hs, h, LiftState.lifted]
  · rcases hm with hm | ⟨hm, -⟩ <;> simp [reloadedLift_same hp hl hv, hm]
  · simp [reloadedLift_same hp hl hv, hm, h]

/-- R81: a bound of HELD UP lowers only an axle that the reload leaves UP. -/
theorem AxleRecord.Bounded.asReloaded (h : (old.reloaded new now).Bounded now x) : old.AsReloaded new now x := by
  have hr := AxleRecord.reloaded_asReloaded (old := old) (new := new) (now := now)
  rcases h with rfl | ⟨hm, hl, rfl⟩
  · exact hr
  have hn : new.mode = .heldUp := by
    by_contra hc
    exact hc ((hr.mode hc).symm.trans hm)
  have hup : (old.reloaded new now).lift = .up := (hr.heldUp hn).1.1 hm
  have hno : ∀ {P : Prop} {y : LiftState}, (old.reloaded new now).lift = y → y ≠ .up → P := fun h1 h2 =>
    absurd (h1.symm.trans hup) h2
  have hauto : ((old.reloaded new now).toAuto.lowers now).mode = .auto := by
    rw [AxleRecord.toAuto_lowers_mode, if_pos hm]
  refine ⟨hr.raisePending, hr.conflict, fun hc => absurd hn hc, fun _ => ?_, fun h => hno (hr.gone h) (by decide),
    fun hp hl h => hno (hr.down hp hl h) (by decide), fun hp hl h => hno (hr.lowering hp hl h).1 (by decide),
    fun hp hl h hv => hno (hr.lowered hp hl h hv).1 (by decide), fun hp hl h hv hc => ?_, fun _ _ _ _ _ => .inr rfl⟩
  · rw [hauto]
    exact ⟨iff_of_false (by decide) nofun, iff_of_true rfl nofun⟩
  · rcases hc with hc | ⟨-, hc⟩
    · rw [hn] at hc
      cases hc
    · exact hno ((hr.kept hp hl h hv (.inr ⟨hn, hc⟩)).1.trans hc) (by decide)

end

section
variable {s t : State} {a b : AxleId} {l : LiftState} {x : Image}

/-! ### The lift states, axle by axle -/

theorem State.setLift_takes : (s.setLift a l).axle a = (s.axle a).takes l s.now := by
  unfold AxleRecord.takes
  by_cases h : (s.axle a).lift = l
  · rw [State.setLift_same h, if_pos h]
  · rw [State.setLift_axle h, if_pos rfl, if_neg h]

theorem State.governReloaded_governed : (s.governReloaded a).axle a = (s.axle a).governed s.now := by
  cases hm : (s.axle a).mode with
  | auto => simp only [State.governReloaded, AxleRecord.governed, hm]
  | heldDown =>
    simp only [State.governReloaded, AxleRecord.governed, hm]
    cases hl : (s.axle a).lift.lifted with
    | true => exact State.lowerAxle_lifted hl
    | false => rw [State.lowerAxle_unlifted hl, if_neg nofun]
  | heldUp =>
    simp only [State.governReloaded, AxleRecord.governed, hm]
    by_cases hu : (s.axle a).lift = .up
    · simp only [if_pos hu]
    · simp only [if_neg hu]
      rw [State.setAxle_axle, if_pos rfl]

theorem State.governReloaded_load : LoadChange s (s.governReloaded a) := by
  unfold State.governReloaded
  dsimp only
  split
  · exact .refl s
  · exact .lowerAxle s a
  · exact .ite (fun _ => .refl s) fun _ => .setAxle s rfl

theorem State.governReloaded_others (hb : b ≠ a) : (s.governReloaded a).axle b = s.axle b := by
  unfold State.governReloaded
  dsimp only
  split
  · rfl
  · exact State.lowerAxle_others hb
  · split
    · rfl
    · rw [State.setAxle_axle, if_neg hb]

/-- R65: one axle of a reload. -/
def State.liftReloaded (old : PerAxle AxleRecord) (s : State) (a : AxleId) : State :=
  (s.setLift a (reloadedLift (old.get a) (s.axle a).layout)).governReloaded a

theorem State.reloadLifts_eq (old : PerAxle AxleRecord) :
    s.reloadLifts old = AxleId.list.foldl (State.liftReloaded old) s := rfl

theorem State.liftReloaded_load (old : PerAxle AxleRecord) : LoadChange s (s.liftReloaded old a) :=
  .after State.governReloaded_load (.setLift s a _)

theorem State.liftReloaded_others (old : PerAxle AxleRecord) (hb : b ≠ a) : (s.liftReloaded old a).axle b = s.axle b :=
  (State.governReloaded_others hb).trans (State.setLift_others hb)

/-- R65: the record of each axle. -/
theorem State.reloadLifts_axle : ((s.relaid x).reloadLifts s.loads.axles).axle a =
    (s.axle a).reloaded (x.axles.get a) s.now := by
  obtain ⟨axles, hx⟩ := s.relaid_frame x
  have hn : (s.relaid x).now = s.now := by rw [hx]; rfl
  obtain ⟨u, hu, h1, h2⟩ := foldl_read (P := fun t => t.now = (s.relaid x).now) (read := State.axle)
    (f := State.liftReloaded s.loads.axles) (fun _ _ _ _ hq => State.liftReloaded_others _ hq)
    (fun t p ht => (t.liftReloaded_load s.loads.axles).settles.offers.now.trans ht) AxleId.list_nodup a.mem_list rfl
  have hg : s.loads.axles.get a = s.axle a := rfl
  rw [State.relaid_axle] at h1
  rw [State.reloadLifts_eq, h2, State.liftReloaded, State.governReloaded_governed, State.setLift_takes, State.setLift_now,
    h1, hu, hn, hg]
  rfl

/-- R85: LIFT CHANGE at the end of a transition. -/
theorem State.setLift_notes (hl : l = .up ∨ l = .down) (h : (s.axle a).lift ≠ l) :
    (s.setLift a l).port.notices.liftChange &&& bit (a.number - 1) = bit (a.number - 1) := by
  have hn := (LoadChange.after (.reportLift _ a l)
    (.evaluateAxle ((s.lifted a l).noteArrival a l) a)).settles.offers.notices.liftChange
  rw [State.setLift_eq h]
  refine mask_grown hn ?_
  rcases hl with rfl | rfl <;> exact mask_or_self _ _

/-- R65: an axle that a reload puts DOWN is reported. -/
theorem State.reloadLifts_notes (h : (s.axle a).lift ≠ .down)
    (hd : (x.axles.get a).layout.present = false ∨ (x.axles.get a).layout.liftable = false) :
    ((s.relaid x).reloadLifts s.loads.axles).port.notices.liftChange &&& bit (a.number - 1) = bit (a.number - 1) := by
  have hf : ((s.relaid x).reloadLifts s.loads.axles).axle a = (s.relaid x).axle a ∨
      ((s.relaid x).reloadLifts s.loads.axles).port.notices.liftChange &&& bit (a.number - 1) = bit (a.number - 1) := by
    rw [State.reloadLifts_eq]
    refine State.foldl_keeps (f := State.liftReloaded s.loads.axles) (P := fun t => t.axle a = (s.relaid x).axle a ∨
      t.port.notices.liftChange &&& bit (a.number - 1) = bit (a.number - 1)) (fun t b ht => ?_) _ (.inl rfl)
    rcases ht with ht | ht
    · by_cases hb : a = b
      · subst hb
        refine .inr (mask_grown State.governReloaded_load.settles.offers.notices.liftChange ?_)
        have hr : (t.axle a).layout = (x.axles.get a).layout ∧ (t.axle a).lift = (s.axle a).lift := by
          rw [ht, State.relaid_axle]
          exact ⟨rfl, rfl⟩
        rw [hr.1, reloadedLift_gone hd]
        exact State.setLift_notes (.inr rfl) (by rw [hr.2]; exact h)
      · exact .inl ((State.liftReloaded_others _ hb).trans ht)
    · exact .inr (mask_grown (t.liftReloaded_load s.loads.axles).settles.offers.notices.liftChange ht)
  refine hf.resolve_left fun hc => h ?_
  have hl := (AxleRecord.reloaded_asReloaded (old := s.axle a) (new := x.axles.get a) (now := s.now)).gone hd
  rw [← State.reloadLifts_axle, hc, State.relaid_axle] at hl
  exact hl

/-! ### The reload -/

/-- The state of a reload before the IDs of the image leave the candidate list. -/
def State.reloadedTable (s : State) (x : Image) : State :=
  ((s.reloadLayout x).reloadSettings x.settings).reloadPositions x

theorem State.reloadLifts_bounds (hw : s.intake.window = none) :
    ((s.relaid x).reloadLifts s.loads.axles).BoundsOnly (s.reloadedTable x) := by
  have hv : ((s.relaid x).reloadLifts s.loads.axles).intake.window = none := by
    rw [State.reloadLifts_intake, State.relaid_intake, hw]
  rw [State.reloadedTable, State.reloadLayout_eq]
  generalize (s.relaid x).reloadLifts s.loads.axles = v at *
  exact ((State.BoundsOnly.followLayout _ hv).trans (.reloadSettings _)).trans (State.BesideAxles.reloadPositions x).bounds

theorem State.reloadLifts_frame : ((s.relaid x).reloadLifts s.loads.axles).now = s.now ∧
    ((s.relaid x).reloadLifts s.loads.axles).intake = s.intake := by
  obtain ⟨axles, hx⟩ := s.relaid_frame x
  have hn : ((s.relaid x).reloadLifts s.loads.axles).now = (s.relaid x).now :=
    State.foldl_keeps (f := State.liftReloaded s.loads.axles) (P := fun t => t.now = (s.relaid x).now)
      (fun t _ ht => (t.liftReloaded_load s.loads.axles).settles.offers.now.trans ht) _ rfl
  refine ⟨hn.trans (by rw [hx]; rfl), ?_⟩
  rw [State.reloadLifts_intake, State.relaid_intake]

theorem State.reload_beside : s.reload x = (s.reloadedTable x).dropBound.compareAllPairs := rfl

theorem State.dropBound_compared : s.dropBound.BesideAxles s.dropBound.compareAllPairs :=
  .of_pairsOnly State.compareAllPairs_pairsOnly

theorem State.reload_axles : (s.reload x).loads.axles = (s.reloadedTable x).loads.axles := by
  rw [State.reload_beside, State.dropBound_compared.axles]
  rfl

/-- R65, R81: each axle after a reload. -/
theorem State.reload_axle (hw : s.intake.window = none) :
    (s.axle a).AsReloaded (x.axles.get a) s.now ((s.reload x).axle a) := by
  have hb := (State.reloadLifts_bounds (x := x) hw).axle (fun b => by
    rw [State.reloadLifts_axle]
    exact AxleRecord.reloaded_asReloaded.raisePending) a
  rw [State.reloadLifts_axle, State.reloadLifts_frame.1] at hb
  have hl : (s.reload x).axle a = (s.reloadedTable x).axle a := by rw [State.axle, State.reload_axles]; rfl
  rw [hl]
  exact hb.asReloaded

theorem State.reload_notes (hw : s.intake.window = none) (h : (s.axle a).lift ≠ .down)
    (hd : (x.axles.get a).layout.present = false ∨ (x.axles.get a).layout.liftable = false) :
    (s.reload x).port.notices.liftChange &&& bit (a.number - 1) = bit (a.number - 1) := by
  have hn : (s.reload x).port.notices.liftChange = (s.reloadedTable x).port.notices.liftChange := by
    rw [State.reload_beside, State.dropBound_compared.liftChange]
    rfl
  rw [hn]
  exact (State.reloadLifts_bounds hw).liftChange _ (State.reloadLifts_notes h hd)

/-- R171: the IDs of the image leave the candidate list. -/
theorem State.reload_candidates (hs : s.TableLaws) (hw : s.intake.window = none) (hx : x.tableLaw) (c : Candidate) :
    c ∈ (s.reload x).intake.candidates ↔
      c ∈ s.intake.candidates ∧ ∀ q b, (x.positions.get q).bound = some b → b.id ≠ c.bound.id := by
  have hi : (s.reload x).intake = (s.reloadedTable x).dropBound.intake := by
    rw [State.reload_beside, State.dropBound_compared.intake]
  have hk : (s.reloadedTable x).intake = s.intake :=
    (State.reloadLifts_bounds hw).intake.trans State.reloadLifts_frame.2
  have hb : ∀ q, ((s.reloadedTable x).position q).bound = (x.positions.get q).bound := fun q => by
    refine (congrArg RecordView.bound ((State.reloadable_of_window hs hw).view hx q)).trans ?_
    unfold PositionRecord.ofStored
    cases h : (x.positions.get q).bound <;> rfl
  rw [hi]
  show c ∈ List.filter (fun c => ((s.reloadedTable x).boundPosition c.bound.id).isNone)
    (s.reloadedTable x).intake.candidates ↔ _
  rw [List.mem_filter, hk, Option.isNone_iff_eq_none, State.boundPosition_none]
  refine and_congr_right fun _ => ⟨fun h q b hq hc => h q ?_, fun h q hc => ?_⟩
  · rw [hb, hq, Option.map_some, hc]
  · rw [hb] at hc
    obtain ⟨b, hq, hid⟩ := Option.map_eq_some_iff.1 hc
    exact h q b hq hid

end

end Sys2Proof.Machine
end

section
/-! SUPPORT. The ages that a reload leaves, and the image that is saved and restored (R65, R168 to R171). -/
namespace Sys2Proof.Machine

section
variable {s t : State} {a : AxleId} {x : Image} {p : Params} {dt : Nat}

/-! ### The positions of a reload -/

/-- R171: a sensor that the image binds awaits its first telegram with age 0. -/
theorem State.reloadPosition_age {q : Position} {y : StoredPosition} (he : s.positionExists q = true)
    (hb : y.bound.isSome = true) : ((s.reloadPosition q y).position q).age = some 0 := by
  obtain ⟨b, hb⟩ := Option.isSome_iff_exists.1 hb
  have hx : (s.setPosition q { s.position q with pl := y.pl, pe := y.pe }).positionExists q = true := he
  unfold State.reloadPosition
  dsimp only
  rw [if_pos hx, hb]
  simp [PositionRecord.awaitingFor]

theorem State.Reloadable.age (hs : s.Reloadable x) (hx : x.tableLaw) {q : Position}
    (hb : (x.positions.get q).bound.isSome = true) : ((s.reloadPositions x).position q).age = some 0 := by
  obtain ⟨u, hu, -, h⟩ := foldl_read (P := fun t => t.loads = s.loads) (read := State.position)
    (f := fun t p => t.reloadPosition p (x.positions.get p))
    (fun t p q _ hq => t.reloadPosition_position_ne hq _) (fun t p ht => (t.reloadPosition_loads p _).trans ht)
    Position.list_nodup q.mem_list rfl
  unfold State.reloadPositions
  rw [h]
  refine State.reloadPosition_age ?_ hb
  rw [State.positionExists_eq hu q, State.positionExists_of_layout hs.layout]
  exact hx.1 q hb

theorem State.position_of_pairsOnly (h : s.PairsOnly t) (q : Position) : t.position q = s.position q := by
  rw [h]
  rfl

theorem State.reload_age (hs : s.TableLaws) (hw : s.intake.window = none) (hx : x.tableLaw) {q : Position}
    (hb : (x.positions.get q).bound.isSome = true) : ((s.reload x).position q).age = some 0 := by
  rw [State.reload_beside, State.position_of_pairsOnly State.compareAllPairs_pairsOnly]
  exact (State.reloadable_of_window hs hw).age hx hb

/-- R171: the parameters, the sensor and the state of each position. -/
structure PositionRecord.AsRestored (y : StoredPosition) (r : PositionRecord) : Prop where
  pl : r.pl = y.pl
  pe : r.pe = y.pe
  bound : r.bound = y.bound
  state : r.state = if y.bound.isSome then .awaiting else .empty
  age : y.bound.isSome = true → r.age = some 0

theorem State.reload_position (hs : s.TableLaws) (hw : s.intake.window = none) (hx : x.tableLaw) (q : Position) :
    PositionRecord.AsRestored (x.positions.get q) ((s.reload x).position q) := by
  have hv := State.reload_record hs hw hx q
  have read : ∀ {β : Type} (f : RecordView → β), f ((s.reload x).position q).view =
      f (PositionRecord.ofStored (x.positions.get q)).view := fun f => congrArg f hv
  refine ⟨(read RecordView.pl).trans ?_, (read RecordView.pe).trans ?_, (read RecordView.bound).trans ?_,
    (read RecordView.state).trans ?_, fun h => State.reload_age hs hw hx h⟩
  all_goals
    unfold PositionRecord.ofStored
    cases (x.positions.get q).bound <;> rfl

/-! ### The image that is saved -/

theorem State.saveTables_begins (h : s.store.saving = none) : s.saveTables = s.beginSave.tell noData := by
  unfold State.saveTables
  rw [if_neg (by rw [h]; decide)]

theorem State.saveTables_busy (h : s.store.saving ≠ none) : s.saveTables = s.refuse .busy unnamed := by
  unfold State.saveTables
  rw [if_pos (Option.isSome_iff_ne_none.2 h)]

theorem PositionState.isBound_iff {x : PositionState} : x.isBound = true ↔ ¬(x = .empty ∨ x = .learning) := by
  cases x <;> decide

theorem PositionRecord.stored_bound (r : PositionRecord) :
    r.stored.bound = if r.state = .empty ∨ r.state = .learning then none else r.bound := by
  unfold PositionRecord.stored
  dsimp only
  by_cases h : r.state = .empty ∨ r.state = .learning
  · rw [if_pos h, if_neg (mt PositionState.isBound_iff.1 (not_not_intro h))]
  · rw [if_neg h, if_pos (PositionState.isBound_iff.2 h)]

theorem State.endSave_done {y : Saving} (h : s.store.saving = some y) (hd : y.since + 400000 ≤ s.now) (equal : Bool) :
    s.endSave equal = (s.setStore ⟨if equal then some (programmed y.snapshot) else none, equal, none⟩).noteStoreResult
      equal := by
  unfold State.endSave
  rw [h]
  exact if_pos hd

theorem State.endSave_waits {equal : Bool}
    (h : s.store.saving = none ∨ ∃ y, s.store.saving = some y ∧ s.now < y.since + 400000) : s.endSave equal = s := by
  unfold State.endSave
  rcases h with h | ⟨y, h, hd⟩ <;> rw [h]
  exact if_neg (Nat.not_le.2 hd)

theorem programmed_holds (x : Image) : (programmed x).holds = true := by
  simp [programmed, StoredImage.holds]

/-! ### The image that is restored -/

theorem State.restoreTables_conflict (hw : s.mode.workshop = .ready) (h : s.store.valid = false ∨ s.store.image = none) :
    s.restoreTables = s.refuse .conflict unnamed := by
  unfold State.restoreTables
  rw [State.gated_ready hw]
  rcases h with h | h <;> rw [h]
  cases s.store.valid <;> rfl

theorem State.restoreTables_loads {y : StoredImage} (hw : s.mode.workshop = .ready) (hv : s.store.valid = true)
    (hi : s.store.image = some y) : s.restoreTables = (s.cancelWindow.reload y.contents).carry noData := by
  unfold State.restoreTables
  rw [State.gated_ready hw, hv, hi]

theorem State.cancelWindow_now : s.cancelWindow.now = s.now := by
  rw [State.cancelWindow_frame]
  rfl

theorem State.cancelWindow_axle : s.cancelWindow.axle a = s.axle a := by
  rw [State.axle, State.cancelWindow_loads]
  rfl

end

/-- Settles O57, by the laws of the reload from a state without a learn window. -/
theorem tablesAreSavedAndRestored : Obligations.TablesAreSavedAndRestored := by
  intro dt p s hp
  have hsave : ∀ b, exec (.saveEnd dt b) s = .next ((s.elapse dt).endSave b) := fun b => congrArg _ (State.live_on hp dt _)
  have hask : exec (.saveTables dt p) s = .next ((s.elapse dt).request 0x70 p (exactly 0) State.saveTables) :=
    congrArg _ (State.live_on hp dt _)
  have hload : exec (.restoreTables dt p) s = .next ((s.elapse dt).request 0x71 p (exactly 0) State.restoreTables) :=
    congrArg _ (State.live_on hp dt _)
  refine ⟨fun hc h => ?_, fun hc h => ?_, ⟨rfl, fun a => ⟨?_, ?_⟩, fun q => ⟨?_, ?_, ?_⟩⟩, fun y hy hd => ⟨?_, ?_⟩,
    fun b h => ?_, fun x => ⟨programmed_holds x, rfl⟩, fun hc hw h => ?_, fun x hc hw hv hi hs => ?_⟩
  · rw [hask]
    exact congrArg _ (State.request_done (by omega) (exactly_eq_true.2 hc) (State.saveTables_begins h))
  · rw [hask]
    exact congrArg _ (State.request_refuse hc (by decide) (State.saveTables_busy h))
  · exact congrArg StoredAxle.layout (PerAxle.get_map _ _ _)
  · exact congrArg StoredAxle.mode (PerAxle.get_map _ _ _)
  · exact congrArg StoredPosition.pl (PerPosition.get_map _ _ _)
  · exact congrArg StoredPosition.pe (PerPosition.get_map _ _ _)
  · exact (congrArg StoredPosition.bound (PerPosition.get_map _ _ _)).trans (PositionRecord.stored_bound _)
  · rw [hsave, State.endSave_done (s := s.elapse dt) hy hd]
    rfl
  · rw [hsave, State.endSave_done (s := s.elapse dt) hy hd]
    rfl
  · rw [hsave, State.endSave_waits h]
  · rw [hload]
    exact congrArg _ (State.request_refuse hc (by decide) (State.restoreTables_conflict hw h))
  · have hs' : (s.taken dt).cancelWindow.TableLaws := (State.TableLaws.of_view _ _ (by simp) hs).cancelWindow
    have hn : (s.taken dt).cancelWindow.intake.window = none := State.cancelWindow_window
    have hx : x.contents.tableLaw := hs.image x hi
    have done := State.restoreTables_loads (s := s.taken dt) hw hv hi
    refine ⟨(s.taken dt).cancelWindow.reload x.contents, ?_, State.reload_settings _, State.reload_layout _, fun q => ?_,
      ?_, State.reload_window hn, fun c => ?_, ?_⟩
    · rw [hload]
      exact congrArg _ (State.request_done (by omega) (exactly_eq_true.2 hc) done)
    · obtain ⟨h1, h2, h3, h4, h5⟩ := State.reload_position hs' hn hx q
      exact ⟨h1, h2, h3, h4, h5⟩
    · rintro a _ _ rfl rfl
      have ha := State.reload_axle (a := a) (x := x.contents) hn
      rw [State.cancelWindow_axle, State.cancelWindow_now] at ha
      refine ⟨ha.raisePending, ha.conflict, ha.mode, ha.heldUp, fun h => ⟨ha.gone h, fun hl => ?_⟩, fun h1 h2 =>
        ⟨ha.down h1 h2, ha.lowering h1 h2, fun h => ⟨ha.lowered h1 h2 h, ha.kept h1 h2 h, ha.up h1 h2⟩⟩⟩
      exact State.reload_notes hn (by rw [State.cancelWindow_axle]; exact hl) h
    · rw [State.reload_candidates hs' hn hx, State.cancelWindow_candidates]
      rfl
    · rw [State.reload_store, State.cancelWindow_store]
      rfl

end Sys2Proof.Machine
end

section
/-! SUPPORT. The raise and lower measurements of the Load Unit, and the tests of a lifted axle by its tyres and its wheels
(R74, R76 to R78, R80, R83, R84). -/
namespace Sys2Proof.Machine

/-! ### The last axle of a list in order -/

theorem AxleId.number_injective {a b : AxleId} (h : a.number = b.number) : a = b := by
  have ha := AxleId.list_get a
  rw [h, AxleId.list_get] at ha
  exact (Option.some.inj ha).symm

theorem AxleId.list_sorted : AxleId.list.Pairwise fun a b => a.number < b.number := by decide

theorem AxleId.last_greatest {l : List AxleId} (hl : l.Pairwise fun a b => a.number < b.number) {a : AxleId}
    (h : l.getLast? = some a) : a ∈ l ∧ ∀ b ∈ l, b.number ≤ a.number := by
  obtain ⟨m, rfl⟩ := List.getLast?_eq_some_iff.1 h
  refine ⟨by simp, fun b hb => ?_⟩
  rcases List.mem_append.1 hb with hb | hb
  · exact ((List.pairwise_append.1 hl).2.2 b hb a (by simp)).le
  · rw [List.mem_singleton.1 hb]

theorem AxleId.getLast_iff {l : List AxleId} (hl : l.Pairwise fun a b => a.number < b.number) {a : AxleId} :
    l.getLast? = some a ↔ a ∈ l ∧ ∀ b ∈ l, b.number ≤ a.number := by
  refine ⟨AxleId.last_greatest hl, fun ⟨ha, hmax⟩ => ?_⟩
  cases h : l.getLast? with
  | none =>
    rw [List.getLast?_eq_none_iff.1 h] at ha
    cases ha
  | some c =>
    obtain ⟨hc, hg⟩ := AxleId.last_greatest hl h
    rw [AxleId.number_injective (le_antisymm (hg a ha) (hmax c hc))]

section
variable {s t : State} {a b : AxleId} {g k : GroupId} {x : LiftState}

/-! ### The raise measurement -/

/-- R77: an eligible axle of a group. -/
def State.EligibleIn (s : State) (g : GroupId) (a : AxleId) : Prop :=
  (s.axle a).layout.present = true ∧ (s.axle a).layout.group = g ∧ (s.axle a).layout.liftable = true ∧
    (s.axle a).lift = .down ∧ (s.axle a).mode = .auto

theorem AxleLayout.serves_iff {l : AxleLayout} : l.serves g = true ↔ l.present = true ∧ l.group = g := by
  simp [AxleLayout.serves]

theorem State.mem_groupAxles : a ∈ s.groupAxles g ↔ (s.axle a).layout.serves g = true := by
  simp [State.groupAxles, AxleId.mem_list]

theorem State.eligibleIn_iff : s.EligibleIn g a ↔ a ∈ (s.groupAxles g).filter fun a => (s.axle a).eligible := by
  rw [List.mem_filter, State.mem_groupAxles, AxleLayout.serves_iff]
  unfold State.EligibleIn
  simp only [AxleRecord.eligible, Bool.and_eq_true, decide_eq_true_eq]
  tauto

theorem State.chosenAxle_iff : s.chosenAxle g = some a ↔
    s.EligibleIn g a ∧ ∀ b, s.EligibleIn g b → b.number ≤ a.number := by
  simp only [State.eligibleIn_iff]
  exact AxleId.getLast_iff ((AxleId.list_sorted.filter _).filter _)

theorem State.chosenAxle_isSome : (s.chosenAxle g).isSome = true ↔ ∃ a, s.EligibleIn g a := by
  simp only [State.eligibleIn_iff]
  unfold State.chosenAxle
  rw [Option.isSome_iff_ne_none, ne_eq, List.getLast?_eq_none_iff, List.eq_nil_iff_forall_not_mem]
  exact not_forall_not

theorem State.EligibleIn.groupInUse (h : s.EligibleIn g a) : s.groupInUse g = true :=
  (countAxles_ne_zero _ s.loads.axles).2 ⟨a, AxleLayout.serves_iff.2 ⟨h.1, h.2.1⟩⟩

theorem State.decisionsRun_iff : s.decisionsRun = true ↔ s.mode.power = .awake ∧
    (s.mode.workshop = .off ∨ s.mode.workshop = .pending) ∧ (s.analog .sup).validity = .valid := by
  simp [State.decisionsRun, and_assoc]

theorem State.raiseRuns_iff : s.raiseRuns g = true ↔ s.decisionsRun = true ∧ (∃ a, s.EligibleIn g a) ∧
    2 ≤ (s.group g).n ∧ (s.group g).status = .valid ∧
    (s.group g).w * (s.group g).n / ((s.group g).n - 1) ≤ 700 * (s.calibration g).wl / 1000 := by
  simp only [State.raiseRuns, State.loadCondition, Bool.and_eq_true, decide_eq_true_eq,
    State.chosenAxle_isSome, and_assoc]
  refine and_congr_right fun _ => ⟨fun h => ⟨h.2.1, h.2.2.1, h.2.2.2.1, h.2.2.2.2⟩, fun h => ?_⟩
  obtain ⟨⟨a, ha⟩, h⟩ := h
  exact ⟨ha.groupInUse, ⟨a, ha⟩, h⟩

theorem State.followRaise_runs (h : s.raiseRuns g = true) (hd : (s.group g).raiseDue = false) :
    s.followRaise g = s.setGroup g { s.group g with raiseSince := some ((s.group g).raiseSince.getD s.now) } := by
  unfold State.followRaise
  rw [if_pos h]
  refine if_neg ?_
  rw [State.setGroup_group, if_pos rfl, hd]
  nofun

/-- R78: the flag of an AUTO axle clears. -/
def State.clearAuto (s : State) (a : AxleId) : State :=
  if (s.axle a).mode = .auto then s.setAxle a { s.axle a with raisePending := false } else s

/-- R78: the flags of the AUTO axles of a list clear. -/
def State.clearFlags (s : State) (l : List AxleId) : State := l.foldl State.clearAuto s

theorem State.clearAuto_axle : (s.clearAuto a).axle b =
    if b = a ∧ (s.axle a).mode = .auto then { s.axle a with raisePending := false } else s.axle b := by
  unfold State.clearAuto
  split
  · rename_i h
    rw [State.setAxle_axle]
    simp [h]
  · rename_i h
    rw [if_neg fun hc => h hc.2]

theorem State.clearFlags_axle {l : List AxleId} (hl : l.Nodup) : (s.clearFlags l).axle a =
    if a ∈ l ∧ (s.axle a).mode = .auto then { s.axle a with raisePending := false } else s.axle a := by
  have hf : ∀ (t : State) p q, True → q ≠ p → (t.clearAuto p).axle q = t.axle q := fun t p q _ hq => by
    rw [State.clearAuto_axle, if_neg fun hc => hq hc.1]
  by_cases ha : a ∈ l
  · obtain ⟨u, -, h1, h2⟩ := foldl_read (P := fun _ => True) (read := State.axle) hf (fun _ _ _ => trivial) hl ha
      (s := s) trivial
    rw [State.clearFlags, h2, State.clearAuto_axle, h1]
    simp [ha]
  · rw [if_neg fun hc => ha hc.1]
    exact foldl_read_of_not_mem (P := fun _ => True) (read := State.axle) hf (fun _ _ _ => trivial) ha trivial

/-- What clearing flags leaves. -/
theorem State.clearFlags_keeps (l : List AxleId) : (s.clearFlags l).loads.groups = s.loads.groups ∧
    (s.clearFlags l).now = s.now :=
  State.foldl_keeps (P := fun t => t.loads.groups = s.loads.groups ∧ t.now = s.now) (f := State.clearAuto)
    (fun t a ht => by
      unfold State.clearAuto
      split
      · exact ht
      · exact ht) l ⟨rfl, rfl⟩

theorem State.groupAxles_nodup : (s.groupAxles g).Nodup := AxleId.list_nodup.filter _

/-- R77: what the end of a raise measurement makes of the group and of the flags. -/
theorem State.endRaise_spec {keep : Bool} : ((s.endRaise g keep).group g).raiseSince = none ∧
    ((s.endRaise g keep).group g).raiseDue = false ∧
    ∀ a, (s.endRaise g keep).axle a = if keep = false ∧ (s.axle a).layout.serves g = true ∧ (s.axle a).mode = .auto then
      { s.axle a with raisePending := false } else s.axle a := by
  cases keep with
  | true =>
    have h : s.endRaise g true = s.setGroup g { s.group g with raiseSince := none, raiseDue := false } := rfl
    rw [h, State.setGroup_group, if_pos rfl]
    exact ⟨rfl, rfl, fun a => (if_neg nofun).symm⟩
  | false =>
    have h : s.endRaise g false = (s.setGroup g { s.group g with raiseSince := none, raiseDue := false }).clearFlags
      (s.groupAxles g) := rfl
    have hg : (s.endRaise g false).group g = { s.group g with raiseSince := none, raiseDue := false } := by
      rw [h, State.group, (State.clearFlags_keeps _).1]
      exact (State.setGroup_group _ _ _ _).trans (if_pos rfl)
    rw [hg, h]
    refine ⟨rfl, rfl, fun a => ?_⟩
    rw [State.clearFlags_axle State.groupAxles_nodup]
    simp only [State.mem_groupAxles, State.setGroup_axle, true_and]

/-- R77: the group and the flags where the raise measurement does not run. -/
theorem State.followRaise_stops (h : s.raiseRuns g = false) : ((s.followRaise g).group g).raiseSince = none ∧
    ((s.followRaise g).group g).raiseDue = false ∧
    ∀ a, (s.followRaise g).axle a = if s.decisionsRun = true ∧ (s.axle a).layout.serves g = true ∧
      (s.axle a).mode = .auto then { s.axle a with raisePending := false } else s.axle a := by
  unfold State.followRaise
  rw [if_neg (by rw [h]; decide)]
  split
  · obtain ⟨h1, h2, h3⟩ := State.endRaise_spec (s := s) (g := g) (keep := !s.decisionsRun)
    refine ⟨h1, h2, fun a => (h3 a).trans ?_⟩
    simp only [Bool.not_eq_false']
  · rename_i hc
    simp only [Bool.or_eq_true, not_or, Bool.not_eq_true, Option.isSome_eq_false_iff, Option.isNone_iff_eq_none] at hc
    exact ⟨hc.1.1, hc.1.2, fun a => (if_neg fun h => by simp [hc.2] at h).symm⟩

/-! ### The lower measurement and the valves -/

/-- R80: the load of an UP AUTO axle asks for its lowering. -/
def State.Heavy (s : State) (a : AxleId) : Prop :=
  s.decisionsRun = true ∧ (s.axle a).layout.present = true ∧ (s.axle a).layout.liftable = true ∧
    (s.axle a).lift = .up ∧ (s.axle a).mode = .auto ∧
    900 * (s.calibration (s.axle a).layout.group).wl / 1000 < (s.group (s.axle a).layout.group).w

theorem State.heavy_iff : s.Heavy a ↔ (s.decisionsRun && (s.axle a).layout.present && (s.axle a).layout.liftable &&
    decide ((s.axle a).lift = .up) && decide ((s.axle a).mode = .auto) &&
    decide (900 * (s.calibration (s.axle a).layout.group).wl / 1000 < (s.group (s.axle a).layout.group).w)) = true := by
  simp [State.Heavy, and_assoc]

theorem State.followLower_heavy (h : s.Heavy a) :
    s.followLower a = s.setAxle a { s.axle a with lowerSince := some ((s.axle a).lowerSince.getD s.now) } :=
  if_pos (State.heavy_iff.1 h)

theorem State.followLower_light (h : ¬s.Heavy a) : s.followLower a = s.setAxle a { s.axle a with lowerSince := none } :=
  if_neg (mt State.heavy_iff.2 h)

theorem State.reached_iff {since : Option Nat} {d : Nat} :
    s.reached since d = true ↔ ∃ t, since = some t ∧ t + d ≤ s.now := by
  cases since <;> simp [State.reached]

theorem State.liftValve_iff {second : Bool} : s.liftValve second = true ↔ s.mode.power ≠ .watch ∧ ∃ a,
    (s.axle a).layout.present = true ∧ (s.axle a).layout.liftable = true ∧ (s.axle a).layout.valve2 = second ∧
    ((s.axle a).lift = .raising ∨ (s.axle a).lift = .up) := by
  simp only [State.liftValve, State.liftValveOf, List.any_eq_true, Bool.and_eq_true, decide_eq_true_eq,
    LiftState.lifted_iff]
  constructor
  · rintro ⟨a, -, hv, ⟨⟨hp, hl⟩, hx⟩, hw⟩
    exact ⟨hw, a, hp, hl, hv, hx.symm⟩
  · rintro ⟨hw, a, hp, hl, hv, hx⟩
    exact ⟨a, a.mem_list, hv, ⟨⟨hp, hl⟩, hx.symm⟩, hw⟩

/-! ### Tyres and wheels -/

/-- R83: a present liftable axle that is RAISING or UP. -/
structure State.Aloft (s : State) (a : AxleId) : Prop where
  present : (s.axle a).layout.present = true
  liftable : (s.axle a).layout.liftable = true
  lifted : (s.axle a).lift.lifted = true

theorem State.Aloft.testTyres (h : s.Aloft a) : s.testTyres a =
    if s.otherTyre a isAlarm then
      if s.ownAlarm a then
        if (s.axle a).conflict then s else (s.setAxle a { s.axle a with conflict := true }).noteLiftConflict a
      else (s.setAxle a { s.axle a with conflict := false }).lowerToAuto a
    else s.setAxle a { s.axle a with conflict := false } := by
  unfold State.testTyres
  dsimp only
  rw [if_pos]
  rw [h.present, h.liftable, h.lifted]
  rfl

theorem State.Aloft.lowers (h : s.Aloft a) (ht : s.otherTyre a isAlarm = true) (ho : s.ownAlarm a = false) :
    (s.testTyres a).axle a = AxleRecord.lowers ({ s.axle a with conflict := false } : AxleRecord).toAuto s.now := by
  have hs : (s.setAxle a { s.axle a with conflict := false }).axle a = { s.axle a with conflict := false } :=
    State.setAxle_axle_self _ _ _
  rw [h.testTyres, if_pos ht, if_neg (by rw [ho]; decide), State.lowerToAuto_lifted (by rw [hs]; exact h.lifted), hs]
  rfl

theorem State.Aloft.conflicts (h : s.Aloft a) (ht : s.otherTyre a isAlarm = true) (ho : s.ownAlarm a = true) :
    (s.testTyres a).axle a = { s.axle a with conflict := true } ∧ (s.testTyres a).port.notices.liftConflict =
      if (s.axle a).conflict = true then s.port.notices.liftConflict
      else s.port.notices.liftConflict ||| bit (a.number - 1) := by
  rw [h.testTyres, if_pos ht, if_pos ho]
  split
  · rename_i hc
    exact ⟨by rw [← hc], rfl⟩
  · exact ⟨State.setAxle_axle_self _ _ _, rfl⟩

theorem State.Aloft.clear (h : s.Aloft a) (ht : s.otherTyre a isAlarm = false) :
    s.testTyres a = s.setAxle a { s.axle a with conflict := false } := by
  rw [h.testTyres, if_neg (by rw [ht]; decide)]

theorem State.testTyres_unlifted (h : (s.axle a).lift.lifted = false) : s.testTyres a = s := by
  unfold State.testTyres
  exact if_neg (by simp [h])

theorem State.wheelTurns_iff : s.wheelTurns a = true ↔ ∃ w, ((s.axle a).layout.left = some w ∨
    (s.axle a).layout.right = some w) ∧ (s.wheel w).valid = true ∧ 50 < (s.wheel w).speed := by
  simp only [State.wheelTurns, List.any_eq_true, List.mem_append, Option.mem_toList, Bool.and_eq_true,
    decide_eq_true_eq]

theorem State.enterWorkshopState_liftFault (m : Mode) :
    (s.enterWorkshopState m).port.notices.liftFault = s.port.notices.liftFault := by
  unfold State.enterWorkshopState
  dsimp only
  split <;> split <;> rfl

/-- R74: a change of a lift state reports no lift fault. -/
theorem State.setLift_liftFault : (s.setLift a x).port.notices.liftFault = s.port.notices.liftFault := by
  have quiet : ∀ {u v : State}, u.Quiet v → v.port.notices.liftFault = u.port.notices.liftFault := fun h => by
    obtain ⟨l, m, h⟩ := h.notices
    rw [h]
  by_cases h : (s.axle a).lift = x
  · rw [State.setLift_same h]
  have hn : ((s.lifted a x).noteArrival a x).port.notices.liftFault = (s.lifted a x).port.notices.liftFault := by
    unfold State.noteArrival
    split <;> rfl
  have he : (((s.lifted a x).noteArrival a x).evaluateAxle a).port.notices.liftFault = s.port.notices.liftFault :=
    ((quiet (.evaluateAxle a)).trans hn).trans (quiet State.lifted_quiet)
  rw [State.setLift_eq h]
  rcases State.reportLift_cases (s := ((s.lifted a x).noteArrival a x).evaluateAxle a) (a := a) (x := x) with k | k | k
  · rw [k, he]
  · rw [k]
    exact (State.enterWorkshopState_liftFault _).trans he
  · rw [k]
    exact (State.enterWorkshopState_liftFault _).trans he

theorem State.faultNoted_liftFault :
    (s.faultNoted a).port.notices.liftFault = s.port.notices.liftFault ||| bit (a.number - 1) := by
  unfold State.faultNoted
  dsimp only
  split
  · exact State.enterWorkshopState_liftFault _
  · rfl

/-- R85: a lift fault ends a LIFT step on the axle. -/
theorem State.faultNoted_mode {r : RunningStep} (hr : s.mode.running = some r)
    (hx : r.step = .lift a true ∨ r.step = .lift a false) : (s.faultNoted a).mode =
      { s.mode with workshop := .stepFault, running := none, result := .fault, cause := some .liftFault } := by
  have h : ((s.noteLiftFault a).setAxle a { s.axle a with mode := .heldDown }).liftStepOn a = true := by
    unfold State.liftStepOn
    rw [show ((s.noteLiftFault a).setAxle a { s.axle a with mode := .heldDown }).mode = s.mode from rfl, hr]
    simpa using hx
  unfold State.faultNoted
  dsimp only
  rw [if_pos h]
  exact State.enterWorkshopState_mode _

end

end Sys2Proof.Machine
end

section
/-! SUPPORT. A raise that falls due, the end of a transition and the lowering of the due axles of a group (R70, R74, R77, R78,
R80, R85). -/
namespace Sys2Proof.Machine

section
variable {s t : State} {a b : AxleId} {g k : GroupId} {x : LiftState} {r : RunningStep} {dt : Nat}

/-! ### The groups of an axle that takes a lift state -/

/-- R70: a group with the hold of a transition. -/
def GroupRecord.HeldByTransition (r : GroupRecord) : Prop := r.holdTransition = true ∧ r.status ≠ .valid

theorem State.followTransition_others (hk : k ≠ g) : (s.followTransition g).group k = s.group k := by
  unfold State.followTransition
  split
  · rw [State.setGroup_group, if_neg hk]
  · split
    · rw [State.setGroup_group, if_neg hk]
    · rfl

theorem State.followTransition_held (h : s.inTransition g = true) :
    ((s.followTransition g).group g).HeldByTransition := by
  unfold State.followTransition
  rw [if_pos h, State.setGroup_group, if_pos rfl]
  exact ⟨rfl, (s.group g).entered_status⟩

theorem GroupRecord.entered_n (r : GroupRecord) : r.entered.n = r.n := by
  unfold GroupRecord.entered
  cases r.status <;> rfl

theorem State.followTransition_n : ((s.followTransition g).group k).n = (s.group k).n := by
  by_cases hk : k = g
  · subst hk
    unfold State.followTransition
    split
    · rw [State.setGroup_group, if_pos rfl]
      exact GroupRecord.entered_n _
    · split
      · rw [State.setGroup_group, if_pos rfl]
      · rfl
  · rw [State.followTransition_others hk]

theorem State.followTransition_inTransition : (s.followTransition g).inTransition k = s.inTransition k := by
  unfold State.inTransition State.groupAxles State.axle
  rw [State.followTransition_axles]

/-- The counts of both groups at a change of a lift state. -/
def State.recounted (s : State) : State := (s.recount .g1).recount .g2

theorem State.recounted_n (g : GroupId) : (s.recounted.group g).n = axlesDown s.loads.axles g := by
  cases g <;> rfl

theorem State.setLift_loads (h : (s.axle a).lift ≠ x) : (s.setLift a x).loads = (s.lifted a x).loads := by
  rw [State.setLift_eq h, State.reportLift_loads, State.evaluateAxle_loads, State.noteArrival_loads]

/-- R77: the axles DOWN of a group are counted at a change of a lift state. -/
theorem State.setLift_counts (h : (s.axle a).lift ≠ x) (g : GroupId) :
    ((s.setLift a x).group g).n = axlesDown (s.setLift a x).loads.axles g := by
  unfold State.group
  rw [State.setLift_loads h, State.lifted_axles]
  have hn : ((s.lifted a x).group g).n = ((State.recounted _).group g).n :=
    State.followTransition_n.trans State.followTransition_n
  exact hn.trans (State.recounted_n g)

theorem State.followTransitions_held (h : s.inTransition g = true) :
    (((s.followTransition .g1).followTransition .g2).group g).HeldByTransition := by
  cases g with
  | g1 =>
    rw [State.followTransition_others (by decide)]
    exact State.followTransition_held h
  | g2 => exact State.followTransition_held (State.followTransition_inTransition.trans h)

/-- R70: an axle that begins RAISING holds the load of its group. -/
theorem State.setLift_raising_holds (h : (s.axle a).lift ≠ .raising) (hs : (s.axle a).layout.serves g = true) :
    ((s.setLift a .raising).group g).HeldByTransition := by
  unfold State.group
  rw [State.setLift_loads h]
  refine State.followTransitions_held ?_
  unfold State.inTransition
  refine List.any_eq_true.2 ⟨a, State.mem_groupAxles.2 ?_, ?_⟩
  · exact (congrArg (fun r : AxleRecord => r.layout.serves g) (State.setAxle_axle_self _ _ _)).trans hs
  · have hr := congrArg AxleRecord.lift (State.setAxle_axle_self s a { s.axle a with
      lift := .raising, liftSince := s.now, conflict := if LiftState.raising = .down then false else (s.axle a).conflict })
    exact Bool.or_eq_true_iff.2 (.inl (decide_eq_true hr))

/-! ### A raise that falls due -/

/-- R78: the start conditions of a raise that stand beside the brakes. -/
def State.mayStart (s : State) (a : AxleId) : Bool := !s.otherTyre a isWarning && s.supplySound && !s.stuActing

theorem State.mayStart_iff : s.mayStart a = true ↔
    s.otherTyre a isWarning = false ∧ s.supplySound = true ∧ s.stuActing = false := by
  simp [State.mayStart, and_assoc]

/-- R78: a group whose start conditions have been tested. -/
def State.tested (s : State) (g : GroupId) : State := s.setGroup g { s.group g with seen := s.startConditions g }

/-- R78: a group whose due raise waits for the brakes no more. -/
def State.freed (s : State) (g : GroupId) : State := (s.tested g).clearFlags (s.groupAxles g)

theorem State.testRaise_brakes (hc : s.chosenAxle g = some a) (hb : s.demands.braking = true) :
    s.testRaise g = (s.tested g).setAxle a { s.axle a with raisePending := true } := by
  have ht : (s.tested g).chosenAxle g = some a := hc
  have hs : (s.startConditions g).braking = true := hb
  unfold State.testRaise
  dsimp only
  rw [show s.setGroup g { s.group g with seen := s.startConditions g } = s.tested g from rfl, ht]
  dsimp only
  rw [if_pos hs]
  rfl

theorem State.testRaise_free (hc : s.chosenAxle g = some a) (hb : s.demands.braking = false) :
    s.testRaise g = if s.mayStart a then (s.freed g).setLift a .raising else s.freed g := by
  have ht : (s.tested g).chosenAxle g = some a := hc
  have hs : (s.startConditions g).braking = false := hb
  have hm : (!(s.startConditions g).tyreBar && (s.startConditions g).supplyOk && (s.startConditions g).stabilityOk) =
      s.mayStart a := by
    unfold State.startConditions State.mayStart
    dsimp only
    rw [hc]
  unfold State.testRaise
  dsimp only
  rw [show s.setGroup g { s.group g with seen := s.startConditions g } = s.tested g from rfl, ht]
  dsimp only
  rw [if_neg (by rw [hs]; decide), hm]
  rfl

theorem State.freed_axle (h : s.EligibleIn g a) : (s.freed g).axle a = { s.axle a with raisePending := false } := by
  obtain ⟨hp, hg, -, -, hm⟩ := h
  exact (State.clearFlags_axle State.groupAxles_nodup).trans
    (if_pos ⟨State.mem_groupAxles.2 (AxleLayout.serves_iff.2 ⟨hp, hg⟩), hm⟩)

theorem State.tested_raiseDue : ((s.tested g).group g).raiseDue = (s.group g).raiseDue := by
  rw [State.tested, State.setGroup_group, if_pos rfl]

theorem State.freed_raiseDue : ((s.freed g).group g).raiseDue = (s.group g).raiseDue := by
  rw [State.freed, State.group, (State.clearFlags_keeps _).1]
  exact State.tested_raiseDue

theorem State.testRaise_raiseDue (hc : s.chosenAxle g = some a) :
    ((s.testRaise g).group g).raiseDue = (s.group g).raiseDue := by
  cases hb : s.demands.braking with
  | true =>
    rw [State.testRaise_brakes hc hb]
    exact State.tested_raiseDue
  | false =>
    rw [State.testRaise_free hc hb]
    split
    · exact (State.setLift_sameHolds g).raiseDue.trans State.freed_raiseDue
    · exact State.freed_raiseDue

/-- R78: what the test of a due raise makes of the chosen axle and of its group. -/
structure State.RaiseTested (s : State) (g : GroupId) (a : AxleId) (t : State) : Prop where
  mode : (t.axle a).mode = .auto
  waits : s.demands.braking = true → (t.axle a).lift = .down ∧ (t.axle a).raisePending = true
  free : s.demands.braking = false → (t.axle a).raisePending = false
  starts : s.demands.braking = false → ((t.axle a).lift = .raising ↔
    s.otherTyre a isWarning = false ∧ s.supplySound = true ∧ s.stuActing = false)
  lift : s.demands.braking = false → (t.axle a).lift = .raising ∨ (t.axle a).lift = .down
  raising : (t.axle a).lift = .raising → (t.axle a).liftSince = s.now ∧ (t.group g).HeldByTransition

theorem State.testRaise_tested (hc : s.chosenAxle g = some a) : s.RaiseTested g a (s.testRaise g) := by
  have he : s.EligibleIn g a := (State.chosenAxle_iff.1 hc).1
  obtain ⟨hp, hg, -, hl, hm⟩ := id he
  cases hb : s.demands.braking with
  | true =>
    rw [State.testRaise_brakes hc hb]
    have ha : ((s.tested g).setAxle a { s.axle a with raisePending := true }).axle a =
        { s.axle a with raisePending := true } := State.setAxle_axle_self _ _ _
    refine ⟨?_, fun _ => ?_, fun h => ?_, fun h => ?_, fun h => ?_, fun h => ?_⟩
    · rw [ha]
      exact hm
    · rw [ha]
      exact ⟨hl, rfl⟩
    · rw [hb] at h
      cases h
    · rw [hb] at h
      cases h
    · rw [hb] at h
      cases h
    · rw [ha] at h
      cases hl.symm.trans h
  | false =>
    have no : ∀ {P : Prop}, s.demands.braking = true → P := fun h => by
      rw [hb] at h
      cases h
    have ha := State.freed_axle he
    have hf : ((s.freed g).axle a).lift = .down := by
      rw [ha]
      exact hl
    rw [State.testRaise_free hc hb]
    cases hs : s.mayStart a with
    | false =>
      rw [if_neg nofun]
      refine ⟨by rw [ha]; exact hm, fun h => no h, fun _ => by rw [ha], fun _ => ?_, fun _ => .inr hf, fun h => ?_⟩
      · rw [← State.mayStart_iff, hs, hf]
        exact iff_of_false nofun nofun
      · cases hf.symm.trans h
    | true =>
      rw [if_pos rfl]
      have hn : ((s.freed g).axle a).lift ≠ .raising := by
        rw [hf]
        decide
      obtain ⟨h1, h2, h3⟩ := State.setLift_fields (s := s.freed g) (a := a) (x := .raising) a
      rw [if_pos rfl] at h3
      refine ⟨by rw [h2, ha]; exact hm, fun h => no h, fun _ => by rw [h1, ha], fun _ => ?_, fun _ => .inl h3, fun _ =>
        ⟨?_, State.setLift_raising_holds hn ?_⟩⟩
      · rw [← State.mayStart_iff, hs, h3]
        exact iff_of_true rfl rfl
      · rw [State.setLift_axle hn, if_pos rfl]
        exact (State.clearFlags_keeps _).2
      · rw [ha]
        exact AxleLayout.serves_iff.2 ⟨hp, hg⟩

theorem State.raiseFallsDue_tests (hr : s.raiseRuns g = true) (hd : (s.group g).raiseDue = false)
    (hs : s.reached (s.group g).raiseSince 5000000 = true) :
    s.raiseFallsDue g = ((s.setGroup g { s.group g with raiseDue := true }).testRaise g).settle := by
  unfold State.raiseFallsDue
  rw [if_pos]
  rw [hr, hd]
  exact hs

theorem State.raiseFallsDue_waits (h : s.raiseRuns g = false ∨ (s.group g).raiseDue = true ∨
    s.reached (s.group g).raiseSince 5000000 = false) : s.raiseFallsDue g = s := by
  unfold State.raiseFallsDue
  refine if_neg fun hc => ?_
  simp only [Bool.and_eq_true, Bool.not_eq_true'] at hc
  obtain ⟨⟨h1, h2⟩, h3⟩ := hc
  rcases h with h | h | h
  · rw [h1] at h
    cases h
  · rw [h2] at h
    cases h
  · exact absurd (h3.symm.trans h) nofun

/-! ### The end of a transition -/

theorem State.transitionOver_iff {d : Nat} (hx : x.duration = some d) :
    s.transitionOver a x = true ↔ (s.axle a).lift = x ∧ (s.axle a).liftSince + d ≤ s.now := by
  unfold State.transitionOver
  rw [hx]
  simp

/-- R74, R85: what the end of a transition at `x` makes of the axle and of the rest, with a LIFT step that it completes. -/
structure State.Arrives (s : State) (a : AxleId) (x : LiftState) (up : Bool) (t : State) : Prop where
  lift : (t.axle a).lift = x
  conflict : x = .down → (t.axle a).conflict = false
  notice : t.port.notices.liftChange &&& bit (a.number - 1) = bit (a.number - 1)
  counts : ∀ g, (t.group g).n = axlesDown t.loads.axles g
  done : ∀ r, s.mode.running = some r → r.step = .lift a up →
    t.mode = { s.mode with workshop := .ready, running := none, result := .done, cause := none }
  mode : (∀ r, s.mode.running = some r → r.step ≠ .lift a up) → t.mode = s.mode
  others : ∀ b, b ≠ a → t.axle b = s.axle b

theorem Mode.reported_idle {m : Mode} (h : m.running = none) : m.reported a x = m := by
  unfold Mode.reported
  rw [h]
  rfl

theorem State.setLift_arrives (h : (s.axle a).lift ≠ x) {up : Bool} (hx : x = if up then .up else .down) :
    s.Arrives a x up (s.setLift a x) := by
  have hm := State.setLift_mode h
  refine ⟨?_, fun hd => ?_, State.setLift_notes (by cases up <;> simp [hx]) h, State.setLift_counts h,
    fun r hr hs => hm.trans ?_, fun hno => hm.trans ?_, fun b hb => State.setLift_others hb⟩
  · rw [State.setLift_axle h, if_pos rfl]
  · rw [State.setLift_axle h, if_pos rfl]
    exact if_pos hd
  · unfold Mode.reported
    rw [hr, Option.map_some, hs, hx]
    cases up <;> exact if_pos rfl
  · cases hr : s.mode.running with
    | none => exact Mode.reported_idle hr
    | some r =>
      refine Mode.reported_other hr ?_
      have hs := hno r hr
      by_cases ho : r.step = .lift a (!up)
      · cases up with
        | true => exact .inr (.inr (.inr ⟨ho, by rw [hx]; decide⟩))
        | false => exact .inr (.inr (.inl ⟨ho, hx⟩))
      · cases up with
        | true => exact .inl ⟨hs, ho⟩
        | false => exact .inl ⟨ho, hs⟩

/-! ### The due axles of a group -/

/-- R80: the axles of a group that are due to be lowered. -/
def State.dueAxles (s : State) (g : GroupId) : List AxleId := (s.groupAxles g).filter s.lowerDue

theorem State.mem_dueAxles : a ∈ s.dueAxles g ↔ (s.axle a).layout.serves g = true ∧ s.lowerDue a = true := by
  rw [State.dueAxles, List.mem_filter, State.mem_groupAxles]

theorem State.lowerGroup_due (h : a ∈ s.dueAxles g) : s.lowerGroup g = ((s.dueAxles g).foldl State.lowerAxle s).settle :=
  if_neg (List.ne_nil_of_mem h)

theorem State.lowerGroup_waits (h : ∀ a, (s.axle a).layout.serves g = true → s.lowerDue a = false) :
    s.lowerGroup g = s := by
  refine if_pos (List.eq_nil_iff_forall_not_mem.2 fun a ha => ?_)
  obtain ⟨h1, h2⟩ := State.mem_dueAxles.1 ha
  rw [h a h1] at h2
  cases h2

theorem State.lowerAxles_out {l : List AxleId} (h : a ∉ l) : (l.foldl State.lowerAxle s).axle a = s.axle a :=
  foldl_read_of_not_mem (P := fun _ => True) (read := State.axle) (fun _ _ _ _ hq => State.lowerAxle_others hq)
    (fun _ _ _ => trivial) h trivial

theorem State.lowerAxles_in {l : List AxleId} (hl : l.Nodup) (h : a ∈ l) (hx : (s.axle a).lift.lifted = true) :
    (l.foldl State.lowerAxle s).axle a = (s.axle a).lowers s.now := by
  obtain ⟨u, hu, h1, h2⟩ := foldl_read (P := fun t => t.now = s.now) (read := State.axle) (f := State.lowerAxle)
    (fun _ _ _ _ hq => State.lowerAxle_others hq)
    (fun t b ht => (LoadChange.lowerAxle t b).settles.offers.now.trans ht) hl h rfl
  rw [h2, State.lowerAxle_lifted (by rw [h1]; exact hx), h1, hu]

end

end Sys2Proof.Machine
end

section
/-! SUPPORT. The laws of the lifts, statement by statement, and their assembly (R70, R74, R76 to R78, R80, R83 to R85). -/
namespace Sys2Proof.Machine

section
variable {s : State} {a : AxleId} {g : GroupId} {dt : Nat}

/-! ### A lift fault -/

/-- R84: the axle, the notice and a LIFT step at a lift fault. -/
theorem State.judgeLiftFault_judged (h : s.liftFaulty a = true) :
    ((s.judgeLiftFault a).axle a).lift = .lowering ∧ ((s.judgeLiftFault a).axle a).mode = .heldDown ∧
    (s.judgeLiftFault a).port.notices.liftFault = s.port.notices.liftFault ||| bit (a.number - 1) ∧
    ∀ x, s.mode.running = some x → x.step = .lift a true ∨ x.step = .lift a false → (s.judgeLiftFault a).mode =
      { s.mode with workshop := .stepFault, running := none, result := .fault, cause := some .liftFault } := by
  have hf := (State.judgeLiftFault_axle h).1
  refine ⟨hf.lift, hf.mode, ?_, fun x hr hx => ?_⟩ <;> rw [State.judgeLiftFault_faulty h]
  · exact State.setLift_liftFault.trans State.faultNoted_liftFault
  · have hm := State.faultNoted_mode hr hx
    have hl : ((s.faultNoted a).axle a).lift ≠ .lowering := by
      rw [State.faultNoted_axle, if_pos rfl]
      exact fun hc => absurd ((State.liftFaulty_iff.1 h).2.2.1.symm.trans hc) nofun
    rw [State.setLift_mode hl, Mode.reported_idle (by rw [hm]), hm]

/-! ### The commands -/

theorem State.raiseFallsDue_elapsed (hr : s.raiseRuns g = true) (hd : (s.group g).raiseDue = false)
    (hc : s.chosenAxle g = some a) (ht : s.reached (s.group g).raiseSince 5000000 = true) :
    ∃ u : State, s.raiseFallsDue g = u.settle ∧ (u.group g).raiseDue = true ∧ s.RaiseTested g a u := by
  have hs : (s.setGroup g { s.group g with raiseDue := true }).chosenAxle g = some a := hc
  have k := State.testRaise_tested hs
  refine ⟨_, State.raiseFallsDue_tests hr hd ht, ?_, ⟨k.mode, k.waits, k.free, k.starts, k.lift, k.raising⟩⟩
  rw [State.testRaise_raiseDue hs, State.setGroup_group, if_pos rfl]

/-- R74: a transition ends when its time is over. -/
theorem State.transition_ends {x y : LiftState} {d : Nat} (hx : x.duration = some d) (hxy : x ≠ y) {up : Bool}
    (hy : y = if up then .up else .down) (hl : (s.axle a).lift = x) (ht : (s.axle a).liftSince + d ≤ s.now) :
    ∃ u : State, (if s.transitionOver a x then (s.setLift a y).settle else s) = u.settle ∧ s.Arrives a y up u :=
  ⟨s.setLift a y, if_pos ((State.transitionOver_iff hx).2 ⟨hl, ht⟩),
    State.setLift_arrives (fun h => hxy (hl.symm.trans h)) hy⟩

theorem State.transition_goes_on {x : LiftState} {d : Nat} (hx : x.duration = some d) (u : State)
    (h : (s.axle a).lift ≠ x ∨ s.now < (s.axle a).liftSince + d) : (if s.transitionOver a x then u else s) = s :=
  if_neg fun hc => by
    obtain ⟨hl, ht⟩ := (State.transitionOver_iff hx).1 hc
    rcases h with h | h
    · exact h hl
    · omega

/-- R80: the due axles of a group are lowered together, and no other. -/
theorem State.lowerGroup_lowers (h : ∃ a, (s.axle a).layout.serves g = true ∧ s.lowerDue a = true) :
    ∃ u : State, s.lowerGroup g = u.settle ∧ ∀ a,
      (a ∈ s.dueAxles g → (s.axle a).lift.lifted = true → u.axle a = (s.axle a).lowers s.now) ∧
      (a ∉ s.dueAxles g → u.axle a = s.axle a) := by
  obtain ⟨a, ha⟩ := h
  exact ⟨_, State.lowerGroup_due (State.mem_dueAxles.2 ha), fun b =>
    ⟨State.lowerAxles_in (State.groupAxles_nodup.filter _), State.lowerAxles_out⟩⟩

end

/-- Settles O46, by the rules of the measurements, of the tests of a lifted axle and of the commands. -/
theorem liftTransitionsRun : Obligations.LiftTransitionsRun := by
  refine ⟨fun s g eligible he => ?_, fun s a heavy hh => ?_, fun s second => State.liftValve_iff,
    fun s a r hr hp hl => ?_, fun dt s hp => ?_⟩
  · obtain rfl : eligible = s.EligibleIn g := funext fun a => propext (he a)
    refine ⟨State.decisionsRun_iff, fun _ => State.chosenAxle_iff, State.raiseRuns_iff, State.followRaise_runs, fun h => ?_⟩
    obtain ⟨h1, h2, h3⟩ := State.followRaise_stops h
    refine ⟨h1, h2, fun a => ⟨fun hd hs hm => (h3 a).trans (if_pos ⟨hd, hs, hm⟩), fun hn => (h3 a).trans (if_neg ?_)⟩⟩
    rintro ⟨hd, hs, hm⟩
    rcases hn with hn | hn | hn
    · rw [hd] at hn
      cases hn
    · rw [hs] at hn
      cases hn
    · exact hn hm
  · obtain rfl : heavy = s.Heavy a := propext hh
    exact ⟨State.followLower_heavy, State.followLower_light, State.reached_iff⟩
  · subst hr
    refine ⟨fun hx => ?_, fun hx => State.testTyres_unlifted (LiftState.lifted_false_iff.2 hx), State.wheelTurns_iff,
      fun hu hw hv => State.judgeLiftFault_judged (State.liftFaulty_iff.2 ⟨hp, hl, hu, hw, hv⟩), fun hn => ?_⟩
    · have ha : s.Aloft a := ⟨hp, hl, LiftState.lifted_iff.2 hx.symm⟩
      refine ⟨fun ht ho => ?_, fun ht ho => ha.conflicts ht ho, fun ht => ha.clear ht⟩
      rw [ha.lowers ht ho]
      exact ⟨rfl, rfl, rfl⟩
    · refine State.judgeLiftFault_sound (Bool.eq_false_iff.2 fun hc => ?_)
      obtain ⟨-, -, h1, h2, h3⟩ := State.liftFaulty_iff.1 hc
      rcases hn with hn | hn | hn
      · exact hn h1
      · rw [h2] at hn
        cases hn
      · omega
  · have hdue : ∀ g, exec (.raiseDue dt g) s = .next ((s.elapse dt).raiseFallsDue g) := fun g =>
      congrArg _ (State.live_on hp dt _)
    have hup : ∀ a, exec (.raiseComplete dt a) s = .next (if (s.elapse dt).transitionOver a .raising then
        ((s.elapse dt).setLift a .up).settle else s.elapse dt) := fun a => congrArg _ (State.live_on hp dt _)
    have hdown : ∀ a, exec (.lowerComplete dt a) s = .next (if (s.elapse dt).transitionOver a .lowering then
        ((s.elapse dt).setLift a .down).settle else s.elapse dt) := fun a => congrArg _ (State.live_on hp dt _)
    have hlow : ∀ g, exec (.autoLower dt g) s = .next ((s.elapse dt).lowerGroup g) := fun g =>
      congrArg _ (State.live_on hp dt _)
    refine ⟨fun g a hr hd hc ht => ?_, fun g h => ?_, fun a hl ht => ?_, fun a h => ?_, fun a hl ht => ?_, fun a h => ?_,
      fun g h => ?_, fun g h => ?_⟩
    · obtain ⟨u, hu, hd', k⟩ := State.raiseFallsDue_elapsed (s := s.elapse dt) hr hd hc ht
      rw [hdue, hu]
      exact ⟨u, rfl, hd', k.mode, k.waits, fun hb =>
        ⟨k.free hb, k.starts hb, k.lift hb, k.raising⟩⟩
    · rw [hdue, State.raiseFallsDue_waits (s := s.elapse dt) h]
    · obtain ⟨u, hu, k⟩ := State.transition_ends (s := s.elapse dt) (y := .up) (up := true) rfl (by decide) rfl hl ht
      rw [hup, hu]
      exact ⟨u, rfl, k.lift, k.notice, k.counts, k.done, k.mode, k.others⟩
    · rw [hup, State.transition_goes_on (s := s.elapse dt) rfl _ h]
    · obtain ⟨u, hu, k⟩ := State.transition_ends (s := s.elapse dt) (y := .down) (up := false) rfl (by decide) rfl hl ht
      rw [hdown, hu]
      exact ⟨u, rfl, k.lift, k.conflict rfl, k.notice, k.counts, k.done, k.mode, k.others⟩
    · rw [hdown, State.transition_goes_on (s := s.elapse dt) rfl _ h]
    · obtain ⟨u, hu, k⟩ := State.lowerGroup_lowers (s := s.elapse dt) h
      rw [hlow, hu]
      refine ⟨u, rfl, fun a => ⟨fun ⟨hs, hd, hx⟩ => ?_, fun hn => (k a).2 fun hc => ?_⟩⟩
      · have ha : u.axle a = (s.axle a).lowers (s.now + dt) :=
          (k a).1 (State.mem_dueAxles.2 ⟨hs, hd⟩) (LiftState.lifted_iff.2 hx)
        rw [ha]
        exact ⟨rfl, rfl, rfl⟩
      · obtain ⟨hs, hd⟩ := State.mem_dueAxles.1 hc
        rcases hn with hn | hn
        · exact absurd (hs.symm.trans hn) nofun
        · rw [hd] at hn
          cases hn
    · rw [hlow, State.lowerGroup_waits (s := s.elapse dt) h]

end Sys2Proof.Machine
end
